-- ==== Sys2Proof/Word.lean ====
section
/-! DEFINITION. The byte, the unit of the host port and of the lane frames (R56, R57). Quantities the manual
counts or measures are plain `Nat` or `Int`; only what it masks, shifts or sends as bits is a bit vector. -/

namespace Sys2Proof

/-- One byte of a host message or of a lane frame. -/
abbrev Byte := BitVec 8

end Sys2Proof
end

