-- ==== Sys2Proof/Syntax.lean ====
section
/-! DEFINITION. The commands of the part: one constructor per row of spec/opcode_table.json, with its operands. -/

namespace Sys2Proof

/-- A load class, lightest first (R150, R171). -/
inductive LoadClass where
  | empty | light | heavy
  deriving DecidableEq, Repr

/-- The rows of the table.

* A host command carries its argument bytes as the port received them (R57, R179).
* A transaction carries the bits the host clocked in on HDI, in the order sent, and whether HSEL was asserted
  while the slot was still PENDING and the reply was placed before the release (R175, R176; log 5).
* A pin or line event carries the levels or bits it brings (log 7, 8, 10). -/
inductive Instr where
  | powerOnReset
  | commandTransaction (hdi : List Bool) (beganPending : Bool)
  | readTransaction (hdi : List Bool) (beganPending : Bool)
  | setStation (args : List Byte)
  | setParameter (args : List Byte)
  | loadSegment (args : List Byte)
  | loadTagWindow (args : List Byte)
  | setEdition (args : List Byte)
  | start (args : List Byte)
  | submitOrder (args : List Byte)
  | cancelOrder (args : List Byte)
  | stop (args : List Byte)
  | resume (args : List Byte)
  | restart (args : List Byte)
  | sendRelay (args : List Byte)
  | lineReset (args : List Byte)
  | clearLift (args : List Byte)
  | forgetStation (args : List Byte)
  | queryStatus (args : List Byte)
  | queryOrders (args : List Byte)
  | queryCounters (args : List Byte)
  | readCacheEntry (args : List Byte)
  | invalidateCacheEntry (args : List Byte)
  | invalidateCacheSegment (args : List Byte)
  | invalidateCacheSet (args : List Byte)
  | readNotices (args : List Byte)
  | enableNotices (args : List Byte)
  | disableNotices (args : List Byte)
  | setAttention (args : List Byte)
  | readFaultRecord (args : List Byte)
  | clearFaultRecord (args : List Byte)
  | encoderPulse
  | tagRead (code : BitVec 16)
  | obstDeasserted
  | controlStep (obst : Bool) (loadc : LoadClass)
  | serviceStopComplete
  | emergencyStopComplete
  | driveStall
  | waitExpired
  | joinTimerExpiry
  | beaconTimerExpiry
  | windowR1Expiry
  | grant
  | contestTimerExpiry
  | editionRetryExpiry
  | holdoffTimerExpiry
  | entryStale (set way : Nat)
  | liftSensorChange (sup sdn : Bool) (loadc : LoadClass)
  | liftTimeout
  | frameClosed (bits : List Bool)
  | beaconReceived
  | claimReceived
  | enquireReceived
  | objectReceived
  | releaseReceived
  | withdrawReceived
  | relayReceived
  | transmissionStart
  | transmissionComplete
  | collision (bit : Nat)
  | backoffEnd
  | unknownCommand (kind : Byte) (args : List Byte)
  deriving DecidableEq, Repr

end Sys2Proof
end

