-- ==== Sys2Proof/WellFormed.lean ====
section
/-! DEFINITION. Which commands are well formed: the operand ranges that the table's rows admit. -/

namespace Sys2Proof

/-- The command kind codes of the table of section 11.3. -/
def hostKinds : List Nat :=
  [1, 2, 3, 4, 5, 6] ++ [16, 17, 18, 19, 20, 21, 22, 23, 24] ++
  [32, 33, 34, 35, 36, 37, 38, 39, 40, 41, 42, 43, 44]

/-- The first byte of a transaction, most significant bit first, or none where no whole byte was clocked (R175). -/
def firstByte (hdi : List Bool) : Option Nat :=
  if hdi.length < 8 then none
  else some ((hdi.take 8).foldl (fun n b => 2 * n + b.toNat) 0)

/-- Operand ranges: the argument length of a host command is one byte (R57); the first byte decides the kind of a
transaction (R175); UNKNOWN_COMMAND names a kind 1..255 outside the list (R179); a cache way is one of 16 times 4
(R115); a closing frame brings at least the bit that closes it (R37). -/
def Instr.wellFormed : Instr → Bool
  | .commandTransaction hdi _ => firstByte hdi != some 0
  | .readTransaction hdi _ => firstByte hdi == some 0
  | .setStation a | .setParameter a | .loadSegment a | .loadTagWindow a | .setEdition a | .start a
  | .submitOrder a | .cancelOrder a | .stop a | .resume a | .restart a | .sendRelay a | .lineReset a
  | .clearLift a | .forgetStation a | .queryStatus a | .queryOrders a | .queryCounters a | .readCacheEntry a
  | .invalidateCacheEntry a | .invalidateCacheSegment a | .invalidateCacheSet a | .readNotices a
  | .enableNotices a | .disableNotices a | .setAttention a | .readFaultRecord a | .clearFaultRecord a =>
      decide (a.length < 256)
  | .unknownCommand k a => decide (a.length < 256) && k.toNat != 0 && !hostKinds.contains k.toNat
  | .entryStale set way => decide (set < 16) && decide (way < 4)
  | .frameClosed bits => !bits.isEmpty
  | .powerOnReset | .encoderPulse | .tagRead _ | .obstDeasserted | .controlStep _ _ | .serviceStopComplete
  | .emergencyStopComplete | .driveStall | .waitExpired | .joinTimerExpiry | .beaconTimerExpiry
  | .windowR1Expiry | .grant | .contestTimerExpiry | .editionRetryExpiry | .holdoffTimerExpiry
  | .liftSensorChange _ _ _ | .liftTimeout | .beaconReceived | .claimReceived | .enquireReceived
  | .objectReceived | .releaseReceived | .withdrawReceived | .relayReceived | .transmissionStart
  | .transmissionComplete | .collision _ | .backoffEnd => true

end Sys2Proof
end

