-- ==== Sys2Proof/Decode.lean ====
section
/-! DEFINITION. Reading a command from a table word. The table gives no row any bits, so no word spells a
command: the part takes its commands from its pins and its host port, not from encoded words. -/

namespace Sys2Proof

/-- No row of spec/opcode_table.json gives bits, so every word is refused. -/
def decodeTableWord (_nbits _w : Nat) : Option Instr := none

end Sys2Proof
end

