-- ==== Sys2Proof/Config.lean ====
section
/-! DEFINITION. The free values: what the manual leaves open and the machine goes on with. -/

namespace Sys2Proof

/-- The two bytes a result field carries when its value does not fit two bytes. R57 gives distances and speeds
two bytes, while D reaches 144000 and D_end 288000 (R133) and H can exceed 65535; the manual states no value for
the field there. FREE VALUE (log 19): nothing in Lean knows it. -/
opaque Config.wideField : Int → BitVec 16

end Sys2Proof
end

