-- ==== Sys2Proof/Machine/State.lean ====
section
/-! DEFINITION. The state of the part, block by block as the manual's tables of owned state list it, as plain data;
the reasons a step can stop; and the state right after power-on reset. -/

namespace Sys2Proof.Machine

/-- A table by number, sorted by strictly rising keys; an unlisted key is the table's "no record". -/
abbrev Table (α : Type) := List (Nat × α)

/-! ## Station Control (chapter 2) and the parameters (R184) -/

/-- The station state (section 2.1). -/
inductive StationState where
  | setup | joining | running | halted
  deriving DecidableEq, Repr

/-- The eight halting causes, in the order of the table of section 2.4. -/
inductive Cause where
  | positionConflict | positionLost | duplicateStation | holdConflict | obstacle | overrun | driveStall | stop
  deriving DecidableEq, Repr

/-- A group selector: a mask bit of 1 is don't-care (R41). -/
structure Selector where
  value : Byte
  mask : Byte
  deriving DecidableEq, Repr

/-- What Station Control owns (R21, R22). The cause set lists each cause present, in the order of section 2.4. -/
structure Control where
  state : StationState
  number : Nat
  group1 : Selector
  group2 : Selector
  causes : List Cause
  joinTimer : Option Nat
  deriving DecidableEq, Repr

/-- The thirteen parameters (R184). -/
structure Params where
  carrierLength : Nat
  standOff : Nat
  margin : Nat
  reaction : Nat
  acceleration : Nat
  maxSpeed : Nat
  pulsePitch : Nat
  tolerance : Nat
  beaconPeriod : Nat
  window : Nat
  staleness : Nat
  waitLimit : Nat
  liftTimeout : Nat
  deriving DecidableEq, Repr

/-! ## Position Unit (chapter 1) -/

/-- The two ends of a segment. -/
inductive End where
  | a | b
  deriving DecidableEq, Repr

/-- FORWARD is travel toward the B end, REVERSE toward the A end (R2). -/
inductive Direction where
  | forward | reverse
  deriving DecidableEq, Repr

/-- The four segment kinds (section 1.1). -/
inductive SegKind where
  | lane | siding | bay | dock
  deriving DecidableEq, Repr

/-- A link: the neighbour segment and the neighbour end (R2). -/
structure Link where
  seg : Nat
  far : End
  deriving DecidableEq, Repr

/-- A segment record; its number is its key in the Track Map (section 1.1). -/
structure Segment where
  length : Nat
  kind : SegKind
  cap : Nat
  aLinks : List Link
  bLinks : List Link
  deriving DecidableEq, Repr

/-- A tag window (R6). -/
structure TagWindow where
  first : Nat
  last : Nat
  base : Nat
  deriving DecidableEq, Repr

/-- A marker plate: segment and plate 0..3 (R5). -/
structure Marker where
  seg : Nat
  plate : Nat
  deriving DecidableEq, Repr

/-- Where the carrier's centre is; the offset is in µm from the A end (R9). -/
structure Centre where
  seg : Nat
  offset : Nat
  dir : Direction
  deriving DecidableEq, Repr

/-- What the Position Unit owns. `endLost` records that R12 has raised POSITION_LOST since START. -/
structure PositionUnit where
  map : Table Segment
  edition : Nat
  windows : Vector TagWindow 8
  unmapped : List Nat
  centre : Option Centre
  expected : Option Marker
  misses : Nat
  endLost : Bool
  pulses : Nat
  deriving DecidableEq, Repr

/-! ## Lane Line Controller (chapter 3) -/

/-- The mark of a held segment (R59). -/
inductive Mark where
  | reserved | occupied
  deriving DecidableEq, Repr

/-- One held segment with its mark (R59). -/
structure HeldEntry where
  seg : Nat
  mark : Mark
  deriving DecidableEq, Repr

/-- The reason of an OBJECT (R56). -/
inductive Reason where
  | heldReserved | heldOccupied | precedence | edition
  deriving DecidableEq, Repr

/-- The body of a BEACON (R53, R56). -/
structure BeaconBody where
  centreSeg : Nat
  offset : Nat
  dir : Direction
  state : StationState
  speed : Nat
  urgency : Nat
  waitingFor : Nat
  held : List HeldEntry
  deriving DecidableEq, Repr

/-- The body of a frame, by kind (R56). -/
inductive Body where
  | beacon (b : BeaconBody)
  | claim (number round urgency waited : Nat) (segs : List Nat)
  | object (number seg : Nat) (reason : Reason) (waitingFor urgency : Nat)
  | withdraw (number : Nat)
  | release (segs : List Nat)
  | enquire (segs : List Nat)
  | relay (payload : List Byte)
  deriving DecidableEq, Repr

/-- A lane frame without its check field (R56). -/
structure Frame where
  dest : Nat
  source : Nat
  edition : Nat
  body : Body
  deriving DecidableEq, Repr

/-- A frame in the receive buffer with its arrival time (R42). -/
structure Received where
  frame : Frame
  arrival : Nat
  deriving DecidableEq, Repr

/-- What a transmit queue entry holds: a BEACON's content is formed when its transmission starts, every other
content is fixed at admission (R44). -/
inductive TxContent where
  | beacon
  | fixed (body : Body)
  deriving DecidableEq, Repr

/-- A transmit queue entry (R44). -/
structure TxEntry where
  dest : Nat
  content : TxContent
  attempts : Nat
  inFlight : Bool
  removed : Bool
  deriving DecidableEq, Repr

/-- The receiver (section 3.2): the run of 1 bits last read, and in FRAME the bits gathered so far. -/
inductive Receiver where
  | off
  | hunt (ones : Nat)
  | frame (ones : Nat) (content : List Bool)
  deriving DecidableEq, Repr

/-- The transmitter: the frame being sent stands with the bits it puts on the line (R35, R49, R50). -/
inductive Transmitter where
  | off
  | idle
  | sending (frame : Frame) (bits : List Bool)
  | backoff (slots : Nat)
  deriving DecidableEq, Repr

/-- The line counters (R55). -/
structure LineCounters where
  crcBad : Nat
  aborted : Nat
  tooLong : Nat
  tooShort : Nat
  malformed : Nat
  noStation : Nat
  rxOverrun : Nat
  framesTaken : Nat
  framesSent : Nat
  collisions : Nat
  lineFail : Nat
  txDropped : Nat
  deriving DecidableEq, Repr

/-- What the Lane Line Controller owns. `abortBits` holds what the transmitter put on the line after a frame it
stopped: the abort pattern, and nothing after a frame sent whole (R35). -/
structure LaneLine where
  receiver : Receiver
  transmitter : Transmitter
  abortBits : List Bool
  rx : List Received
  tx : List TxEntry
  discards : Nat
  degraded : Bool
  counters : LineCounters
  beaconTimer : Option Nat
  deriving DecidableEq, Repr

/-! ## Claim Engine (chapters 4 and 6) -/

/-- The states of the claim record (R63). -/
inductive ClaimState where
  | idle | queuedR1 | windowR1 | queuedR2 | windowR2 | blocked | contested | holdoff
  deriving DecidableEq, Repr

/-- The phases of a holdoff (R107, R108). -/
inductive HoldoffPhase where
  | stopping | waiting
  deriving DecidableEq, Repr

/-- The holdoff: partner station X, partner segment w_X and the holdoff timer (chapter 6). -/
structure Holdoff where
  phase : HoldoffPhase
  partner : Nat
  partnerSeg : Nat
  timer : Option Nat
  deriving DecidableEq, Repr

/-- The rival of a CONTESTED wait and its claim number, which may be absent (R63). -/
structure Rival where
  station : Nat
  number : Option Nat
  deriving DecidableEq, Repr

/-- The claim record (R63). `lastStale` records that a BLOCKED wait's segment was last found STALE (R68, R116). -/
structure ClaimRecord where
  state : ClaimState
  number : Nat
  segs : List Nat
  urgency : Nat
  waited : Nat
  round : Nat
  attemptTime : Nat
  windowTimer : Option Nat
  waitSeg : Option Nat
  holder : Option Nat
  rival : Option Rival
  contestTimer : Option Nat
  holdoff : Option Holdoff
  lastStale : Bool
  deriving DecidableEq, Repr

/-- A peer's last reported waiting-for and urgency (R103). -/
structure PeerReport where
  waitingFor : Nat
  urgency : Nat
  deriving DecidableEq, Repr

/-- The removal outstanding: the claim number, and whether a WITHDRAW is owed if the frame completes (R72). -/
structure Removal where
  number : Nat
  owed : Bool
  deriving DecidableEq, Repr

/-- What the Claim Engine owns. -/
structure ClaimEngine where
  held : List HeldEntry
  record : ClaimRecord
  counter : Nat
  waited : Nat
  waitedSeg : Option Nat
  waitedTag : Option Nat
  removal : Option Removal
  retryTimer : Option Nat
  enquiries : Table Nat
  peerWait : Option PeerReport
  reports : Table PeerReport
  waitLimitYield : Bool
  expired : Bool
  deriving DecidableEq, Repr

/-! ## Lane Responder (chapter 5) -/

/-- A pair of the conflict-segment set (R95). -/
structure ConflictPair where
  seg : Nat
  station : Nat
  deriving DecidableEq, Repr

/-- What the Lane Responder owns. -/
structure LaneResponder where
  conflicts : List ConflictPair
  overflow : Bool
  editionMarks : List Nat
  duplicate : Bool
  deriving DecidableEq, Repr

/-! ## Peer Holding Cache (chapter 7) -/

/-- The status of a cache entry (R115). -/
inductive CacheStatus where
  | held | stale | none
  deriving DecidableEq, Repr

/-- The kind of frame that last wrote an entry's status (R115). -/
inductive Source where
  | beacon | object | release
  deriving DecidableEq, Repr

/-- A valid cache entry (R115). -/
structure CacheEntry where
  seg : Nat
  holder : Nat
  mark : Option Mark
  status : CacheStatus
  age : Nat
  pins : List Nat
  source : Option Source
  deriving DecidableEq, Repr

/-- The cache: the valid ways under the key 4 × set + way; an unlisted way is invalid (R115). -/
structure PeerCache where
  ways : Table CacheEntry
  full : Nat
  refused : Nat
  deriving DecidableEq, Repr

/-! ## Motion Controller (chapter 8) -/

/-- The members of the service stop requests (R142). -/
inductive StopMember where
  | yield | waitLimit | cancel | front
  deriving DecidableEq, Repr

/-- The emergency latch (R143). -/
inductive Latch where
  | none | braking | complete
  deriving DecidableEq, Repr

/-- What set the target: the terms of R139 in its order, then the cases in which the target is 0, in its order. -/
inductive TargetTerm where
  | maxSpeed | orderCap | bodyCap | vAuth | vSlower | vEnd | serviceStop | noOrder | reversal | lift
  deriving DecidableEq, Repr

/-- The figures of a control step besides D (R135 to R139). -/
structure Figures where
  dEnd : Option Int
  v : Nat
  r : Nat
  h : Nat
  lead : Nat
  hCap : Nat
  vAuth : Nat
  vEnd : Option Nat
  target : Nat
  term : TargetTerm
  deriving DecidableEq, Repr

/-- What the Motion Controller owns. The drive command, SPD and BRK are views of it (R131). `latchReported` records
that the present halt's first completion has been reported (R143); `brakeRate` is the rate given on BRK (R132). -/
structure Motion where
  commanded : Nat
  measured : Nat
  requests : List StopMember
  stopZero : Nat
  latch : Latch
  latchZero : Nat
  latchReported : Bool
  stall : Nat
  overrunMark : Bool
  reversalPending : Bool
  authority : Option Int
  figures : Option Figures
  brakeRate : Nat
  deriving DecidableEq, Repr

/-! ## Order Queue (chapter 9) and Lift Unit (chapter 10) -/

/-- The end action of an order (R150). -/
inductive EndAction where
  | none | lift | lower
  deriving DecidableEq, Repr

/-- The state of an order (R150). -/
inductive OrderState where
  | queued | active | suspended | finishing
  deriving DecidableEq, Repr

/-- Why an order was suspended (R150). -/
inductive SuspendReason where
  | front | yield | halt
  deriving DecidableEq, Repr

/-- An order record (R150). -/
structure Order where
  tag : Nat
  path : List Nat
  endAction : EndAction
  endOffset : Nat
  urgency : Nat
  loadClass : LoadClass
  cap : Nat
  front : Bool
  state : OrderState
  reason : Option SuspendReason
  activations : Nat
  deriving DecidableEq, Repr

/-- What the Order Queue owns. -/
structure OrderQueue where
  list : List Order
  effective : LoadClass
  cancelMark : Option Nat
  deriving DecidableEq, Repr

/-- The state of the lift (R166). -/
inductive LiftState where
  | down | raising | up | lowering | jammed
  deriving DecidableEq, Repr

/-- The lift operation: the end action and the tag of the FINISHING order (chapter 10). -/
structure LiftOperation where
  action : EndAction
  tag : Nat
  deriving DecidableEq, Repr

/-- What the Lift Unit owns. LUP and LDN are views of the lift state (R166). -/
structure LiftUnit where
  state : LiftState
  timer : Option Nat
  operation : Option LiftOperation
  measured : Option LoadClass
  deriving DecidableEq, Repr

/-! ## Host Port (chapter 11) -/

/-- The reply statuses (R57, R180). -/
inductive Status where
  | done | accepted | clamped | refusedState | refusedArgument | refusedFull | busy
  deriving DecidableEq, Repr

/-- A reply: the kind answered, the status and the result bytes (R57). -/
structure Reply where
  kind : Nat
  status : Status
  results : List Byte
  deriving DecidableEq, Repr

/-- A command taken and not yet executed, how many buffered frames go before it (R178), and whether its reply
will overwrite an unread one (R177). -/
structure TakenCommand where
  kind : Nat
  args : List Byte
  framesAhead : Nat
  overwrites : Bool
  deriving DecidableEq, Repr

/-- The reply slot (chapter 11). -/
inductive Slot where
  | empty
  | pending (c : TakenCommand)
  | full (r : Reply)
  deriving DecidableEq, Repr

/-- What the Host Port owns. `hdo` holds the bytes sent on HDO in the latest transaction (R175, R176). -/
structure HostPort where
  slot : Slot
  hdo : List Byte
  overwritten : Nat
  discarded : Nat
  framing : Nat
  deriving DecidableEq, Repr

/-! ## Notice Unit (chapter 12) -/

/-- The 25 notice kinds, in the order of their codes (R186). -/
inductive NoticeKind where
  | holdConflict | positionConflict | positionLost | overrun | obstacle | driveStall | duplicateStation
  | yieldNeeded | waitExpired | liftTimeout | orderFailed | editionMismatch | lineDegraded
  | orderDone | orderCancelled | orderActive | stateChanged | relayReceived | loadUpgraded | noticesLost
  | drift | tagMissed | tagUnmapped | capEntry | relayDiscarded
  deriving DecidableEq, Repr

/-- A notice; its class is fixed by its kind (R186). -/
structure Notice where
  kind : NoticeKind
  time : Nat
  tag : Option Nat
  seg : Option Nat
  station : Option Nat
  detail : Option Nat
  payload : Option (List Byte)
  deriving DecidableEq, Repr

/-- The ten fault kinds (R191). -/
inductive FaultKind where
  | holdConflict | positionConflict | positionLost | overrun | obstacle | driveStall | duplicateStation
  | liftTimeout | rxOverrun | txOverflow
  deriving DecidableEq, Repr

/-- A captured fault (R191). -/
structure FaultRecord where
  kind : FaultKind
  time : Nat
  centreSeg : Nat
  centreOffset : Nat
  commanded : Nat
  station : Option Nat
  seg : Option Nat
  detail : Option Nat
  overflow : Bool
  further : Nat
  deriving DecidableEq, Repr

/-- What the Notice Unit owns. ATTN is a view of it (R190); `disabled` lists the kinds whose enable is off. -/
structure NoticeUnit where
  queue : List Notice
  disabled : List NoticeKind
  lost : Nat
  threshold : Nat
  trigger : Nat
  now : Nat
  fault : Option FaultRecord
  deriving DecidableEq, Repr

/-! ## The whole machine -/

/-- The levels of the input lines OBST, SUP, SDN and LOADC as last brought (log 10). -/
structure Pins where
  obst : Bool
  sup : Bool
  sdn : Bool
  loadc : LoadClass
  deriving DecidableEq, Repr

/-- The state of the part, with the queue of commands waiting and the count of ms within the 10 ms of the control
step, the model's own two fields (log 2). -/
structure State where
  pending : List Instr
  phase : Nat
  pins : Pins
  control : Control
  params : Params
  pos : PositionUnit
  line : LaneLine
  claim : ClaimEngine
  resp : LaneResponder
  cache : PeerCache
  motion : Motion
  orders : OrderQueue
  lift : LiftUnit
  port : HostPort
  notice : NoticeUnit
  deriving DecidableEq, Repr

/-- No command stops the part with a fault: every row of the table has an effect or leaves the state as it is. -/
inductive Fault where
  deriving DecidableEq, Repr

/-- Reasons a command has no meaning here. -/
inductive Refusal where
  /-- Raised by an arm of `exec` for a command that has no meaning yet. Safe: nothing is proved of it. -/
  | notModelled (mnemonic : String)
  deriving DecidableEq, Repr

/-! ## The state after power-on reset -/

/-- Both group selectors are off after power-on reset: value 0, mask 0 (R21). -/
def Selector.off : Selector := ⟨0, 0⟩

/-- The parameter defaults (R184). -/
def Params.default : Params :=
  { carrierLength := 4200, standOff := 150, margin := 500, reaction := 250, acceleration := 250, maxSpeed := 1000,
    pulsePitch := 1250, tolerance := 150, beaconPeriod := 500, window := 40, staleness := 2500, waitLimit := 30,
    liftTimeout := 8 }

/-- Every line counter at 0 (R55). -/
def LineCounters.zero : LineCounters := ⟨0, 0, 0, 0, 0, 0, 0, 0, 0, 0, 0, 0⟩

/-- A claim record in IDLE that describes no attempt yet (R63; log 25). -/
def ClaimRecord.initial : ClaimRecord :=
  { state := .idle, number := 0, segs := [], urgency := 0, waited := 0, round := 1, attemptTime := 0,
    windowTimer := none, waitSeg := none, holder := none, rival := none, contestTimer := none, holdoff := none,
    lastStale := false }

/-- The levels of the input lines in `State.reset`: lift down, nothing in the way, no load (log 10). -/
def Pins.initial : Pins := { obst := false, sup := false, sdn := true, loadc := .empty }

/-- The machine right after power-on reset (R21 and the closing table of each chapter). -/
def State.reset : State where
  pending := []
  phase := 0
  pins := Pins.initial
  control := { state := .setup, number := 0, group1 := .off, group2 := .off, causes := [], joinTimer := none }
  params := .default
  pos :=
    { map := [], edition := 1, windows := Vector.replicate 8 ⟨65535, 0, 1⟩, unmapped := [], centre := none,
      expected := none, misses := 0, endLost := false, pulses := 0 }
  line :=
    { receiver := .off, transmitter := .off, abortBits := [], rx := [], tx := [], discards := 0, degraded := false,
      counters := .zero, beaconTimer := none }
  claim :=
    { held := [], record := .initial, counter := 0, waited := 0, waitedSeg := none, waitedTag := none,
      removal := none, retryTimer := none, enquiries := [], peerWait := none, reports := [],
      waitLimitYield := false, expired := false }
  resp := { conflicts := [], overflow := false, editionMarks := [], duplicate := false }
  cache := { ways := [], full := 0, refused := 0 }
  motion :=
    { commanded := 0, measured := 0, requests := [], stopZero := 0, latch := .none, latchZero := 0,
      latchReported := false, stall := 0, overrunMark := false, reversalPending := false, authority := none,
      figures := none, brakeRate := 400 }
  orders := { list := [], effective := .heavy, cancelMark := none }
  lift := { state := .down, timer := none, operation := none, measured := none }
  port := { slot := .empty, hdo := [], overwritten := 0, discarded := 0, framing := 0 }
  notice := { queue := [], disabled := [], lost := 0, threshold := 2, trigger := 8, now := 0, fault := none }

end Sys2Proof.Machine
end

