-- ==== Sys2Proof/Machine/Ops.lean ====
section
/-! DEFINITION. The named operations every block uses: block updates, tables sorted by key, saturating counts,
bytes, raising a notice (R187), offering a fault (R191) and placing a reply (R177, R178). -/

namespace Sys2Proof.Machine

/-! ## Replacing one block of the state -/

def State.setPending (s : State) (q : List Instr) : State := { s with pending := q }
def State.setPhase (s : State) (n : Nat) : State := { s with phase := n }
def State.setPins (s : State) (b : Pins) : State := { s with pins := b }
def State.setControl (s : State) (b : Control) : State := { s with control := b }
def State.setParams (s : State) (b : Params) : State := { s with params := b }
def State.setPos (s : State) (b : PositionUnit) : State := { s with pos := b }
def State.setLine (s : State) (b : LaneLine) : State := { s with line := b }
def State.setClaim (s : State) (b : ClaimEngine) : State := { s with claim := b }
def State.setResp (s : State) (b : LaneResponder) : State := { s with resp := b }
def State.setCache (s : State) (b : PeerCache) : State := { s with cache := b }
def State.setMotion (s : State) (b : Motion) : State := { s with motion := b }
def State.setOrders (s : State) (b : OrderQueue) : State := { s with orders := b }
def State.setLift (s : State) (b : LiftUnit) : State := { s with lift := b }
def State.setPort (s : State) (b : HostPort) : State := { s with port := b }
def State.setNotice (s : State) (b : NoticeUnit) : State := { s with notice := b }
/-- The claim record is replaced more often than the rest of the Claim Engine. -/
def State.setRecord (s : State) (r : ClaimRecord) : State := s.setClaim { s.claim with record := r }

/-! ## Tables by number: sorted by strictly rising keys -/

def Table.find {α : Type} (t : Table α) (k : Nat) : Option α :=
  match t with
  | [] => none
  | (j, v) :: rest => if j == k then some v else Table.find rest k

def Table.insert {α : Type} (t : Table α) (k : Nat) (v : α) : Table α :=
  match t with
  | [] => [(k, v)]
  | (j, w) :: rest =>
      if k < j then (k, v) :: (j, w) :: rest
      else if j == k then (k, v) :: rest
      else (j, w) :: Table.insert rest k v

def Table.erase {α : Type} (t : Table α) (k : Nat) : Table α := t.filter (fun e => e.1 != k)

/-- The canonical form: keys strictly rising. -/
def Table.wf {α : Type} (t : Table α) : Bool := decide (t.Pairwise (fun e f => e.1 < f.1))

/-- A set of numbers kept as a strictly rising list. -/
def insertNum (l : List Nat) (k : Nat) : List Nat :=
  match l with
  | [] => [k]
  | j :: rest => if k < j then k :: j :: rest else if j == k then j :: rest else j :: insertNum rest k

/-! ## Counts -/

/-- Counters stop at their top value (00, Counters). -/
def satAdd (top n k : Nat) : Nat := min top (n + k)

def top16 : Nat := 65535

/-- A 16-bit count, incremented. -/
def inc16 (n : Nat) : Nat := satAdd top16 n 1

/-- ceil(x / y). -/
def ceilDiv (x y : Nat) : Nat := (x + y - 1) / y

/-- The value brought into lo..hi. -/
def clamp (lo hi v : Nat) : Nat := min hi (max lo v)

/-- The integer square root by bits, from bit `n - 1` down, over the partial root `r`. -/
def isqrtFrom (x : Nat) : Nat → Nat → Nat
  | 0, r => r
  | n + 1, r => isqrtFrom x n (if (r + 2 ^ n) * (r + 2 ^ n) ≤ x then r + 2 ^ n else r)

/-- isqrt rounds down (00, Units); its arguments stay below 2^32 (R133). -/
def isqrt (x : Nat) : Nat := isqrtFrom x 16 0

/-! ## Bytes -/

def byte (n : Nat) : List Byte := [BitVec.ofNat 8 n]

/-- Two bytes, low byte first (00, Byte order). -/
def bytes2 (n : Nat) : List Byte := [BitVec.ofNat 8 n, BitVec.ofNat 8 (n / 256)]

/-- Four bytes, low byte first. -/
def bytes4 (n : Nat) : List Byte := bytes2 (n % 65536) ++ bytes2 (n / 65536)

/-- A 16-bit two's complement value (R186). -/
def signed16 (e : Int) : Nat := (e % 65536).toNat

/-- The bits of a byte, least significant first (R35). -/
def byteBits (b : Byte) : List Bool := (List.range 8).map (fun i => b.getLsbD i)

/-- The byte that up to eight bits give, least significant first. -/
def bitsByte (l : List Bool) : Byte := BitVec.ofNat 8 (l.foldr (fun b n => b.toNat + 2 * n) 0)

/-- Bits gathered into bytes, eight at a time, least significant first; `fuel` bounds the number of bytes. -/
def gather : Nat → List Bool → List Byte
  | 0, _ => []
  | fuel + 1, l => if l.length < 8 then [] else bitsByte (l.take 8) :: gather fuel (l.drop 8)

/-! ## Codes (R56, R58) -/

def Direction.code : Direction → Nat
  | .forward => 0
  | .reverse => 1

def StationState.code : StationState → Nat
  | .setup => 0
  | .joining => 1
  | .running => 2
  | .halted => 3

def Mark.code : Mark → Nat
  | .reserved => 0
  | .occupied => 1

def Reason.code : Reason → Nat
  | .heldReserved => 1
  | .heldOccupied => 2
  | .precedence => 3
  | .edition => 4

def loadCode : LoadClass → Nat
  | .empty => 0
  | .light => 1
  | .heavy => 2

def EndAction.code : EndAction → Nat
  | .none => 0
  | .lift => 1
  | .lower => 2

def OrderState.code : OrderState → Nat
  | .queued => 0
  | .active => 1
  | .suspended => 2
  | .finishing => 3

def Body.kind : Body → Nat
  | .beacon _ => 1
  | .claim _ _ _ _ _ => 2
  | .object _ _ _ _ _ => 3
  | .withdraw _ => 4
  | .release _ => 5
  | .enquire _ => 6
  | .relay _ => 7

/-- The codes of the notice kinds (R186). -/
def NoticeKind.code : NoticeKind → Nat
  | .holdConflict => 1 | .positionConflict => 2 | .positionLost => 3 | .overrun => 4 | .obstacle => 5
  | .driveStall => 6 | .duplicateStation => 7 | .yieldNeeded => 8 | .waitExpired => 9 | .liftTimeout => 10
  | .orderFailed => 11 | .editionMismatch => 12 | .lineDegraded => 13 | .orderDone => 14
  | .orderCancelled => 15 | .orderActive => 16 | .stateChanged => 17 | .relayReceived => 18
  | .loadUpgraded => 19 | .noticesLost => 20 | .drift => 21 | .tagMissed => 22 | .tagUnmapped => 23
  | .capEntry => 24 | .relayDiscarded => 25

/-- The classes of the notice kinds (R186). -/
def NoticeKind.class : NoticeKind → Nat
  | .holdConflict | .positionConflict | .positionLost | .overrun | .obstacle | .driveStall
  | .duplicateStation => 3
  | .yieldNeeded | .waitExpired | .liftTimeout | .orderFailed | .editionMismatch | .lineDegraded => 2
  | .orderDone | .orderCancelled | .orderActive | .stateChanged | .relayReceived | .loadUpgraded
  | .noticesLost => 1
  | .drift | .tagMissed | .tagUnmapped | .capEntry | .relayDiscarded => 0

def NoticeKind.all : List NoticeKind :=
  [.holdConflict, .positionConflict, .positionLost, .overrun, .obstacle, .driveStall, .duplicateStation,
   .yieldNeeded, .waitExpired, .liftTimeout, .orderFailed, .editionMismatch, .lineDegraded,
   .orderDone, .orderCancelled, .orderActive, .stateChanged, .relayReceived, .loadUpgraded, .noticesLost,
   .drift, .tagMissed, .tagUnmapped, .capEntry, .relayDiscarded]

/-- Fault kinds use the notice kind codes, with RX_OVERRUN 26 and TX_OVERFLOW 27 (R191). -/
def FaultKind.code : FaultKind → Nat
  | .holdConflict => 1 | .positionConflict => 2 | .positionLost => 3 | .overrun => 4 | .obstacle => 5
  | .driveStall => 6 | .duplicateStation => 7 | .liftTimeout => 10 | .rxOverrun => 26 | .txOverflow => 27

/-- A detail that names two values: the first in the low byte, the second in the high byte (R58). -/
def pairDetail (x y : Nat) : Nat := x + 256 * y

/-! ## Notices (R186, R187) -/

/-- A notice of a kind raised at time `t`, with no optional field. -/
def Notice.plain (kind : NoticeKind) (t : Nat) : Notice :=
  { kind := kind, time := t, tag := none, seg := none, station := none, detail := none, payload := none }

/-- R187: a disabled kind is gone; a full queue counts the loss; otherwise the notice joins at the tail. -/
def NoticeUnit.raise (u : NoticeUnit) (n : Notice) : NoticeUnit :=
  if u.disabled.contains n.kind then u
  else if u.queue.length < 32 then { u with queue := u.queue ++ [n] }
  else { u with lost := satAdd 255 u.lost 1 }

def State.raise (s : State) (n : Notice) : State := s.setNotice (s.notice.raise n)

/-- The notice time stamp of the moment (R186). -/
def State.now (s : State) : Nat := s.notice.now

/-! ## The Fault Record (R191) -/

/-- What an offering rule names of a fault besides its kind and time. -/
structure FaultOffer where
  kind : FaultKind
  time : Nat
  station : Option Nat
  seg : Option Nat
  detail : Option Nat
  deriving DecidableEq, Repr

/-- R191: captured by an empty record, otherwise counted as a further fault. -/
def State.offerFault (s : State) (f : FaultOffer) : State :=
  match s.notice.fault with
  | some r => s.setNotice { s.notice with fault := some { r with overflow := true, further := satAdd 255 r.further 1 } }
  | none =>
      s.setNotice
        { s.notice with
          fault := some
            { kind := f.kind, time := f.time,
              centreSeg := (s.pos.centre.map Centre.seg).getD 0,
              centreOffset := (s.pos.centre.map (fun c => c.offset / 1000)).getD 0,
              commanded := s.motion.commanded, station := f.station, seg := f.seg, detail := f.detail,
              overflow := false, further := 0 } }

/-! ## Sets kept in a fixed order -/

def Cause.all : List Cause :=
  [.positionConflict, .positionLost, .duplicateStation, .holdConflict, .obstacle, .overrun, .driveStall, .stop]

/-- A cause joins the set; the set holds at most one of each (section 2.4). -/
def addCause (l : List Cause) (c : Cause) : List Cause :=
  Cause.all.filter (fun x => x == c || l.contains x)

def StopMember.all : List StopMember := [.yield, .waitLimit, .cancel, .front]

def addMember (l : List StopMember) (m : StopMember) : List StopMember :=
  StopMember.all.filter (fun x => x == m || l.contains x)

/-- A cause leaves the halting cause set, in any state, with no notice and no change of state (R28). -/
def State.dropCause (s : State) (c : Cause) : State :=
  s.setControl { s.control with causes := s.control.causes.filter (fun x => x != c) }

/-! ## Service stop requests (R142) -/

/-- A member joins the requests; the zero time starts when it joins an empty set. -/
def State.askStop (s : State) (m : StopMember) : State :=
  s.setMotion
    { s.motion with
      requests := addMember s.motion.requests m
      stopZero := if s.motion.requests.isEmpty then 0 else s.motion.stopZero }

/-- A member leaves the requests with no completion report. -/
def State.withdrawStop (s : State) (m : StopMember) : State :=
  s.setMotion { s.motion with requests := s.motion.requests.filter (fun x => x != m) }

/-! ## The reply slot (R177, R178) -/

/-- A reply replaces the slot's content; an unread reply lost by it is counted at this moment (R177). -/
def State.placeReply (s : State) (r : Reply) : State :=
  let lost :=
    match s.port.slot with
    | .empty => false
    | .pending c => c.overwrites
    | .full _ => true
  s.setPort
    { s.port with
      slot := .full r
      overwritten := if lost then inc16 s.port.overwritten else s.port.overwritten }

end Sys2Proof.Machine
end

