-- ==== Sys2Proof/Machine/Track.lean ====
section
/-! DEFINITION. Track geometry: links, the reckoning run laid out around the centre, body span, marker plates,
authority distance (R2, R5, R10, R12, R16, R17, R60). Coordinates are µm along the direction of travel with the centre
at 0, so that the difference of two coordinates is a distance along the run (log 13). -/

namespace Sys2Proof.Machine

/-! ## Ends, directions and links (R2) -/

def End.code : End → Nat
  | .a => 0
  | .b => 1

def End.other : End → End
  | .a => .b
  | .b => .a

def Direction.flip : Direction → Direction
  | .forward => .reverse
  | .reverse => .forward

/-- The end a segment is left by. -/
def Direction.leaving : Direction → End
  | .forward => .b
  | .reverse => .a

/-- The end a segment is entered by. -/
def Direction.entering : Direction → End
  | .forward => .a
  | .reverse => .b

/-- A segment entered by an end is crossed away from it (R10). -/
def End.enterDir : End → Direction
  | .a => .forward
  | .b => .reverse

/-- A segment left by an end is crossed toward it (R10). -/
def End.leaveDir : End → Direction
  | .a => .reverse
  | .b => .forward

def Segment.links (g : Segment) : End → List Link
  | .a => g.aLinks
  | .b => g.bLinks

/-- The links of an end of a segment; none where the segment is not loaded. -/
def linksAt (map : Table Segment) (seg : Nat) (e : End) : List Link :=
  ((map.find seg).map (fun g => g.links e)).getD []

/-- The link at an end that names segment `n`. -/
def linkTo (map : Table Segment) (seg : Nat) (e : End) (n : Nat) : Option Link :=
  (linksAt map seg e).find? (fun l => l.seg == n)

/-- Segment length in mm. -/
def lengthOf (map : Table Segment) (seg : Nat) : Nat := ((map.find seg).map Segment.length).getD 0

/-- Segment length in µm. -/
def lengthUm (map : Table Segment) (seg : Nat) : Int := 1000 * (lengthOf map seg : Int)

def capOf (map : Table Segment) (seg : Nat) : Nat := ((map.find seg).map Segment.cap).getD 0

/-! ## The reckoning run (R10) -/

/-- The order whose path continues the run: ACTIVE or FINISHING. -/
def State.currentOrder (s : State) : Option Order :=
  s.orders.list.find? (fun o => o.state == .active || o.state == .finishing)

def State.activeOrder (s : State) : Option Order := s.orders.list.find? (fun o => o.state == .active)

/-- The elements after the first occurrence of `n`; none where `n` does not occur. -/
def afterSeg (l : List Nat) (n : Nat) : List Nat := (l.dropWhile (fun x => x != n)).drop 1

/-- The elements before the first occurrence of `n`. -/
def beforeSeg (l : List Nat) (n : Nat) : List Nat := l.takeWhile (fun x => x != n)

def heldSegs (held : List HeldEntry) : List Nat := held.map HeldEntry.seg

def State.frontMost (s : State) : Option Nat := (heldSegs s.claim.held).getLast?

/-- The held list, continued by the current order's path after the front-most held segment. -/
def State.runSegs (s : State) : List Nat :=
  heldSegs s.claim.held ++
    (match s.currentOrder, s.frontMost with
     | some o, some f => afterSeg o.path f
     | _, _ => [])

/-- A run segment with the direction it is crossed in and the coordinates of the ends it is entered and left by. -/
structure Placed where
  seg : Nat
  dir : Direction
  lo : Int
  hi : Int
  deriving DecidableEq, Repr

/-- The run segments after one crossed in direction `d` whose leaving end is at `x`. The run stops where the leaving
end has no link to the next segment (log 14). -/
def placeAhead (map : Table Segment) (seg : Nat) (d : Direction) (x : Int) : List Nat → List Placed
  | [] => []
  | n :: rest =>
      match linkTo map seg d.leaving n with
      | none => []
      | some l =>
          let d' := l.far.enterDir
          let y := x + lengthUm map n
          ⟨n, d', x, y⟩ :: placeAhead map n d' y rest

/-- The run segments before one crossed in direction `d` whose entering end is at `x`, nearest first. -/
def placeBehind (map : Table Segment) (seg : Nat) (d : Direction) (x : Int) : List Nat → List Placed
  | [] => []
  | p :: rest =>
      match linkTo map seg d.entering p with
      | none => []
      | some l =>
          let d' := l.far.leaveDir
          let y := x - lengthUm map p
          ⟨p, d', y, x⟩ :: placeBehind map p d' y rest

/-- Distance from the entering end to the centre, in µm. -/
def centreIn (map : Table Segment) (c : Centre) : Int :=
  match c.dir with
  | .forward => c.offset
  | .reverse => lengthUm map c.seg - c.offset

/-- The centre segment itself. -/
def placeCentre (map : Table Segment) (c : Centre) : Placed :=
  ⟨c.seg, c.dir, -centreIn map c, lengthUm map c.seg - centreIn map c⟩

/-- The centre segment and what follows it on the run, in the order of travel. -/
def placedAhead (map : Table Segment) (segs : List Nat) (c : Centre) : List Placed :=
  let p := placeCentre map c
  p :: placeAhead map c.seg c.dir p.hi (if segs.contains c.seg then afterSeg segs c.seg else [])

/-- The run laid out around the centre, rear-most first. A centre that is not on the run stands on its own segment
alone (log 14); one whose segment stands twice on the run stands on the first, the held one (log 37). -/
def layOut (map : Table Segment) (segs : List Nat) (c : Centre) : List Placed :=
  (placeBehind map c.seg c.dir (placeCentre map c).lo
      (if segs.contains c.seg then (beforeSeg segs c.seg).reverse else [])).reverse
    ++ placedAhead map segs c

/-- The present layout; empty while the position is none. -/
def State.layout (s : State) : List Placed :=
  match s.pos.centre with
  | none => []
  | some c => layOut s.pos.map s.runSegs c

/-! ## Body span (R17) -/

/-- The half-length h in mm: ceil(L / 2). -/
def State.halfLength (s : State) : Nat := ceilDiv s.params.carrierLength 2

/-- h in µm: the coordinate of the front; the rear is at its negative. -/
def State.half (s : State) : Int := 1000 * (s.halfLength : Int)

/-- The tag tolerance T in µm. -/
def State.tol (s : State) : Int := 1000 * (s.params.tolerance : Int)

/-- The segments the body span overlaps by more than zero, rear-most first. -/
def underBody (lay : List Placed) (h : Int) : List Nat :=
  (lay.filter (fun p => decide (p.lo < h) && decide (-h < p.hi))).map Placed.seg

/-- The segment of the front; beyond the run it is the run's last segment. -/
def frontSeg (lay : List Placed) (h : Int) : Option Nat :=
  match lay.find? (fun p => decide (p.lo < h) && decide (h ≤ p.hi)) with
  | some p => some p.seg
  | none => lay.getLast?.map Placed.seg

/-- The segment of the rear; behind the run it is the run's first segment. -/
def rearSeg (lay : List Placed) (h : Int) : Option Nat :=
  match lay.find? (fun p => decide (p.lo ≤ -h) && decide (-h < p.hi)) with
  | some p => some p.seg
  | none => lay.head?.map Placed.seg

/-! ## Marker plates (R5, R16) -/

/-- Offset of plate k of a segment of length len, in mm. -/
def plateOffset (len k : Nat) : Nat := k * len / 4

/-- The coordinate of a point of a placed segment given by its offset in µm from the A end. -/
def Placed.at (p : Placed) (offset : Int) : Int :=
  match p.dir with
  | .forward => p.lo + offset
  | .reverse => p.hi - offset

/-- The plates of a placed segment with their coordinates, in the order of travel. -/
def platesOf (map : Table Segment) (p : Placed) : List (Marker × Int) :=
  let ks := match p.dir with
    | .forward => [0, 1, 2, 3]
    | .reverse => [3, 2, 1, 0]
  ks.map (fun k => (⟨p.seg, k⟩, p.at (1000 * (plateOffset (lengthOf map p.seg) k : Int))))

def platesOn (map : Table Segment) (lay : List Placed) : List (Marker × Int) := lay.flatMap (platesOf map)

/-- The first plate strictly ahead of the centre (R16). Of two plates at one point, where an A end is linked to an A
end, it is the one of the earlier run segment (log 27). -/
def plateAhead (map : Table Segment) (lay : List Placed) : Option Marker :=
  ((platesOn map lay).find? (fun m => decide (0 < m.2))).map Prod.fst

/-- The coordinate nearest to the centre, the first of two equally near. -/
def nearestTo : List Int → Option Int
  | [] => none
  | x :: rest =>
      match nearestTo rest with
      | none => some x
      | some y => if x.natAbs ≤ y.natAbs then some x else some y

/-- The coordinate of a plate on the layout. Where the run holds its segment twice, behind the centre on the held list and
ahead of it on the path, it is the nearer of the two (log 37): the expected marker was chosen ahead and is not yet missed
for having stood behind the centre once. -/
def plateAt (map : Table Segment) (lay : List Placed) (m : Marker) : Option Int :=
  nearestTo (((platesOn map lay).filter (fun x => x.1 == m)).map Prod.snd)

/-- The expected marker is chosen afresh while the miss count is below 2, and is absent at 2 (R16). -/
def State.chooseExpected (s : State) : State :=
  s.setPos { s.pos with expected := if s.pos.misses < 2 then plateAhead s.pos.map s.layout else none }

/-! ## The authority limit (R60) -/

/-- The authority limit less the front, in µm; none while the held list is empty or the front-most held segment is not
on the layout. -/
def authorityUm (s : State) (lay : List Placed) : Option Int :=
  match s.frontMost with
  | none => none
  | some f =>
      (lay.find? (fun p => p.seg == f)).map (fun p => p.hi - 1000 * (s.params.standOff : Int) - s.half)

/-- D in mm, rounded down, which errs toward stopping sooner (log 13). -/
def State.authorityDistance (s : State) : Option Int := (authorityUm s s.layout).map (fun d => d / 1000)

/-! ## Moving the centre along the run (R11, R12) -/

/-- The centre at coordinate `x` of a placed segment. -/
def Placed.centreAt (p : Placed) (x : Int) : Centre :=
  { seg := p.seg, dir := p.dir,
    offset := match p.dir with
      | .forward => (x - p.lo).toNat
      | .reverse => (p.hi - x).toNat }

/-- The centre after a move of `d` µm, and whether it could not go on. It passes a leaving end it reaches when the run
goes on there (log 15); at the end of the run it stops and the rest is dropped (R12). -/
def moveCentre (ahead : List Placed) (c : Centre) (d : Nat) : Centre × Bool :=
  if d = 0 then (c, false)
  else
    match ahead.find? (fun p => decide ((d : Int) < p.hi)) with
    | some p => (p.centreAt d, false)
    | none =>
        match ahead.getLast? with
        | none => (c, false)
        | some p => (p.centreAt p.hi, decide (p.hi < (d : Int)))

end Sys2Proof.Machine
end

