-- ==== Sys2Proof/Machine/Frames.lean ====
section
/-! DEFINITION. Lane frames: layouts (R56), check field (R36), line coding (R35), the receiver's taking of bits (R37)
and the field checks (R38). -/

namespace Sys2Proof.Machine

/-! ## The check field (R36) -/

/-- One bit into the CRC register: positions 12, 5 and 0 are inverted when the combined bit is 1. -/
def crcBit (r : BitVec 16) (b : Bool) : BitVec 16 :=
  if b != r.msb then (r <<< 1) ^^^ 0x1021#16 else r <<< 1

/-- The check value of a run of bits: preset to ones, complemented at the end. -/
def crcOf (bits : List Bool) : BitVec 16 := ~~~ (bits.foldl crcBit 0xFFFF#16)

def bitsOf (bytes : List Byte) : List Bool := bytes.flatMap byteBits

/-! ## Layouts (R56) -/

/-- Bit i is set when the i-th listed segment is OCCUPIED. -/
def markBits : List HeldEntry → Nat
  | [] => 0
  | e :: rest => e.mark.code + 2 * markBits rest

def segBytes (segs : List Nat) : List Byte := segs.flatMap byte

def Body.bytes : Body → List Byte
  | .beacon b =>
      byte b.centreSeg ++ (bytes2 b.offset ++ (byte b.dir.code ++ (byte b.state.code ++ (bytes2 b.speed ++
      (byte b.urgency ++ (byte b.waitingFor ++ (bytes2 (markBits b.held) ++ (byte b.held.length ++
      segBytes (heldSegs b.held)))))))))
  | .claim number round urgency waited segs =>
      byte number ++ (byte round ++ (byte urgency ++ (bytes2 waited ++ (byte segs.length ++ segBytes segs))))
  | .object number seg reason waitingFor urgency =>
      byte number ++ (byte seg ++ (byte reason.code ++ (byte waitingFor ++ byte urgency)))
  | .withdraw number => byte number
  | .release segs => byte segs.length ++ segBytes segs
  | .enquire segs => byte segs.length ++ segBytes segs
  | .relay payload => byte payload.length ++ payload

/-- Header and body. -/
def Frame.bytes (f : Frame) : List Byte :=
  byte f.dest ++ (byte f.source ++ (byte f.body.kind ++ (bytes2 f.edition ++ f.body.bytes)))

/-- Header, body and the 2-byte check, low byte first. -/
def Frame.content (f : Frame) : List Byte := f.bytes ++ bytes2 (crcOf (bitsOf f.bytes)).toNat

/-! ## Line coding (R35) -/

def flagBits : List Bool := [false, true, true, true, true, true, true, false]

/-- A 0 after every run of five 1s; `ones` is the run so far. -/
def stuff : Nat → List Bool → List Bool
  | _, [] => []
  | _, false :: rest => false :: stuff 0 rest
  | ones, true :: rest => if ones = 4 then true :: false :: stuff 0 rest else true :: stuff (ones + 1) rest

/-- The bits a transmitter sends after a frame it stops, before it leaves the line undriven. -/
def abortPattern : List Bool := List.replicate 8 true

/-- The bits a station drives for a frame: opening flag, content with inserted zeros, closing flag. -/
def Frame.line (f : Frame) : List Bool := flagBits ++ (stuff 0 (bitsOf f.content) ++ flagBits)

/-! ## The receiver (R37) -/

/-- How a frame ends in the receiver. -/
inductive Closing where
  | flag (content : List Bool)
  | abort
  | excess
  deriving DecidableEq, Repr

/-- A content bit is gathered; at 49 bytes the reception stops, with `ones` the run of 1 bits ending there. -/
def gatherBit (ones : Nat) (content : List Bool) : Receiver × Option Closing :=
  if 392 ≤ content.length then (.hunt ones, some .excess) else (.frame ones content, none)

/-- The content bits of a frame at its closing flag. The flag's own bits are not content: its first five 1s have been
gathered when it is recognised and are taken off, and with them the 0 before them; a 0 that followed five 1s was removed
as an inserted zero, so that a 1 or nothing stands there, and nothing more is taken off (log 7). -/
def withoutFlag (gathered : List Bool) : List Bool :=
  let before := gathered.take (gathered.length - 5)
  if before.getLast? = some false then before.dropLast else before

/-- One bit of the line. Bits count toward the 49 bytes as they are gathered, those of a flag not yet recognised among
them (log 7). -/
def Receiver.take : Receiver → Bool → Receiver × Option Closing
  | .off, _ => (.off, none)
  | .hunt ones, true => (.hunt (min 7 (ones + 1)), none)
  | .hunt ones, false => (if ones = 6 then .frame 0 [] else .hunt 0, none)
  | .frame ones content, true =>
      if ones < 5 then gatherBit (ones + 1) (content ++ [true])
      else if ones = 5 then (.frame 6 content, none)
      else (.hunt 7, if 8 ≤ content.length then some .abort else none)
  | .frame ones content, false =>
      if ones = 6 then (.frame 0 [], some (.flag (withoutFlag content)))
      else if ones = 5 then (.frame 0 content, none)
      else gatherBit 0 (content ++ [false])

/-- The receiver after a run of bits, with the frames that ended, in order. -/
def Receiver.takeAll (r : Receiver) : List Bool → Receiver × List Closing
  | [] => (r, [])
  | b :: rest =>
      let (r1, c) := r.take b
      let (r2, cs) := r1.takeAll rest
      (r2, c.toList ++ cs)

/-- The receiver when it is turned on: in HUNT, with no 0 read yet (log 7). -/
def Receiver.fresh : Receiver := .hunt 7

/-! ## Reading a frame (R38, R56) -/

def nat2 (lo hi : Byte) : Nat := lo.toNat + 256 * hi.toNat

def segOk (n : Nat) : Bool := decide (1 ≤ n) && decide (n ≤ 240)

def stationOk (n : Nat) : Bool := decide (1 ≤ n) && decide (n ≤ 60)

/-- A segment list of a frame: every segment 1..240, none twice. -/
def segsOk (l : List Nat) : Bool := l.all segOk && decide l.Nodup

def readDirection (b : Byte) : Option Direction :=
  if b.toNat = 0 then some .forward else if b.toNat = 1 then some .reverse else none

/-- A station state as a beacon carries it: JOINING, RUNNING or HALTED. -/
def readStationState (b : Byte) : Option StationState :=
  if b.toNat = 1 then some .joining else if b.toNat = 2 then some .running
  else if b.toNat = 3 then some .halted else none

def readReason (b : Byte) : Option Reason :=
  if b.toNat = 1 then some .heldReserved else if b.toNat = 2 then some .heldOccupied
  else if b.toNat = 3 then some .precedence else if b.toNat = 4 then some .edition else none

/-- Segments with their occupied marks, bit i of `marks` for the i-th; bits above the count are ignored. -/
def readHeld : Nat → List Nat → List HeldEntry
  | _, [] => []
  | marks, n :: rest => ⟨n, if marks % 2 = 1 then .occupied else .reserved⟩ :: readHeld (marks / 2) rest

def readBeacon : List Byte → Option Body
  | c :: o0 :: o1 :: d :: st :: v0 :: v1 :: u :: w :: m0 :: m1 :: n :: rest =>
      let segs := rest.map BitVec.toNat
      match readDirection d, readStationState st with
      | some dir, some state =>
          if rest.length = n.toNat ∧ n.toNat ≤ 12 ∧ segsOk segs = true ∧ segOk c.toNat = true ∧ w.toNat ≤ 240 ∧
              u.toNat ≤ 3 then
            some (.beacon ⟨c.toNat, nat2 o0 o1, dir, state, nat2 v0 v1, u.toNat, w.toNat,
              readHeld (nat2 m0 m1) segs⟩)
          else none
      | _, _ => none
  | _ => none

def readClaim : List Byte → Option Body
  | k :: r :: u :: w0 :: w1 :: n :: rest =>
      let segs := rest.map BitVec.toNat
      if rest.length = n.toNat ∧ 1 ≤ n.toNat ∧ n.toNat ≤ 8 ∧ segsOk segs = true ∧ (r.toNat = 1 ∨ r.toNat = 2) ∧
          u.toNat ≤ 3 then
        some (.claim k.toNat r.toNat u.toNat (nat2 w0 w1) segs)
      else none
  | _ => none

def readObject : List Byte → Option Body
  | [k, s, r, w, u] =>
      match readReason r with
      | some reason =>
          if segOk s.toNat = true ∧ w.toNat ≤ 240 ∧ u.toNat ≤ 3 then
            some (.object k.toNat s.toNat reason w.toNat u.toNat)
          else none
      | none => none
  | _ => none

/-- A count and that many segments, 1..top of them. -/
def readSegs (top : Nat) : List Byte → Option (List Nat)
  | n :: rest =>
      let segs := rest.map BitVec.toNat
      if rest.length = n.toNat ∧ 1 ≤ n.toNat ∧ n.toNat ≤ top ∧ segsOk segs = true then some segs else none
  | [] => none

def readRelay : List Byte → Option Body
  | n :: rest => if rest.length = n.toNat ∧ 1 ≤ n.toNat ∧ n.toNat ≤ 32 then some (.relay rest) else none
  | [] => none

/-- The body of a kind; none for a kind outside 1..7 or a body that fails a check. -/
def readBody (kind : Nat) (body : List Byte) : Option Body :=
  if kind = 1 then readBeacon body
  else if kind = 2 then readClaim body
  else if kind = 3 then readObject body
  else if kind = 4 then (match body with | [k] => some (.withdraw k.toNat) | _ => none)
  else if kind = 5 then (readSegs 12 body).map .release
  else if kind = 6 then (readSegs 8 body).map .enquire
  else if kind = 7 then readRelay body
  else none

/-- The destinations a kind may carry: 255 for the five broadcast kinds, 1..60 for OBJECT, any for RELAY. -/
def destOk (kind dest : Nat) : Bool :=
  if kind = 3 then stationOk dest else if kind = 7 then true else decide (dest = 255)

/-- R38: none means MALFORMED. -/
def readFrame : List Byte → Option Frame
  | d :: s :: k :: e0 :: e1 :: body =>
      match readBody k.toNat body with
      | some b =>
          if stationOk s.toNat = true ∧ nat2 e0 e1 ≠ 0 ∧ destOk k.toNat d.toNat = true then
            some ⟨d.toNat, s.toNat, nat2 e0 e1, b⟩
          else none
      | none => none
  | _ => none

/-- The receive statuses of a frame closed by a flag (R37). -/
inductive RxStatus where
  | nothing | tooShort | crcBad | malformed
  | good (f : Frame)
  deriving DecidableEq, Repr

/-- R37: a frame closed by a flag is judged by its content bits, in the rule's order. -/
def judge (content : List Bool) : RxStatus :=
  if content.isEmpty then .nothing
  else if content.length < 56 then .tooShort
  else if content.length % 8 ≠ 0 then .crcBad
  else
    let bytes := gather (content.length / 8) content
    let data := bytes.take (bytes.length - 2)
    if bytes.drop (bytes.length - 2) ≠ bytes2 (crcOf (bitsOf data)).toNat then .crcBad
    else
      match readFrame data with
      | none => .malformed
      | some f => .good f

end Sys2Proof.Machine
end

