-- ==== Sys2Proof/Machine/Lane.lean ====
section
/-! DEFINITION. The transmit queue: classes and choice (R44), merging (R45), limits (R46), a full queue (R47), removal
(R48); a beacon's content (R53); address recognition (R40, R41); the receive buffer (R42). -/

namespace Sys2Proof.Machine

/-! ## Classes (section 3.4) -/

def TxContent.kind : TxContent → Nat
  | .beacon => 1
  | .fixed b => b.kind

/-- Class of a frame kind, A = 0 to D = 3. -/
def kindClass (kind : Nat) : Nat :=
  if kind = 3 ∨ kind = 4 then 0
  else if kind = 2 ∨ kind = 5 then 1
  else if kind = 1 ∨ kind = 6 then 2
  else 3

def TxEntry.kind (e : TxEntry) : Nat := e.content.kind

def TxEntry.class (e : TxEntry) : Nat := kindClass e.kind

def countKind (q : List TxEntry) (kind : Nat) : Nat := q.countP (fun e => e.kind == kind)

/-! ## Admission (R45 to R47) -/

/-- Whether an offered content merges with a queued entry (R45). -/
def mergesWith (dest : Nat) (content : TxContent) (e : TxEntry) : Bool :=
  match content, e.content with
  | .beacon, .beacon => true
  | .fixed (.claim _ _ _ _ _), .fixed (.claim _ _ _ _ _) => true
  | .fixed (.object n _ _ _ _), .fixed (.object m _ _ _ _) => dest == e.dest && n == m
  | _, _ => false

/-- The newest entry of a class that is not in flight (R47). -/
def newestOf (q : List TxEntry) (cls : Nat) : Option TxEntry :=
  q.reverse.find? (fun e => e.class == cls && !e.inFlight)

/-- The queue without the newest entry of a class that is not in flight. -/
def dropNewest (q : List TxEntry) (cls : Nat) : List TxEntry :=
  (q.reverse.eraseP (fun e => e.class == cls && !e.inFlight)).reverse

def LaneLine.countDropped (l : LaneLine) : LaneLine :=
  { l with counters := { l.counters with txDropped := inc16 l.counters.txDropped } }

/-- A frame enters the queue at its tail. -/
def State.enqueue (s : State) (dest : Nat) (content : TxContent) : State :=
  s.setLine { s.line with tx := s.line.tx ++ [⟨dest, content, 0, false, false⟩] }

/-- A displaced RELAY raises RELAY_DISCARDED with its destination in the station field (R47, R51). R186 bounds that field to
1..60 or absent, and a RELAY goes to any destination 0..255 (R46): the model puts every destination there as it is (log
40). -/
def State.relayDiscarded (s : State) (t dest : Nat) : State :=
  s.raise { Notice.plain .relayDiscarded t with station := some dest }

/-- A full queue makes room by displacing the newest entry of a class (R47). -/
def State.displace (s : State) (t cls : Nat) (e : TxEntry) : State :=
  let s1 := s.setLine { s.line.countDropped with tx := dropNewest s.line.tx cls }
  if e.kind = 7 then s1.relayDiscarded t e.dest else s1

/-- A frame that finds no room is dropped and counted (R46, R47). -/
def State.dropFrame (s : State) : State := s.setLine s.line.countDropped

/-- A frame offered to the transmit queue at time `t`, and whether the queue took it (R45, R46, R47). The only class C
or D entry being in flight counts as there being none (log 21). -/
def State.offer (s : State) (t dest : Nat) (content : TxContent) : State × Bool :=
  if s.line.tx.any (mergesWith dest content) then
    (s.setLine
      { s.line with
        tx := s.line.tx.map (fun e => if mergesWith dest content e then { e with content := content } else e) }, true)
  else if content.kind = 6 ∧ 3 ≤ countKind s.line.tx 6 then (s.dropFrame, false)
  else if s.line.tx.length < 24 then (s.enqueue dest content, true)
  else if kindClass content.kind = 0 ∨ kindClass content.kind = 1 then
    match newestOf s.line.tx 3 with
    | some e => ((s.displace t 3 e).enqueue dest content, true)
    | none =>
        match newestOf s.line.tx 2 with
        | some e => ((s.displace t 2 e).enqueue dest content, true)
        | none =>
            (s.dropFrame.offerFault
              { kind := .txOverflow, time := t, station := none, seg := none, detail := some content.kind }, false)
  else if kindClass content.kind = 2 then (s.dropFrame, false)
  else (s, false)

/-- An offer whose outcome the offering block does not ask for. -/
def State.send (s : State) (t dest : Nat) (body : Body) : State := (s.offer t dest (.fixed body)).1

/-- A BEACON offered to the transmit queue (R52). -/
def State.offerBeacon (s : State) (t : Nat) : State := (s.offer t 255 .beacon).1

/-! ## Removal of a CLAIM (R48) -/

def isClaim (e : TxEntry) : Bool := e.kind == 2

def claimInFlight (q : List TxEntry) : Bool := q.any (fun e => isClaim e && e.inFlight)

/-- A CLAIM not in flight leaves at once; one in flight is marked removed. -/
def removeClaim (q : List TxEntry) : List TxEntry :=
  (q.filter (fun e => !(isClaim e && !e.inFlight))).map
    (fun e => if isClaim e then { e with removed := true } else e)

/-! ## Transmission (R35, R44, R49) -/

def Transmitter.isSending : Transmitter → Bool
  | .sending _ _ => true
  | .off | .idle | .backoff _ => false

/-- What stands on the line after a frame when the transmitter is stopped: a frame in flight is aborted (R35, R54). -/
def LaneLine.stopBits (l : LaneLine) : List Bool :=
  if l.transmitter.isSending then abortPattern else l.abortBits

/-- The place of the oldest entry of the highest class that has any. -/
def chooseTx (q : List TxEntry) : Option Nat :=
  [0, 1, 2, 3].findSome? (fun cls => q.findIdx? (fun e => e.class == cls))

def inFlightEntry (q : List TxEntry) : Option TxEntry := q.find? TxEntry.inFlight

/-! ## What the station reports (R53, R63, R88, R104) -/

/-- The reported waiting-for: the wait segment in BLOCKED and CONTESTED, otherwise 0. -/
def ClaimRecord.waitingFor (r : ClaimRecord) : Nat :=
  match r.state with
  | .blocked | .contested => r.waitSeg.getD 0
  | .idle | .queuedR1 | .windowR1 | .queuedR2 | .windowR2 | .holdoff => 0

/-- The urgency reported: the ACTIVE or FINISHING order's, otherwise 0. -/
def State.reportedUrgency (s : State) : Nat := (s.currentOrder.map Order.urgency).getD 0

/-- The body of a BEACON from the state of the blocks at this moment (R53). -/
def State.beaconBody (s : State) : BeaconBody :=
  { centreSeg := (s.pos.centre.map Centre.seg).getD 0,
    offset := (s.pos.centre.map (fun c => c.offset / 1000)).getD 0,
    dir := (s.pos.centre.map Centre.dir).getD .forward,
    state := s.control.state, speed := s.motion.measured, urgency := s.reportedUrgency,
    waitingFor := s.claim.record.waitingFor, held := s.claim.held }

/-- The frame an entry sends: its content with this station's header (R44, R53, R56). -/
def State.frameOf (s : State) (e : TxEntry) : Frame :=
  { dest := e.dest, source := s.control.number, edition := s.pos.edition,
    body := match e.content with
      | .beacon => .beacon s.beaconBody
      | .fixed b => b }

/-! ## Address recognition (R40, R41) -/

/-- A group code matches a selector when it agrees in every position whose mask bit is 0. -/
def Selector.matches (g : Selector) (code : Byte) : Bool := (code &&& ~~~g.mask) == (g.value &&& ~~~g.mask)

/-- Whether a destination is recognised (R40); destination 0 is not. -/
def Control.recognises (c : Control) (dest : Nat) : Bool :=
  if dest = 255 then true
  else if 128 ≤ dest ∧ dest ≤ 254 then
    c.group1.matches (BitVec.ofNat 8 dest) || c.group2.matches (BitVec.ofNat 8 dest)
  else if 1 ≤ dest ∧ dest ≤ 60 then dest == c.number
  else false

end Sys2Proof.Machine
end

