-- ==== Sys2Proof/Machine/Claim.lean ====
section
/-! DEFINITION. The claim record: waits, endings and withdrawals (R63, R72 to R74, R82 to R85, R104); the reserved
segments given back at a stop (R85); the keys of crossing claims (R80). -/

namespace Sys2Proof.Machine

/-! ## Records -/

def ClaimState.isPending : ClaimState → Bool
  | .queuedR1 | .windowR1 | .queuedR2 | .windowR2 => true
  | .idle | .blocked | .contested | .holdoff => false

def ClaimState.isWait : ClaimState → Bool
  | .blocked | .contested | .holdoff => true
  | .idle | .queuedR1 | .windowR1 | .queuedR2 | .windowR2 => false

/-- IDLE: no claim in hand and no wait; the number, the key, the round and the time of the latest attempt stay, at
RESTART and START too (R63; log 25). -/
def ClaimRecord.toIdle (r : ClaimRecord) : ClaimRecord :=
  { r with state := .idle, segs := [], windowTimer := none, waitSeg := none, holder := none, rival := none,
           contestTimer := none, holdoff := none, lastStale := false }

/-- The record goes to IDLE. The peer wait information is cleared (R104); a wait-limit yield outstanding becomes none
and its service stop is withdrawn (R113). -/
def State.toIdle (s : State) : State :=
  let s1 := s.setClaim
    { s.claim with record := s.claim.record.toIdle, peerWait := none, waitLimitYield := false }
  if s.claim.waitLimitYield then s1.withdrawStop .waitLimit else s1

/-! ## Entering a wait (R84, R104) -/

/-- A wait on a segment other than the waited segment starts the count again and clears the expired mark (R84,
R112). -/
def ClaimEngine.countFor (c : ClaimEngine) (seg : Nat) : ClaimEngine :=
  if c.waitedSeg == some seg then c else { c with waited := 0, waitedSeg := some seg, expired := false }

/-- BLOCKED on a segment behind a holder; the peer wait information is the holder's report (R104). -/
def State.enterBlocked (s : State) (seg holder : Nat) : State :=
  s.setClaim
    { s.claim.countFor seg with
      record := { s.claim.record.toIdle with state := .blocked, waitSeg := some seg, holder := some holder }
      peerWait := Table.find s.claim.reports holder }

/-- CONTESTED on a segment against a rival, with the contest timer at 2W + 200 ms (R76, R80). -/
def State.enterContested (s : State) (seg : Nat) (rival : Rival) : State :=
  s.setClaim
    { s.claim.countFor seg with
      record := { s.claim.record.toIdle with state := .contested, waitSeg := some seg, rival := some rival,
                                             contestTimer := some (2 * s.params.window + 200) }
      peerWait := none }

/-! ## Ending a claim (R72, R73) -/

/-- A WITHDRAW carries destination 255 and the ended claim's number (R72). -/
def State.sendWithdraw (s : State) (t number : Nat) : State := s.send t 255 (.withdraw number)

/-- Asks the transmit queue to remove the CLAIM; one in flight leaves a removal outstanding (R48, R72). -/
def State.askRemoval (s : State) (owed : Bool) : State :=
  let s1 := s.setLine { s.line with tx := removeClaim s.line.tx }
  if claimInFlight s.line.tx then
    s1.setClaim { s.claim with removal := some ⟨s.claim.record.number, owed⟩ }
  else s1

/-- R72: the pending claim ends without a grant and the record goes to IDLE; without a pending claim nothing
happens. -/
def State.endClaim (s : State) (t : Nat) : State :=
  match s.claim.record.state with
  | .queuedR1 => (s.askRemoval true).toIdle
  | .queuedR2 => ((s.askRemoval false).sendWithdraw t s.claim.record.number).toIdle
  | .windowR1 | .windowR2 => (s.sendWithdraw t s.claim.record.number).toIdle
  | .idle | .blocked | .contested | .holdoff => s

/-- The first four rows of R73: a pending claim ends and a wait is abandoned. -/
def State.abandonClaim (s : State) (t : Nat) : State := (s.endClaim t).toIdle

/-- R74: a CLAIM the transmit queue did not deliver ends the claim; a WITHDRAW follows where round 1 was sent. -/
def State.claimUndelivered (s : State) (t : Nat) : State :=
  match s.claim.record.state with
  | .queuedR1 => s.toIdle
  | .queuedR2 => s.toIdle.sendWithdraw t s.claim.record.number
  | .idle | .windowR1 | .windowR2 | .blocked | .contested | .holdoff => s

/-- Offers the CLAIM of the record's present round; one not admitted ends the claim (R67, R70, R74). -/
def State.offerClaim (s : State) (t : Nat) : State :=
  let r := s.claim.record
  let o := s.offer t 255 (.fixed (.claim r.number r.round r.urgency r.waited r.segs))
  if o.2 then o.1 else o.1.claimUndelivered t

/-! ## Peer reports (R103, R104) -/

/-- The waiting-for and urgency of a frame from `x` are filed, and copied to a BLOCKED wait on `x`. -/
def State.fileReport (s : State) (x : Nat) (r : PeerReport) : State :=
  s.setClaim
    { s.claim with
      reports := Table.insert s.claim.reports x r
      peerWait :=
        if s.claim.record.state = .blocked ∧ s.claim.record.holder = some x then some r else s.claim.peerWait }

/-! ## The cache's reports to the Claim Engine (R118) -/

def ClaimRecord.blockedOn (r : ClaimRecord) (seg : Nat) : Bool := r.state == .blocked && r.waitSeg == some seg

/-- An entry for `seg` stopped naming `holder`: a BLOCKED wait on that segment and holder ends. -/
def State.cacheReport (s : State) (seg holder : Nat) : State :=
  if s.claim.record.blockedOn seg && s.claim.record.holder == some holder then s.toIdle else s

/-- A host invalidation ends a BLOCKED wait on the segment whatever holder the entry named. -/
def State.cacheReportAny (s : State) (seg : Nat) : State :=
  if s.claim.record.blockedOn seg then s.toIdle else s

/-! ## Crossing claims (R80) -/

/-- A claim key: urgency, waited and station number. -/
structure ClaimKey where
  urgency : Nat
  waited : Nat
  station : Nat
  deriving DecidableEq, Repr

/-- The higher urgency, then the larger waited, then the lower station number precedes. -/
def ClaimKey.precedes (k m : ClaimKey) : Bool :=
  if k.urgency ≠ m.urgency then decide (m.urgency < k.urgency)
  else if k.waited ≠ m.waited then decide (m.waited < k.waited)
  else decide (k.station < m.station)

/-! ## Giving track back (R62, R85) -/

def isReserved (e : HeldEntry) : Bool := e.mark == .reserved

/-- The listed segments leave the held list and one RELEASE names them; with none, nothing is sent. -/
def State.giveBack (s : State) (t : Nat) (segs : List Nat) : State :=
  if segs.isEmpty then s
  else
    (s.setClaim { s.claim with held := s.claim.held.filter (fun e => !segs.contains e.seg) }).send t 255 (.release segs)

/-- Every RESERVED entry leaves the held list in one RELEASE, in path order (R85); the run is formed anew. -/
def State.releaseReserved (s : State) (t : Nat) : State :=
  if (s.claim.held.filter isReserved).isEmpty then s
  else (s.giveBack t (heldSegs (s.claim.held.filter isReserved))).chooseExpected

end Sys2Proof.Machine
end

