-- ==== Sys2Proof/Machine/Cache.lean ====
section
/-! DEFINITION. The Peer Holding Cache: lookup (R116), writing a holding (R117), freeing and its report (R118),
beacons (R119), releases (R120), segments joining the held list (R122), pins (R124, R125), host operations (R127). -/

namespace Sys2Proof.Machine

/-! ## Lookup (R116) -/

/-- An entry for a segment can stand only in set segment mod 16 (R115). -/
def cacheSet (seg : Nat) : Nat := seg % 16

/-- The valid entry of a segment, with its way's key. -/
def findEntry (ways : Table CacheEntry) (seg : Nat) : Option (Nat × CacheEntry) :=
  ways.find? (fun e => e.1 / 4 == cacheSet seg && e.2.seg == seg)

inductive Lookup where
  | miss | none
  | held (x : Nat)
  | stale (x : Nat)
  deriving DecidableEq, Repr

def lookup (c : PeerCache) (seg : Nat) : Lookup :=
  match findEntry c.ways seg with
  | none => .miss
  | some (_, e) =>
      match e.status with
      | .none => .none
      | .held => .held e.holder
      | .stale => .stale e.holder

/-! ## Writing a holding (R117) -/

/-- The first invalid way of a set. -/
def firstInvalid (ways : Table CacheEntry) (set : Nat) : Option Nat :=
  ([0, 1, 2, 3].map (fun w => 4 * set + w)).find? (fun k => (Table.find ways k).isNone)

/-- The older of two entries, the first at equal ages. -/
def older (x y : Nat × CacheEntry) : Nat × CacheEntry := if x.2.age < y.2.age then y else x

/-- The unpinned HELD entry of a set with the largest age, the lowest way among equals, passing over the barred
segments (R117 step 2, R119). -/
def oldestUnpinned (ways : Table CacheEntry) (set : Nat) (barred : List Nat) : Option Nat :=
  match ways.filter (fun e => e.1 / 4 == set && e.2.pins.isEmpty && e.2.status == .held && !barred.contains e.2.seg)
  with
  | [] => none
  | e :: rest => some (rest.foldl older e).1

/-- The victim way of a set (R117 step 2). -/
def victim (ways : Table CacheEntry) (set : Nat) (barred : List Nat) : Option Nat :=
  match firstInvalid ways set with
  | some k => some k
  | none => oldestUnpinned ways set barred

def State.setWays (s : State) (w : Table CacheEntry) : State := s.setCache { s.cache with ways := w }

/-- Segment `seg` is held by `x` with a mark, from a frame of a source kind (R117). A replacement of another holder is
reported (R118). -/
def State.writeHolding (s : State) (seg x : Nat) (mark : Mark) (source : Source) (barred : List Nat) : State :=
  match findEntry s.cache.ways seg with
  | some (k, e) =>
      let s1 := s.setWays (Table.insert s.cache.ways k
        { e with holder := x, mark := some mark, status := .held, age := 0, source := some source })
      if e.holder ≠ 0 ∧ e.holder ≠ x then s1.cacheReport seg e.holder else s1
  | none =>
      match victim s.cache.ways (cacheSet seg) barred with
      | some k => s.setWays (Table.insert s.cache.ways k ⟨seg, x, some mark, .held, 0, [], some source⟩)
      | none => s.setCache { s.cache with full := inc16 s.cache.full }

/-! ## Freeing entries (R118 to R120, R122, R128) -/

/-- A pinned entry that loses its holder becomes a placeholder. -/
def CacheEntry.placeholder (e : CacheEntry) (source : Option Source) : CacheEntry :=
  { e with holder := 0, mark := none, status := .none, age := 0, source := source }

/-- The entry in a way is freed: a placeholder if pinned, otherwise invalid; the freeing is reported. -/
def State.freeWay (s : State) (source : Option Source) (k : Nat) : State :=
  match Table.find s.cache.ways k with
  | none => s
  | some e =>
      let w := if e.pins.isEmpty then Table.erase s.cache.ways k
               else Table.insert s.cache.ways k (e.placeholder source)
      (s.setWays w).cacheReport e.seg e.holder

/-- The ways that name `x` as holder and satisfy a test of their segment. -/
def waysOf (ways : Table CacheEntry) (x : Nat) (p : Nat → Bool) : List Nat :=
  (ways.filter (fun e => e.2.holder == x && p e.2.seg)).map Prod.fst

/-- The omission sweep: every entry naming `x` whose segment is not listed is freed (R119 step 1). -/
def State.sweep (s : State) (x : Nat) (listed : List Nat) : State :=
  (waysOf s.cache.ways x (fun n => !listed.contains n)).foldl (fun s k => s.freeWay (some .beacon) k) s

/-- Listed segments that already have an entry are written in place (R119 step 2). -/
def State.refresh (s : State) (x : Nat) (e : HeldEntry) : State :=
  if (findEntry s.cache.ways e.seg).isSome then s.writeHolding e.seg x e.mark .beacon [] else s

/-- Listed segments without an entry are filled, the beacon's own entries barred (R119 step 3). -/
def State.fill (s : State) (x : Nat) (barred : List Nat) (e : HeldEntry) : State :=
  if (findEntry s.cache.ways e.seg).isNone then s.writeHolding e.seg x e.mark .beacon barred else s

/-- The cache takes a BEACON from `x`, with the segments to skip (R119). -/
def State.cacheBeacon (s : State) (x : Nat) (listed : List HeldEntry) (skip : List Nat) : State :=
  let written := listed.filter (fun e => !skip.contains e.seg)
  let s1 := s.sweep x (heldSegs listed)
  let s2 := written.foldl (fun s e => s.refresh x e) s1
  written.foldl (fun s e => s.fill x (heldSegs written) e) s2

/-- The cache takes a RELEASE from `x` (R120). -/
def State.cacheRelease (s : State) (x : Nat) (segs : List Nat) : State :=
  (waysOf s.cache.ways x (fun n => segs.contains n)).foldl (fun s k => s.freeWay (some .release) k) s

/-- The ways of segments joining the held list that name a holder (R122). -/
def joinWays (ways : Table CacheEntry) (segs : List Nat) : List Nat :=
  (ways.filter (fun e => e.2.holder != 0 && segs.contains e.2.seg)).map Prod.fst

def State.cacheJoin (s : State) (segs : List Nat) : State :=
  (joinWays s.cache.ways segs).foldl (fun s k => s.freeWay none k) s

/-! ## Pins (R124, R125) -/

def pinnedIn (ways : Table CacheEntry) (set : Nat) : Nat :=
  ways.countP (fun e => e.1 / 4 == set && !e.2.pins.isEmpty)

def PeerCache.refusePin (c : PeerCache) : PeerCache := { c with refused := inc16 c.refused }

/-- Pins one path segment for an order's tag, by the table of R124. A placeholder that finds no victim counts as a
refused pin alone (R124, R129), not as cache-full, as the table of the state owned has it (log 29). -/
def PeerCache.pin (c : PeerCache) (tag seg : Nat) : PeerCache :=
  match findEntry c.ways seg with
  | some (k, e) =>
      if e.pins.contains tag then c
      else if e.pins.isEmpty ∧ 3 ≤ pinnedIn c.ways (cacheSet seg) then c.refusePin
      else { c with ways := Table.insert c.ways k { e with pins := e.pins ++ [tag] } }
  | none =>
      if 3 ≤ pinnedIn c.ways (cacheSet seg) then c.refusePin
      else
        match victim c.ways (cacheSet seg) [] with
        | some k => { c with ways := Table.insert c.ways k ⟨seg, 0, none, .none, 0, [tag], none⟩ }
        | none => c.refusePin

/-- An entry without a tag; a placeholder that loses its last pin becomes invalid (R125). -/
def unpinEntry (tag : Nat) (p : Nat → Bool) (e : Nat × CacheEntry) : Option (Nat × CacheEntry) :=
  if e.2.pins.contains tag && p e.2.seg then
    let pins := e.2.pins.filter (fun x => x != tag)
    if pins.isEmpty && e.2.status == .none then none else some (e.1, { e.2 with pins := pins })
  else some e

/-- Removes a tag from the entries whose segment satisfies a test. -/
def PeerCache.unpin (c : PeerCache) (tag : Nat) (p : Nat → Bool) : PeerCache :=
  { c with ways := c.ways.filterMap (unpinEntry tag p) }

/-- Pins a path for a tag, in path order, after the pins on segments no longer on it are removed (R124, R125). -/
def PeerCache.pinPath (c : PeerCache) (tag : Nat) (path : List Nat) : PeerCache :=
  path.foldl (fun c seg => c.pin tag seg) (c.unpin tag (fun n => !path.contains n))

/-! ## Host invalidation (R127) -/

/-- The entry in a way becomes invalid and is reported, whatever it names. -/
def State.invalidateWay (s : State) (k : Nat) : State :=
  match Table.find s.cache.ways k with
  | none => s
  | some e => (s.setWays (Table.erase s.cache.ways k)).cacheReportAny e.seg

end Sys2Proof.Machine
end

