-- ==== Sys2Proof/Machine/Station.lean ====
section
/-! DEFINITION. Orders leaving the queue or being suspended (R160, R162, R165); station transitions and halting
(R26, R27, R34); a new authority limit and the overrun check (R60, R146). -/

namespace Sys2Proof.Machine

/-! ## Orders (R160, R165) -/

/-- R16: the expected marker is chosen afresh when the reckoning run is no longer the one it was. An order change or an
order end that leaves the run's segments as they were is taken as no change of the run, the model's choice; a grant always
chooses afresh (log 30). -/
def State.runChanged (s : State) (before : List Nat) : State :=
  if s.runSegs = before then s else s.chooseExpected

def State.setOrder (s : State) (tag : Nat) (f : Order → Order) : State :=
  s.setOrders { s.orders with list := s.orders.list.map (fun o => if o.tag == tag then f o else o) }

/-- An order leaves the queue: its tag leaves the cache's pins (R125, R165). -/
def State.removeOrder (s : State) (tag : Nat) : State :=
  ((s.setOrders { s.orders with list := s.orders.list.filter (fun o => o.tag != tag) }).setCache
    (s.cache.unpin tag (fun _ => true))).runChanged s.runSegs

def State.centreSeg (s : State) : Option Nat := s.pos.centre.map Centre.seg

/-- DONE: the last path segment and the end action (R165). -/
def State.orderDone (s : State) (t : Nat) (o : Order) : State :=
  (s.removeOrder o.tag).raise
    { Notice.plain .orderDone t with tag := some o.tag, seg := o.path.getLast?, detail := some o.endAction.code }

/-- CANCELLED: the centre segment and the state the order was in (R165). -/
def State.orderCancelled (s : State) (t : Nat) (o : Order) : State :=
  (s.removeOrder o.tag).raise
    { Notice.plain .orderCancelled t with tag := some o.tag, seg := s.centreSeg, detail := some o.state.code }

/-- The reasons of ORDER_FAILED with their codes (R58). -/
inductive FailReason where
  | offPath | bodyOffPath | liftTimeout | liftJammed
  deriving DecidableEq, Repr

def FailReason.code : FailReason → Nat
  | .offPath => 1
  | .bodyOffPath => 2
  | .liftTimeout => 3
  | .liftJammed => 4

/-- FAILED: the segment the reason names and the reason (R165). -/
def State.orderFailed (s : State) (t : Nat) (o : Order) (why : FailReason) (seg : Option Nat) : State :=
  (s.removeOrder o.tag).raise
    { Notice.plain .orderFailed t with tag := some o.tag, seg := seg, detail := some why.code }

/-- The ACTIVE order becomes SUSPENDED with a reason; it keeps its place, its pins and its path (R160). Its path leaves
the run, so the expected marker is chosen afresh where the run's segments change (R10, R16; log 30). -/
def State.suspend (s : State) (tag : Nat) (why : SuspendReason) : State :=
  (s.setOrder tag (fun o => { o with state := .suspended, reason := some why })).runChanged s.runSegs

/-- The order under the cancel mark is removed as CANCELLED and the mark cleared (R162). -/
def State.cancelMarked (s : State) (t : Nat) (o : Order) : State :=
  let s1 := s.orderCancelled t o
  s1.setOrders { s1.orders with cancelMark := none }

/-- What a halt does to the Order Queue: the ACTIVE order is suspended with reason HALT, or removed as CANCELLED when
it carries the cancel mark; a FINISHING order is not touched (R26, R160, R162). The run changes with it and the expected
marker is chosen afresh (R10, R16), at the halt of a POSITION_CONFLICT too, where R14 has the read itself leave the marker
as it stood (the model's choice, log 34). -/
def State.haltOrders (s : State) (t : Nat) : State :=
  match s.activeOrder with
  | none => s
  | some o => if s.orders.cancelMark = some o.tag then s.cancelMarked t o else s.suspend o.tag .halt

/-! ## Station transitions (R34) -/

/-- A transition queues one STATE_CHANGED notice naming the old and the new state. -/
def State.changeState (s : State) (t : Nat) (new : StationState) : State :=
  (s.setControl { s.control with state := new }).raise
    { Notice.plain .stateChanged t with detail := some (pairDetail s.control.state.code new.code) }

/-! ## Halting (R26, R27) -/

/-- The emergency deceleration of a load class in mm/s² (R132). -/
def emergencyRate : LoadClass → Nat
  | .empty => 800
  | .light => 600
  | .heavy => 400

/-- The service deceleration of a load class in mm/s² (R132). -/
def serviceRate : LoadClass → Nat
  | .empty => 400
  | .light => 300
  | .heavy => 200

/-- The target becomes 0 for a reason of R139. -/
def Figures.withTarget (f : Figures) (zero : Option TargetTerm) : Figures :=
  match zero with
  | none => f
  | some term => { f with target := 0, term := term }

/-- The Motion Controller at the entry to HALTED: EMERGENCY, speed 0, the latch BRAKING, every service stop request
gone without a report (R131, R142, R143). The target is 0 in HALTED (R139); the term it is reported with is NO_ORDER
(log 18). -/
def Motion.emergencyStop (m : Motion) (effective : LoadClass) : Motion :=
  { m with commanded := 0, requests := [], stopZero := 0, latch := .braking, latchZero := 0,
           latchReported := false, brakeRate := emergencyRate effective,
           figures := m.figures.map (fun f => f.withTarget (some .noOrder)) }

/-- The entry to HALTED from JOINING or RUNNING (R26). R26 has its effects take place together, and neither it nor R162
orders their notices: the model queues STATE_CHANGED first, then what the end of the claim causes, then the ORDER_CANCELLED
of an order under the cancel mark (log 38). -/
def State.enterHalted (s : State) (t : Nat) : State :=
  let s1 := (s.setControl { s.control with joinTimer := none }).changeState t .halted
  let s2 := s1.setMotion (s1.motion.emergencyStop s1.orders.effective)
  (s2.abandonClaim t).haltOrders t

def State.addCause (s : State) (c : Cause) : State :=
  s.setControl { s.control with causes := Machine.addCause s.control.causes c }

/-- A halting cause arrives: it joins the set, and from JOINING or RUNNING the station enters HALTED (R26, R27). None
arises in SETUP. -/
def State.halt (s : State) (t : Nat) (c : Cause) : State :=
  match s.control.state with
  | .setup => s
  | .halted => s.addCause c
  | .joining | .running => (s.addCause c).enterHalted t

/-- What a halting cause's notice and fault name. -/
structure HaltReport where
  notice : NoticeKind
  fault : FaultKind
  cause : Cause
  station : Option Nat
  seg : Option Nat
  detail : Option Nat
  faultDetail : Option Nat
  deriving DecidableEq, Repr

/-- A detected halting cause: its notice, its fault, then the halt (section 2.4, R191; log 23). -/
def State.haltWith (s : State) (t : Nat) (r : HaltReport) : State :=
  ((s.raise { Notice.plain r.notice t with seg := r.seg, station := r.station, detail := r.detail }).offerFault
    { kind := r.fault, time := t, station := r.station, seg := r.seg, detail := r.faultDetail }).halt t r.cause

/-! ## The overrun check (R146) -/

/-- The report of an overrun: the front segment and −D, saturating. -/
def State.overrunReport (s : State) (d : Int) : HaltReport :=
  { notice := .overrun, fault := .overrun, cause := .overrun, station := none,
    seg := frontSeg s.layout s.half, detail := some (min top16 (-d).toNat)
    faultDetail := some (min top16 (-d).toNat) }

def State.setOverrunMark (s : State) (b : Bool) : State := s.setMotion { s.motion with overrunMark := b }

/-- The check in RUNNING and HALTED: one crossing of the limit raises one OVERRUN. -/
def State.overrunCheck (s : State) (t : Nat) : State :=
  match s.control.state, s.motion.authority with
  | .running, some d | .halted, some d =>
      if 0 ≤ d then s.setOverrunMark false
      else if s.motion.overrunMark then s
      else (s.setOverrunMark true).haltWith t (s.overrunReport d)
  | _, _ => s

/-- D as it now stands is given to the Motion Controller, which makes the overrun check at once (R60, R146). -/
def State.newAuthority (s : State) (t : Nat) : State :=
  (s.setMotion { s.motion with authority := s.authorityDistance }).overrunCheck t

/-- Every RESERVED entry is given back at a stop and the authority limit moves back (R85). -/
def State.stopRelease (s : State) (t : Nat) : State := (s.releaseReserved t).newAuthority t

/-- HOLD_CONFLICT leaves the causes when the conflict-segment set is empty: no pair and the overflow mark clear (R28,
R95). -/
def State.settleConflicts (s : State) : State :=
  if s.resp.conflicts.isEmpty && !s.resp.overflow then s.dropCause .holdConflict else s

end Sys2Proof.Machine
end

