-- ==== Sys2Proof/Machine/Position.lean ====
section
/-! DEFINITION. The Position Unit at work: body span and what follows it (R17, R19, R20, R61, R62, R141), dead reckoning
(R11, R12), the miss check (R16), tag reads and marker correction (R7, R8, R14, R15), and the layout at START (R4,
R18). -/

namespace Sys2Proof.Machine

/-! ## After a recomputation of the body span -/

/-- The segment of lowest cap below a speed among some segments (R141). Of two with the same lowest cap R141 does not
say which one CAP_ENTRY names: the model names the first, the rear-most on the run (log 35). -/
def lowestCap (map : Table Segment) (speed : Nat) : List Nat → Option Nat
  | [] => none
  | n :: rest =>
      match lowestCap map speed rest with
      | none => if capOf map n < speed then some n else none
      | some m => if capOf map n ≤ capOf map m then some n else some m

def State.setCommanded (s : State) (v : Nat) : State := s.setMotion { s.motion with commanded := v }

/-- R141: in RUNNING, a segment that comes under the body with a cap below the commanded speed sets it to that cap; which
of two equally slow segments the notice names is lowestCap's choice (log 35). -/
def State.capEntry (s : State) (t : Nat) (before : List Nat) : State :=
  if s.control.state = .running then
    match lowestCap s.pos.map s.motion.commanded
        ((underBody s.layout s.half).filter (fun n => !before.contains n)) with
    | none => s
    | some n =>
        (s.setCommanded (capOf s.pos.map n)).raise
          { Notice.plain .capEntry t with seg := some n, detail := some s.motion.commanded }
  else s

/-- The run segments whose near boundary lies within T ahead of the front, or behind it (R19). -/
def reached (lay : List Placed) (h tol : Int) : List Nat :=
  (lay.filter (fun p => decide (p.lo ≤ h + tol))).map Placed.seg

/-- The run segments wholly behind the rear whose far boundary lies more than T behind it (R20). -/
def cleared (lay : List Placed) (h tol : Int) : List Nat :=
  (lay.filter (fun p => decide (p.hi < -h - tol))).map Placed.seg

/-- Entry events mark held segments OCCUPIED (R19, R61). -/
def State.entryEvents (s : State) : State :=
  let segs := reached s.layout s.half s.tol
  s.setClaim
    { s.claim with
      held := s.claim.held.map (fun e => if segs.contains e.seg then { e with mark := .occupied } else e) }

/-- Exit events remove held segments, and one RELEASE names them rear-most first (R20, R62). The expected marker is
not chosen afresh for them (log 14). -/
def State.exitEvents (s : State) (t : Nat) : State :=
  let segs := cleared s.layout s.half s.tol
  s.giveBack t ((heldSegs s.claim.held).filter (fun n => segs.contains n))

/-- What follows a recomputation of the body span; `before` lists the segments under the body before it. -/
def State.bodyMoved (s : State) (t : Nat) (before : List Nat) : State :=
  ((s.capEntry t before).entryEvents).exitEvents t

/-! ## Dead reckoning (R11, R12) -/

/-- POSITION_LOST with a segment: the miss count is 2 and the expected marker is cleared (R12, R16). -/
def State.positionLost (s : State) (t seg : Nat) : State :=
  (s.setPos { s.pos with expected := none, misses := 2 }).haltWith t
    { notice := .positionLost, fault := .positionLost, cause := .positionLost, station := none, seg := some seg,
      detail := none, faultDetail := none }

/-- The centre moves by the pulses counted; a centre that cannot go on raises POSITION_LOST once (R12). -/
def State.reckon (s : State) (t um : Nat) : State :=
  match s.pos.centre with
  | none => s
  | some c =>
      let m := moveCentre (placedAhead s.pos.map s.runSegs c) c um
      let s1 := s.setPos { s.pos with centre := some m.1 }
      if m.2 && !s.pos.endLost then
        (s1.setPos { s1.pos with endLost := true }).positionLost t m.1.seg
      else s1

/-- R16: an expected marker the centre has passed by more than 2T is missed. -/
def State.missCheck (s : State) (t : Nat) : State :=
  match s.pos.expected with
  | none => s
  | some m =>
      match plateAt s.pos.map s.layout m with
      | none => s
      | some x =>
          if -x ≤ 2 * s.tol then s
          else if s.pos.misses = 0 then
            ((s.setPos { s.pos with misses := 1 }).chooseExpected).raise
              { Notice.plain .tagMissed t with seg := some m.seg, detail := some m.plate }
          else if s.pos.misses = 1 then s.positionLost t m.seg
          else s

/-- The Position Unit's part of a control step, with the pulse count taken at it (R11). -/
def State.positionStep (s : State) (t pulses : Nat) : State :=
  let before := underBody s.layout s.half
  (((s.setPos { s.pos with pulses := 0 }).reckon t (pulses * s.params.pulsePitch)).missCheck t).bodyMoved t before

/-! ## Tag reads (R7, R8, R14, R15) -/

/-- The first window that holds the code names a segment and a plate (R7). -/
def decodeTag (windows : List TagWindow) (code : Nat) : Option Marker :=
  (windows.find? (fun w => decide (w.first ≤ code) && decide (code ≤ w.last))).map
    (fun w => ⟨w.base + (code - w.first) / 4, (code - w.first) % 4⟩)

/-- R8: an unmapped code raises TAG_UNMAPPED once from one START to the next. -/
def State.unmappedRead (s : State) (t code : Nat) : State :=
  if s.pos.unmapped.contains code then s
  else
    (s.setPos { s.pos with unmapped := insertNum s.pos.unmapped code }).raise
      { Notice.plain .tagUnmapped t with detail := some code }

/-- The details of POSITION_CONFLICT with their codes (R15, R58). -/
inductive ConflictDetail where
  | errorLarge | wrongSegment | rearUnheld | frontBeyond
  deriving DecidableEq, Repr

def ConflictDetail.code : ConflictDetail → Nat
  | .errorLarge => 1
  | .wrongSegment => 2
  | .rearUnheld => 3
  | .frontBeyond => 4

/-- POSITION_CONFLICT with the plate's segment (R15). The centre and the miss count stay, as R14 says of a read that leads
to it, and this operation leaves the expected marker alone; but the halt it causes suspends the ACTIVE order, which
changes the run, and R16 has the marker chosen afresh at every change of the run. The model lets R16 act there, so that
the marker can be another one after the halt (State.haltOrders; log 34). -/
def State.positionConflict (s : State) (t seg : Nat) (d : ConflictDetail) : State :=
  s.haltWith t
    { notice := .positionConflict, fault := .positionConflict, cause := .positionConflict, station := none,
      seg := some seg, detail := some d.code, faultDetail := some d.code }

/-- The centre segment with the run segments just after and just before it (R15). On a loop of two segments the same one
can stand on both sides, and its plates have two run distances: R14 and R15 do not say which one the error is taken from,
and the model takes the one ahead, which stands first here (log 37). -/
def nearby (map : Table Segment) (segs : List Nat) (c : Centre) : List Placed :=
  (placedAhead map segs c).take 2 ++
    ((placeBehind map c.seg c.dir (placeCentre map c).lo
      (if segs.contains c.seg then (beforeSeg segs c.seg).reverse else [])).take 1)

/-- The position checks on a snapped centre (R15). -/
def State.snapFault (s : State) (c : Centre) : Option ConflictDetail :=
  let lay := layOut s.pos.map s.runSegs c
  if lay.head?.any (fun p => decide (-s.half < p.lo)) then some .rearUnheld
  else if (authorityUm s lay).any (fun d => decide (d < 0)) then some .frontBeyond
  else none

/-- A snap takes effect in full (R14). -/
def State.snap (s : State) (t : Nat) (c : Centre) : State :=
  let before := underBody s.layout s.half
  let s1 := s.setPos { s.pos with centre := some c, misses := if s.pos.misses < 2 then 0 else s.pos.misses }
  s1.chooseExpected.bodyMoved t before

/-- DRIFT: the plate's segment, and the error in mm rounded toward zero. It is raised before the snap takes effect, so
before a CAP_ENTRY of that snap: the order of the two in the queue is the model's choice (log 33). -/
def State.drift (s : State) (t seg : Nat) (e : Int) : State :=
  if e.natAbs ≤ 1000 * s.params.tolerance then s
  else s.raise { Notice.plain .drift t with seg := some seg, detail := some (signed16 (e.tdiv 1000)) }

/-- R14 and R15: a mapped read of plate `m`. An error above T raises DRIFT first and then snaps (the model's choice, log
33). -/
def State.mappedRead (s : State) (t : Nat) (m : Marker) : State :=
  match s.pos.centre with
  | none => s
  | some c =>
      match (nearby s.pos.map s.runSegs c).find? (fun p => p.seg == m.seg) with
      | none => s.positionConflict t m.seg .wrongSegment
      | some p =>
          let plate := 1000 * plateOffset (lengthOf s.pos.map m.seg) m.plate
          let e := -(p.at (plate : Int))
          let snapped : Centre := { seg := m.seg, offset := plate, dir := p.dir }
          if 4000 * s.params.tolerance < e.natAbs then s.positionConflict t m.seg .errorLarge
          else
            match s.snapFault snapped with
            | some d => s.positionConflict t m.seg d
            | none => (s.drift t m.seg e).snap t snapped

/-- A tag read in JOINING, RUNNING or HALTED (R7). -/
def State.tagRead (s : State) (t code : Nat) : State :=
  match decodeTag s.pos.windows.toList code with
  | none => s.unmappedRead t code
  | some m =>
      if m.seg ≤ 240 ∧ (Table.find s.pos.map m.seg).isSome then s.mappedRead t m else s.unmappedRead t code

/-! ## The map check at START (R4) -/

inductive MapFault where
  | neighbourMissing | notMirrored | deadEndThrough
  deriving DecidableEq, Repr

def MapFault.code : MapFault → Nat
  | .neighbourMissing => 1
  | .notMirrored => 2
  | .deadEndThrough => 3

/-- The fault of one link (n, e) at end X of segment s. -/
def linkFault (map : Table Segment) (s : Nat) (x : End) (l : Link) : Option MapFault :=
  if (Table.find map l.seg).isNone then some .neighbourMissing
  else if (linksAt map l.seg l.far).contains ⟨s, x⟩ then none
  else some .notMirrored

def SegKind.deadEnd : SegKind → Bool
  | .bay | .dock => true
  | .lane | .siding => false

/-- The first fault of one segment, with its end (none for DEAD_END_THROUGH). -/
def segmentFault (map : Table Segment) (s : Nat) (g : Segment) : Option (Option End × MapFault) :=
  if g.kind.deadEnd && !g.aLinks.isEmpty && !g.bLinks.isEmpty then some (none, .deadEndThrough)
  else
    match g.aLinks.findSome? (linkFault map s .a) with
    | some f => some (some .a, f)
    | none => (g.bLinks.findSome? (linkFault map s .b)).map (fun f => (some .b, f))

/-- The first fault of the map, segments in ascending number. -/
def mapFault (map : Table Segment) : Option (Nat × Option End × MapFault) :=
  map.findSome? (fun e => (segmentFault map e.1 e.2).map (fun f => (e.1, f)))

/-! ## The body span at START (R18) -/

/-- Where a walk failed, or the segments it entered, in the order of the walk. -/
inductive Walk where
  | failed (seg : Nat)
  | entered (segs : List Nat)
  deriving DecidableEq, Repr

/-- A walk of `left` mm beyond the end `x` of segment `seg`, through link 1 of each end; `seen` holds the segments
entered so far. The fuel bounds the number of segments entered. -/
def walk (map : Table Segment) : Nat → List Nat → Nat → End → Nat → Walk
  | 0, seen, _, _, _ => .entered seen
  | fuel + 1, seen, seg, x, left =>
      if left = 0 then .entered seen
      else
        match (linksAt map seg x).head? with
        | none => .failed seg
        | some l =>
            if seen.contains l.seg then .failed l.seg
            else walk map fuel (seen ++ [l.seg]) l.seg l.far.other (left - lengthOf map l.seg)

/-- The occupied run of R18 from the rear's segment to the front's, or the segment at which the walk failed (log 17). -/
def occupiedRun (map : Table Segment) (seg offset : Nat) (dir : Direction) (h : Nat) : Walk :=
  let len := lengthOf map seg
  let aheadRoom := match dir with | .forward => len - offset | .reverse => offset
  let behindRoom := len - aheadRoom
  match walk map 13 [seg] seg dir.leaving (h - aheadRoom) with
  | .failed n => .failed n
  | .entered fwd =>
      match walk map 13 fwd seg dir.entering (h - behindRoom) with
      | .failed n => .failed n
      | .entered all =>
          let run := (all.drop fwd.length).reverse ++ fwd
          if 12 < run.length then .failed ((all.drop 12).headD seg) else .entered run

end Sys2Proof.Machine
end

