-- ==== Sys2Proof/Machine/Lift.lean ====
section
/-! DEFINITION. The Lift Unit: sensor reading and outputs (R166), operations (R168 to R170), the load class (R171,
R172), and the report that ends the FINISHING order (R164). -/

namespace Sys2Proof.Machine

inductive SensorReading where
  | upShown | downShown | neither
  deriving DecidableEq, Repr

def SensorReading.code : SensorReading → Nat
  | .upShown => 0
  | .downShown => 1
  | .neither => 2

/-- Both sensors asserted together read as NEITHER (R166). -/
def Pins.reading (p : Pins) : SensorReading :=
  if p.sup && !p.sdn then .upShown else if p.sdn && !p.sup then .downShown else .neither

/-- The lift state taken from the sensors after a reset (R167). -/
def SensorReading.liftState : SensorReading → LiftState
  | .upShown => .up
  | .downShown => .down
  | .neither => .jammed

/-- The Lift Unit after power-on reset and after RESTART (R167). -/
def LiftUnit.fresh (p : Pins) : LiftUnit :=
  { state := p.reading.liftState, timer := none, operation := none, measured := none }

/-- The actuator outputs LUP and LDN (R166). -/
def LiftState.outputs : LiftState → Bool × Bool
  | .raising => (true, false)
  | .lowering => (false, true)
  | .down | .up | .jammed => (false, false)

/-- HEAVY is heavier than LIGHT, and LIGHT than EMPTY (R159, R171). -/
def heavier (x y : LoadClass) : LoadClass := if loadCode y < loadCode x then x else y

def State.setEffective (s : State) (c : LoadClass) : State := s.setOrders { s.orders with effective := c }

/-- The load check on reaching UP: LOADC is read once; a heavier class upgrades the effective class (R171). -/
def State.loadCheck (s : State) (t : Nat) (tag : Option Nat) : State :=
  let s1 := s.setLift { s.lift with measured := some s.pins.loadc }
  if loadCode s.orders.effective < loadCode s.pins.loadc then
    (s1.setEffective s.pins.loadc).raise
      { Notice.plain .loadUpgraded t with
        tag := tag, seg := s.centreSeg, detail := some (pairDetail (loadCode s.orders.effective) (loadCode s.pins.loadc)) }
  else s1

/-- On reaching DOWN the effective class is EMPTY and the measured class absent (R172). -/
def State.liftDownReset (s : State) : State :=
  (s.setEffective .empty).setLift { s.lift with measured := none }

def State.finishingOrder (s : State) (tag : Nat) : Option Order :=
  s.orders.list.find? (fun o => o.tag == tag && o.state == .finishing)

/-- Success ends the FINISHING order as DONE and the operation becomes none (R164, R168). -/
def State.liftSuccess (s : State) (t : Nat) : State :=
  let s1 := s.setLift { s.lift with operation := none }
  match s.lift.operation with
  | none => s1
  | some op =>
      match s.finishingOrder op.tag with
      | none => s1
      | some o => s1.orderDone t o

/-- The lift reaches the end it travels to (R169). -/
def State.liftReached (s : State) (t : Nat) : State :=
  let tag := s.lift.operation.map LiftOperation.tag
  match s.lift.state with
  | .raising => ((s.setLift { s.lift with state := .up, timer := none }).loadCheck t tag).liftSuccess t
  | .lowering => ((s.setLift { s.lift with state := .down, timer := none }).liftDownReset).liftSuccess t
  | .down | .up | .jammed => s

/-- The sensor reading is judged during travel (R169); any other reading changes nothing. -/
def State.judgeSensors (s : State) (t : Nat) : State :=
  match s.lift.state, s.pins.reading with
  | .raising, .upShown | .lowering, .downShown => s.liftReached t
  | _, _ => s

/-- The Order Queue hands over an end action (R168). -/
def State.beginLift (s : State) (t tag : Nat) (action : EndAction) : State :=
  let s1 := s.setLift { s.lift with operation := some ⟨action, tag⟩ }
  let time := some (1000 * s.params.liftTimeout)
  match s.lift.state, action with
  | .down, .lift => (s1.setLift { s1.lift with state := .raising, timer := time }).judgeSensors t
  | .up, .lower => (s1.setLift { s1.lift with state := .lowering, timer := time }).judgeSensors t
  | .up, .lift => (s1.loadCheck t (some tag)).liftSuccess t
  | .down, .lower => s1.liftDownReset.liftSuccess t
  | _, _ => s

/-- Expiry of the lift timer during travel: the lift is JAMMED and the order FAILED (R170). The fault, for which R170 names
no values, takes the segment and the detail of the notice (log 23). -/
def State.liftTimeout (s : State) (t : Nat) : State :=
  match s.lift.operation with
  | none => s.setLift { s.lift with state := .jammed, timer := none }
  | some op =>
      let detail := some (pairDetail op.action.code s.pins.reading.code)
      let s1 := (s.setLift { s.lift with state := .jammed, timer := none, operation := none }).raise
        { Notice.plain .liftTimeout t with tag := some op.tag, seg := s.centreSeg, detail := detail }
      let s2 := s1.offerFault
        { kind := .liftTimeout, time := t, station := none, seg := s.centreSeg, detail := detail }
      match s.finishingOrder op.tag with
      | none => s2
      | some o => s2.orderFailed t o .liftTimeout none

end Sys2Proof.Machine
end

