-- ==== Sys2Proof/Machine/Motion.lean ====
section
/-! DEFINITION. The Motion Controller: figures (R133 to R138), target and step limiting (R139, R140), the emergency
latch (R143), service stops (R142) with what their completion does (R85, R108, R113, R162), obstacle, stall, reversal and
arrival (R145, R147 to R149, R163). -/

namespace Sys2Proof.Machine

/-! ## Figures (R133 to R138) -/

/-- r(v) = ceil(v × t_r / 1000). -/
def reactionDist (p : Params) (v : Nat) : Nat := ceilDiv (v * p.reaction) 1000

/-- b(v) = ceil(v² / (2 × a)). -/
def brakingDist (a v : Nat) : Nat := ceilDiv (v * v) (2 * a)

/-- d_stop(v) = r(v) + b(v) (R134). -/
def stoppingDist (p : Params) (a v : Nat) : Nat := reactionDist p v + brakingDist a v

/-- v_auth (R136): 0 where there is no authority distance. -/
def authoritySpeed (a r : Nat) : Option Int → Nat
  | none => 0
  | some d => isqrt (2 * a * (d - r).toNat)

/-- v_k for a segment of cap c at a distance (R137). -/
def slowerSpeed (a r cap : Nat) (dist : Int) : Nat := isqrt (cap * cap + 2 * a * (dist - r).toNat)

/-- v_end with its creep (R138). -/
def endSpeed (a : Nat) (d : Int) : Nat :=
  let v := isqrt (2 * a * d.toNat)
  if v < 30 ∧ 10 < d then 30 else v

/-- D_end of an order: its end point less the centre, in mm rounded down (R138; log 13). Of two places of the last path
segment on the run it is the one further ahead, the path's own (log 37). -/
def State.endDistance (s : State) (o : Order) : Option Int :=
  match o.path.getLast? with
  | none => none
  | some n => ((s.layout.filter (fun p => p.seg == n)).getLast?).map (fun p => p.at (1000 * (o.endOffset : Int)) / 1000)

/-- The speeds v_k of the held segments wholly ahead of the front whose cap is below v (R137), the distances in mm rounded
down (log 13). A held segment that stands on the path ahead once more gives one there too (log 37). -/
def State.slowerSpeeds (s : State) (v a r : Nat) : List Nat :=
  (s.layout.filter (fun p => (heldSegs s.claim.held).contains p.seg && decide (s.half ≤ p.lo)
      && decide (capOf s.pos.map p.seg < v))).map
    (fun p => slowerSpeed a r (capOf s.pos.map p.seg) ((p.lo - s.half) / 1000))

/-- The caps of the segments under the body (R139). -/
def State.bodyCaps (s : State) : List Nat := (underBody s.layout s.half).map (capOf s.pos.map)

/-- The lowest of some terms with its name, the first among equals. -/
def lowestTerm (top : Nat × TargetTerm) (l : List (Nat × TargetTerm)) : Nat × TargetTerm :=
  l.foldl (fun x y => if y.1 < x.1 then y else x) top

/-- Whether the active path asks the carrier to move against its present direction (R148). With the centre segment not on
the path, for which the table has no row, no reversal is pending (log 32). -/
def State.wantsReversal (s : State) : Bool :=
  match s.activeOrder, s.pos.centre with
  | some o, some c =>
      if o.path.contains c.seg then
        match (afterSeg o.path c.seg).head? with
        | some n =>
            (linkTo s.pos.map c.seg c.dir.entering n).isSome && (linkTo s.pos.map c.seg c.dir.leaving n).isNone
        | none => decide ((placeCentre s.pos.map c).at (1000 * (o.endOffset : Int)) < -10000)
      else false
  | _, _ => false

/-- D_end where it can be computed: with an ACTIVE order whose end point is on the run (R135, R138). -/
def State.endNow (s : State) : Option Int := s.activeOrder.bind s.endDistance

/-- D_end, otherwise as last computed (R135): with no ACTIVE order, and with one whose last segment is off the run (log
32). -/
def State.stepEnd (s : State) : Option Int :=
  match s.endNow with
  | some d => some d
  | none => s.motion.figures.bind Figures.dEnd

/-- v_end is computed in RUNNING with an ACTIVE order and no reversal pending (R138, R148). -/
def State.endJudged (s : State) : Bool :=
  s.control.state == .running && s.activeOrder.isSome && !s.wantsReversal

/-- v_end where it is computed; with the end point off the run it is no term of the target (log 32). -/
def State.endSpeedNow (s : State) (a : Nat) : Option Nat :=
  if s.endJudged then s.endNow.map (endSpeed a) else none

/-- v_end, otherwise as last computed. -/
def State.stepEndSpeed (s : State) (a : Nat) : Option Nat :=
  match s.endSpeedNow a with
  | some v => some v
  | none => s.motion.figures.bind Figures.vEnd

/-- v_auth in RUNNING (R136), otherwise as last computed. -/
def State.stepAuthority (s : State) (a r : Nat) (d : Option Int) : Nat :=
  if s.control.state = .running then authoritySpeed a r d else (s.motion.figures.map Figures.vAuth).getD 0

/-- The terms of R139 that apply, in its order. -/
def State.targetTerms (s : State) (v a r vAuth : Nat) : List (Nat × TargetTerm) :=
  [(s.params.maxSpeed, .maxSpeed)] ++ (s.activeOrder.toList.map (fun o => (o.cap, .orderCap))
    ++ (s.bodyCaps.map (fun c => (c, .bodyCap)) ++ ([(vAuth, .vAuth)]
      ++ ((s.slowerSpeeds v a r).map (fun c => (c, .vSlower))
        ++ (s.endSpeedNow a).toList.map (fun c => (c, .vEnd))))))

/-- Every figure of a step but D itself (R134 to R138), and the lowest of the terms of R139. -/
def State.stepFigures (s : State) (d : Option Int) : Figures :=
  let v := max s.motion.commanded s.motion.measured
  let a := serviceRate s.orders.effective
  let r := reactionDist s.params v
  let vAuth := s.stepAuthority a r d
  let lowest := lowestTerm (s.params.maxSpeed, .maxSpeed) (s.targetTerms v a r vAuth)
  { dEnd := s.stepEnd, v := v, r := r,
    h := stoppingDist s.params a v + s.params.margin,
    lead := ceilDiv (v * 2 * s.params.window) 1000,
    hCap := (s.activeOrder.map (fun o => stoppingDist s.params a o.cap + s.params.margin)).getD 0,
    vAuth := vAuth, vEnd := s.stepEndSpeed a, target := lowest.1, term := lowest.2 }

def LiftState.moving : LiftState → Bool
  | .raising | .lowering => true
  | .down | .up | .jammed => false

/-- The cases in which the target is 0 whatever the terms give (R139). -/
def State.zeroTarget (s : State) (reversal : Bool) : Option TargetTerm :=
  if !s.motion.requests.isEmpty then some .serviceStop
  else if s.activeOrder.isNone then some .noOrder
  else if reversal then some .reversal
  else if s.lift.state.moving then some .lift
  else none

/-- Step limiting (R140). -/
def stepSpeed (acceleration a commanded target : Nat) : Nat :=
  if commanded ≤ target then min target (commanded + max 1 (acceleration / 100))
  else max target (commanded - ceilDiv a 100)

/-! ## Items 2, 3, 5 and 6 of the step -/

/-- Item 2: the figures, with the overrun check in RUNNING and HALTED (R135, R146). In JOINING and HALTED the target is
0, reported with the term NO_ORDER (R139; log 18). The rate on BRK follows the class at the step (R132). -/
def State.figuresStep (s : State) (t : Nat) : State :=
  let d := s.authorityDistance
  let f := s.stepFigures d
  let f' := if s.control.state = .running then f else f.withTarget (some .noOrder)
  (s.setMotion
    { s.motion with authority := d, figures := some f', brakeRate := emergencyRate s.orders.effective }).overrunCheck t

/-- Item 3: OBST asserted at a step in RUNNING (R145). -/
def State.obstacleCheck (s : State) (t : Nat) : State :=
  if s.control.state = .running ∧ s.pins.obst = true then
    s.haltWith t
      { notice := .obstacle, fault := .obstacle, cause := .obstacle, station := none, seg := s.centreSeg,
        detail := some s.motion.measured, faultDetail := some s.motion.measured }
  else s

/-- Item 5: the target and the limited step toward it, in RUNNING (R139, R140). -/
def State.driveStep (s : State) (reversal : Bool) : State :=
  if s.control.state = .running then
    match s.motion.figures with
    | none => s
    | some f =>
        let g := f.withTarget (s.zeroTarget reversal)
        s.setMotion
          { s.motion with
            figures := some g
            commanded := stepSpeed s.params.acceleration (serviceRate s.orders.effective) s.motion.commanded g.target }
  else s

/-- DRIVE_STALL: the centre segment and the commanded speed; the timer is set to 0 (R147). -/
def State.raiseStall (s : State) (t : Nat) : State :=
  (s.setMotion { s.motion with stall := 0 }).haltWith t
    { notice := .driveStall, fault := .driveStall, cause := .driveStall, station := none, seg := s.centreSeg,
      detail := some s.motion.commanded, faultDetail := some s.motion.commanded }

/-- Item 6: the stall timer, in RUNNING (R147). -/
def State.stallStep (s : State) (t : Nat) : State :=
  if s.control.state = .running then
    if 0 < s.motion.commanded ∧ s.motion.measured = 0 then
      if 2000 ≤ s.motion.stall + 10 then s.raiseStall t
      else s.setMotion { s.motion with stall := s.motion.stall + 10 }
    else s.setMotion { s.motion with stall := 0 }
  else s

/-! ## The emergency latch (R143) -/

/-- The latch becomes COMPLETE; the first completion after the halt gives back the RESERVED segments (R85). -/
def State.emergencyComplete (s : State) (t : Nat) : State :=
  let s1 := s.setMotion { s.motion with latch := .complete, latchZero := 200, latchReported := true }
  if s.motion.latchReported then s1 else s1.stopRelease t

/-- Item 1 of the step. -/
def State.latchStep (s : State) (t : Nat) : State :=
  match s.motion.latch with
  | .none => s
  | .braking =>
      if s.motion.measured = 0 then
        if 200 ≤ s.motion.latchZero + 10 then s.emergencyComplete t
        else s.setMotion { s.motion with latchZero := s.motion.latchZero + 10 }
      else s.setMotion { s.motion with latchZero := 0 }
  | .complete =>
      if s.motion.measured = 0 then s else s.setMotion { s.motion with latch := .braking, latchZero := 0 }

/-! ## Service stops (R142) -/

/-- Whether a station's last report still names a segment as waited for. -/
def ClaimEngine.stillWaits (c : ClaimEngine) (x seg : Nat) : Bool :=
  ((Table.find c.reports x).map PeerReport.waitingFor) == some seg

/-- R108 steps 2 and 3, after the RESERVED segments have been given back: YIELD_NEEDED and the suspension, or the
WAITING phase. -/
def State.yieldStopped (s : State) (t : Nat) : State :=
  match s.claim.record.holdoff with
  | none => s
  | some ho =>
      if ho.phase = .stopping then
        if (heldSegs s.claim.held).contains ho.partnerSeg && s.claim.stillWaits ho.partner ho.partnerSeg then
          match s.activeOrder with
          | none => s.toIdle
          | some o =>
              ((s.suspend o.tag .yield).raise
                { Notice.plain .yieldNeeded t with
                  tag := some o.tag, seg := some ho.partnerSeg, station := some ho.partner,
                  detail := s.claim.record.waitSeg }).toIdle
        else if s.claim.stillWaits ho.partner ho.partnerSeg then
          s.setRecord
            { s.claim.record with holdoff := some { ho with phase := .waiting, timer := some s.params.staleness } }
        else s.toIdle
      else s

/-- The completed CANCEL stop removes the order under the cancel mark (R162). -/
def State.cancelStopped (s : State) (t : Nat) : State :=
  match s.activeOrder with
  | none => s
  | some o => if s.orders.cancelMark = some o.tag then s.cancelMarked t o else s

/-- The stop is complete: the set becomes empty, the RESERVED segments are given back (R85), and each member's block
goes on. The zero time goes to 0 with the set, where R142 gives it no value until a member joins again (log 31). R85 gives
the limit moved back to the Motion Controller at once, and neither R85 nor R162 says whether its overrun check comes before
or after what else the completion does. The completion of a yield runs whole before it (R109; log 26); so does the removal
of the order under the cancel mark, also without a yield, so that ORDER_CANCELLED comes before OVERRUN (the model's choice,
log 36). -/
def State.serviceComplete (s : State) (t : Nat) : State :=
  let members := s.motion.requests
  let s1 := (s.setMotion { s.motion with requests := [], stopZero := 0 }).setClaim
    { s.claim with waitLimitYield := false }
  let s2 := s1.releaseReserved t
  let s3 := if members.contains .yield then s2.yieldStopped t else s2
  let s4 := if members.contains .cancel then s3.cancelStopped t else s3
  s4.newAuthority t

def Motion.standing (m : Motion) : Bool := m.commanded == 0 && m.measured == 0

/-- Item 7 of the step: 200 ms with both speeds 0 complete the stop (R142). -/
def State.serviceStep (s : State) (t : Nat) : State :=
  if s.control.state = .running ∧ s.motion.requests ≠ [] then
    if s.motion.standing then
      if 200 ≤ s.motion.stopZero + 10 then s.serviceComplete t
      else s.setMotion { s.motion with stopZero := s.motion.stopZero + 10 }
    else s.setMotion { s.motion with stopZero := 0 }
  else s

/-! ## Reversal (R13, R148) -/

/-- The reversal is taken: the direction flips, the held list is reversed, the run is formed anew, and the new limit
is checked (R13, R60, R148). The entry and exit events of the turned body come first, with their RELEASE, and the overrun
check last: R13 and R148 do not order them, and this is the model's choice (log 42). -/
def State.takeReversal (s : State) (t : Nat) : State :=
  let before := underBody s.layout s.half
  let s1 := s.setPos
    { s.pos with centre := s.pos.centre.map (fun c => { c with dir := c.dir.flip }) }
  let s2 := s1.setClaim { s1.claim with held := s1.claim.held.reverse }
  let s3 := s2.setMotion { s2.motion with reversalPending := false }
  (s3.chooseExpected.bodyMoved t before).newAuthority t

/-- Item 4 of the step: reversal pending is judged, and taken at standstill. -/
def State.reversalStep (s : State) (t : Nat) : State :=
  if s.control.state = .running then
    let s1 := s.setMotion { s.motion with reversalPending := s.wantsReversal }
    if s.wantsReversal && s.motion.standing then s1.takeReversal t else s1
  else s

/-! ## Arrival (R149, R163) -/

/-- The order has arrived: D_end at most 10 and the measured speed 0. With the end point off the run no arrival is judged:
the D_end kept from before tells nothing of this order's end (log 32). -/
def State.hasArrived (s : State) (reversal : Bool) : Bool :=
  s.control.state == .running && !reversal && s.motion.requests.isEmpty && s.motion.measured == 0
    && s.endNow.any (fun d => decide (d ≤ 10))

/-- The ACTIVE order leaves ACTIVE and its end action is run (R163). -/
def State.endAction (s : State) (t : Nat) (o : Order) : State :=
  match o.endAction with
  | .none => s.orderDone t o
  | .lift | .lower =>
      if s.lift.state = .jammed then s.orderFailed t o .liftJammed none
      else (s.setOrder o.tag (fun o => { o with state := .finishing })).beginLift t o.tag o.endAction

/-- Item 8 of the step. The claim and its wait end with the order's leaving ACTIVE (R73). -/
def State.arrivalStep (s : State) (t : Nat) (reversal : Bool) : State :=
  if s.hasArrived reversal then
    match s.activeOrder with
    | none => s
    | some o => (s.abandonClaim t).endAction t o
  else s

end Sys2Proof.Machine
end

