-- ==== Sys2Proof/Machine/ClaimStep.lean ====
section
/-! DEFINITION. The Claim Engine's part of a control step: trigger, sizing and offering a claim (R65 to R67), enquiries
(R68), the waited counter (R84), the wait limit (R112, R113), the cycle check and the yield (R105 to R107). -/

namespace Sys2Proof.Machine

/-! ## Forming a claim (R65 to R67) -/

/-- The path segments after the held list's front-most segment; none under the cancel mark (R65, R162). -/
def State.candidates (s : State) : List Nat :=
  match s.activeOrder, s.frontMost with
  | some o, some f => if s.orders.cancelMark = some o.tag then [] else afterSeg o.path f
  | _, _ => []

/-- The trigger's conditions, D < H + lead among them (R65). -/
def State.claimTrigger (s : State) : Bool :=
  s.control.state == .running && s.activeOrder.isSome && s.claim.record.state == .idle
    && s.claim.removal.isNone && s.claim.retryTimer.isNone && !s.candidates.isEmpty
    && decide (s.claim.held.length < 12)
    && (match s.motion.authority, s.motion.figures with
        | some d, some f => decide (d < ((f.h + f.lead : Nat) : Int))
        | _, _ => false)

/-- A candidate that a claim stops before: HELD, STALE or on the held list (R66). -/
def State.stopsClaim (s : State) (n : Nat) : Bool :=
  (heldSegs s.claim.held).contains n ||
    (match lookup s.cache n with
     | .miss | .none => false
     | .held _ | .stale _ => true)

/-- The later candidates taken: `room` more at most, while the claim does not yet reach far enough (R67). -/
def State.takeMore (s : State) (hCap : Nat) : Nat → Int → List Nat → List Nat
  | 0, _, _ => []
  | _ + 1, _, [] => []
  | room + 1, reach, n :: rest =>
      if s.stopsClaim n || decide ((hCap : Int) ≤ reach) then []
      else n :: s.takeMore hCap room (reach + (lengthOf s.pos.map n : Int)) rest

/-- The segments of a claim whose first candidate is taken: 8 at most, and 12 with the held list. -/
def State.sizeClaim (s : State) (d : Int) (hCap first : Nat) (rest : List Nat) : List Nat :=
  first :: s.takeMore hCap (min 8 (12 - s.claim.held.length) - 1) (d + (lengthOf s.pos.map first : Int)) rest

/-- A new attempt: the next claim number, the record filled with its frozen key, and round 1 offered (R64, R67). -/
def State.newAttempt (s : State) (t : Nat) (segs : List Nat) (urgency : Nat) : State :=
  let number := (s.claim.counter + 1) % 256
  (s.setClaim
    { s.claim with
      counter := number
      record := { s.claim.record.toIdle with
        state := .queuedR1, number := number, segs := segs, urgency := urgency, waited := s.claim.waited,
        round := 1, attemptTime := t } }).offerClaim t

/-- Whether the segment of the BLOCKED wait was last found STALE (R68, R116). -/
def State.foundStale (s : State) (b : Bool) : State := s.setRecord { s.claim.record with lastStale := b }

/-- Forming: the first candidate's lookup decides between a claim and a BLOCKED wait (R66). -/
def State.formClaim (s : State) (t : Nat) : State :=
  if s.claimTrigger then
    match s.candidates, s.activeOrder, s.motion.authority, s.motion.figures with
    | first :: rest, some o, some d, some f =>
        if (heldSegs s.claim.held).contains first then s
        else
          match lookup s.cache first with
          | .held x => s.enterBlocked first x
          | .stale x => (s.enterBlocked first x).foundStale true
          | .miss | .none => s.newAttempt t (s.sizeClaim d f.hCap first rest) o.urgency
    | _, _, _, _ => s
  else s

/-! ## Enquiries (R68) -/

/-- ms from an earlier time stamp to a later one, over the wrap at 2^32. -/
def elapsed (now before : Nat) : Nat := (now + 2 ^ 32 - before) % 2 ^ 32

/-- Whether the last ENQUIRE for a segment lies a staleness limit or more in the past, or there was none. -/
def State.enquiryDue (s : State) (t seg : Nat) : Bool :=
  match Table.find s.claim.enquiries seg with
  | none => true
  | some u => decide (s.params.staleness ≤ elapsed t u)

/-- An ENQUIRE is offered at most once in a staleness limit; the offer counts even if the queue drops it. -/
def State.enquire (s : State) (t seg : Nat) : State :=
  if s.enquiryDue t seg then
    (s.setClaim { s.claim with enquiries := Table.insert s.claim.enquiries seg t }).send t 255 (.enquire [seg])
  else s

/-- A BLOCKED wait on a segment last found STALE looks it up: still STALE, it enquires; any other result ends the
enquiries of that wait (R68, R116; log 28). -/
def State.enquiryStep (s : State) (t : Nat) : State :=
  match s.claim.record.state, s.claim.record.waitSeg, s.claim.record.lastStale with
  | .blocked, some seg, true =>
      match lookup s.cache seg with
      | .stale _ => s.enquire t seg
      | .miss | .none | .held _ => s.foundStale false
  | _, _, _ => s

/-! ## The waited counter and the wait limit (R84, R112, R113) -/

def State.waitedStep (s : State) : State :=
  if s.claim.record.state.isWait then s.setClaim { s.claim with waited := inc16 s.claim.waited } else s

/-- The station a wait is for: the holder, the rival, or the partner of a holdoff. -/
def ClaimRecord.waitStation (r : ClaimRecord) : Option Nat :=
  match r.state with
  | .blocked => r.holder
  | .contested => r.rival.map Rival.station
  | .holdoff => r.holdoff.map Holdoff.partner
  | .idle | .queuedR1 | .windowR1 | .queuedR2 | .windowR2 => none

/-- The wait-limit yield begins with a service stop (R113). -/
def State.beginWaitLimitYield (s : State) : State :=
  (s.setClaim { s.claim with waitLimitYield := true }).askStop .waitLimit

/-- The wait has expired (R112). -/
def State.expireWait (s : State) (t : Nat) : State :=
  let s1 := (s.setClaim { s.claim with expired := true }).raise
    { Notice.plain .waitExpired t with
      tag := s.activeOrder.map Order.tag, seg := s.claim.record.waitSeg,
      station := s.claim.record.waitStation, detail := some s.claim.waited }
  match s.claim.record.state with
  | .blocked | .contested => s1.beginWaitLimitYield
  | .holdoff | .idle | .queuedR1 | .windowR1 | .queuedR2 | .windowR2 => s1

def State.waitLimitPassed (s : State) : Bool :=
  s.claim.record.state.isWait && !s.claim.expired && decide (100 * s.params.waitLimit < s.claim.waited)

def State.waitLimitStep (s : State) (t : Nat) : State := if s.waitLimitPassed then s.expireWait t else s

/-! ## Two-party cycles (R105 to R107) -/

/-- The holder X and its waiting-for w_X, when w_X is on the own held list (R105). -/
def State.cycle (s : State) : Option (Nat × PeerReport) :=
  match s.control.state, s.claim.record.state, s.claim.record.holder, s.claim.peerWait with
  | .running, .blocked, some x, some r =>
      if r.waitingFor ≠ 0 ∧ (heldSegs s.claim.held).contains r.waitingFor = true then some (x, r) else none
  | _, _, _, _ => none

/-- The lower urgency yields; at equal urgency the higher station number (R106). -/
def yields (own number x theirs : Nat) : Bool := decide (own < theirs) || (own == theirs && decide (x < number))

/-- The yield: HOLDOFF in its STOPPING phase and a service stop; a wait-limit yield outstanding is merged into it
(R107, R142). -/
def State.beginYield (s : State) (x w : Nat) : State :=
  let s1 := s.setClaim
    { s.claim with
      record := { s.claim.record with
        state := .holdoff, holder := none, holdoff := some ⟨.stopping, x, w, none⟩, lastStale := false }
      peerWait := none, waitLimitYield := false }
  let s2 := s1.askStop .yield
  if s.claim.waitLimitYield then s2.withdrawStop .waitLimit else s2

def State.cycleStep (s : State) : State :=
  match s.cycle, s.activeOrder with
  | some (x, r), some o => if yields o.urgency s.control.number x r.urgency then s.beginYield x r.waitingFor else s
  | _, _ => s

/-- The Claim Engine's part of a control step, in its order (log 11); `mayForm` is no at a step that ends a holdoff,
since the trigger is then judged at the next step (R110). -/
def State.claimStep (s : State) (t : Nat) (mayForm : Bool) : State :=
  (((((if mayForm then s.formClaim t else s).enquiryStep t).waitedStep).waitLimitStep t).cycleStep)

end Sys2Proof.Machine
end

