-- ==== Sys2Proof/Machine/Activation.lean ====
section
/-! DEFINITION. Activation of the head order with its revalidation (R156 to R159). -/

namespace Sys2Proof.Machine

/-! ## Revalidation (R157) -/

/-- The held segments beyond the centre segment on the side of an end, nearest first. -/
def heldBeyond (held : List Nat) (c : Centre) (x : End) : List Nat :=
  if held.contains c.seg then
    if x = c.dir.leaving then afterSeg held c.seg else (beforeSeg held c.seg).reverse
  else []

/-- The end of the centre segment linked to `n`; at both ends, the end ahead (R157). -/
def endToward (map : Table Segment) (c : Centre) (n : Nat) : End :=
  if (linkTo map c.seg c.dir.leaving n).isSome then c.dir.leaving else c.dir.entering

/-- The first segment of a list that is not the path segment in its place. -/
def firstOutOfPlace : List Nat → List Nat → Option Nat
  | [], _ => none
  | n :: _, [] => some n
  | n :: rest, m :: path => if n = m then firstOutOfPlace rest path else some n

/-- The outcome of revalidation: the path as cut, or the reason and the segment it names. -/
inductive Revalidation where
  | passed (path : List Nat)
  | failed (why : FailReason) (seg : Nat)
  deriving DecidableEq, Repr

/-- The held-run check on a path that begins with the centre segment. -/
def State.heldRunCheck (s : State) (c : Centre) (path : List Nat) : Revalidation :=
  match (path.drop 1).head? with
  | none => .passed path
  | some n =>
      match firstOutOfPlace (heldBeyond (heldSegs s.claim.held) c (endToward s.pos.map c n)) (path.drop 1) with
      | none => .passed path
      | some m => .failed .bodyOffPath m

def State.revalidate (s : State) (c : Centre) (o : Order) : Revalidation :=
  if o.state = .queued then
    if o.path.head? = some c.seg then s.heldRunCheck c o.path else .failed .offPath c.seg
  else
    if o.path.contains c.seg then s.heldRunCheck c (o.path.dropWhile (fun n => n != c.seg))
    else .failed .offPath c.seg

/-! ## The effective load class (R159) -/

/-- The class taken from the Lift Unit at activation. -/
def LiftUnit.activationClass (u : LiftUnit) : Option LoadClass :=
  match u.state with
  | .up | .jammed => some (u.measured.getD .heavy)
  | .down | .raising | .lowering => none

def effectiveAt (u : LiftUnit) (c : LoadClass) : LoadClass :=
  match u.activationClass with
  | none => c
  | some m => heavier c m

/-! ## Activation (R156, R158) -/

/-- The waited counter follows the tag of the active order (R84). -/
def ClaimEngine.followTag (c : ClaimEngine) (tag : Nat) : ClaimEngine :=
  if c.waitedTag == some tag then c
  else { c with waited := 0, waitedSeg := none, expired := false, waitedTag := some tag }

/-- The order becomes ACTIVE with its path as it now stands (R158). -/
def State.activate (s : State) (t : Nat) (o : Order) (path : List Nat) : State :=
  let s1 := (s.setOrder o.tag (fun x =>
    { x with state := .active, reason := none, path := path, activations := satAdd 255 x.activations 1 })).setCache
      (s.cache.pinPath o.tag path)
  let s2 := (s1.setClaim (s1.claim.followTag o.tag)).setEffective (effectiveAt s.lift o.loadClass)
  (s2.runChanged s.runSegs).raise
    { Notice.plain .orderActive t with tag := some o.tag, seg := s.centreSeg, detail := some path.length }

/-- The head is QUEUED, or SUSPENDED with reason FRONT or HALT (R156). -/
def Order.eligible (o : Order) : Bool :=
  match o.state with
  | .queued => true
  | .suspended => o.reason == some .front || o.reason == some .halt
  | .active | .finishing => false

/-- The conditions of R156 besides the head's own. -/
def State.readyToActivate (s : State) : Bool :=
  s.control.state == .running && s.currentOrder.isNone && !s.lift.state.moving && s.motion.standing
    && s.motion.requests.isEmpty

/-- The judgement: heads that fail revalidation are removed, the first that passes is activated. -/
def State.judgeActivation (s : State) (t : Nat) : Nat → State
  | 0 => s
  | fuel + 1 =>
      match s.orders.list.head?, s.pos.centre with
      | some o, some c =>
          if o.eligible then
            match s.revalidate c o with
            | .passed path => s.activate t o path
            | .failed why seg => (s.orderFailed t o why (some seg)).judgeActivation t fuel
          else s
      | _, _ => s

/-- The Order Queue's part of a control step; up to eight orders may be removed (R156). -/
def State.activationStep (s : State) (t : Nat) : State :=
  if s.readyToActivate then s.judgeActivation t 9 else s

/-! ## The control step (R130) -/

/-- Whether activation may be judged at the end of the step: a step at whose start an order was ACTIVE or FINISHING,
or a service stop was requested, leaves it to the following step (R162, R163; log 11). -/
def State.mayActivate (s : State) : Bool := s.currentOrder.isNone && s.motion.requests.isEmpty

/-- The measured speed of a step: floor(pulse count × pulse pitch / 10), saturating (R130). -/
def measuredSpeed (p : Params) (pulses : Nat) : Nat := min top16 (pulses * p.pulsePitch / 10)

/-- Items 1 to 9 of the step, after the Position Unit's move, in the order of R130. A holdoff that ends in the step
leaves the claim trigger to the next one (R110). -/
def State.motionStep (s : State) (t : Nat) : State :=
  let s2 := (s.latchStep t).figuresStep t
  let s3 := s2.obstacleCheck t
  let reversal := s3.wantsReversal
  let s4 := (((s3.reversalStep t).driveStep reversal).stallStep t).serviceStep t
  (s4.arrivalStep t reversal).claimStep t (s.claim.record.state != .holdoff)

/-- One control step in JOINING, RUNNING or HALTED (R11, R130). -/
def State.controlStep (s : State) : State :=
  let t := s.now
  let s1 := s.positionStep t s.pos.pulses
  let s2 := s1.setMotion { s1.motion with measured := measuredSpeed s.params s.pos.pulses }
  let s3 := s2.motionStep t
  if s.mayActivate then s3.activationStep t else s3

end Sys2Proof.Machine
end

