-- ==== Sys2Proof/Machine/Peers.lean ====
section
/-! DEFINITION. Frames taken from the receive buffer (R43): the Lane Responder's answers (R86 to R97, R101), the Claim
Engine's objections (R75 to R79), and the ends of waits (R81 to R83, R110). `t` is the frame's arrival time, `x` its source. -/

namespace Sys2Proof.Machine

/-! ## Edition mismatch (R77, R87, R97, R98) -/

/-- EDITION_MISMATCH once per station mark. -/
def State.editionMismatch (s : State) (t x edition : Nat) : State :=
  if s.resp.editionMarks.contains x then s
  else
    (s.setResp { s.resp with editionMarks := insertNum s.resp.editionMarks x }).raise
      { Notice.plain .editionMismatch t with station := some x, detail := some edition }

/-! ## Hold conflicts (R79, R94 to R96) -/

def LaneResponder.hasPair (u : LaneResponder) (seg x : Nat) : Bool := u.conflicts.contains ⟨seg, x⟩

/-- A pair joins the set, or sets the overflow mark when the set holds 32 (R95). -/
def LaneResponder.addPair (u : LaneResponder) (seg x : Nat) : LaneResponder :=
  if u.conflicts.length < 32 then { u with conflicts := u.conflicts ++ [⟨seg, x⟩] } else { u with overflow := true }

/-- A new pair: HOLD_CONFLICT as notice, fault and halting cause, the fault with the segment and the station alone (R96,
R191); a pair already in the set raises nothing. -/
def State.holdConflict (s : State) (t x seg : Nat) (detail : Option Nat) : State :=
  if s.resp.hasPair seg x then s
  else
    (s.setResp (s.resp.addPair seg x)).haltWith t
      { notice := .holdConflict, fault := .holdConflict, cause := .holdConflict, station := some x,
        seg := some seg, detail := detail, faultDetail := none }

/-- The mark of a segment on the held list. -/
def markOf (held : List HeldEntry) (seg : Nat) : Option Mark := (held.find? (fun e => e.seg == seg)).map HeldEntry.mark

/-- The conflict check of one listed segment: the detail names the own mark and the beacon's (R94, R96). -/
def State.conflictCheck (s : State) (t x : Nat) (own : List HeldEntry) (e : HeldEntry) : State :=
  match markOf own e.seg with
  | none => s
  | some m => s.holdConflict t x e.seg (some (pairDetail m.code e.mark.code))

/-- The omission check: pairs of `x` whose segment the beacon does not list leave the set (R94). -/
def State.omissionCheck (s : State) (x : Nat) (listed : List Nat) : State :=
  (s.setResp
    { s.resp with
      conflicts := s.resp.conflicts.filter (fun p => !(p.station == x && !listed.contains p.seg)) }).settleConflicts

/-- The Lane Responder's part of a BEACON (R94, R97). -/
def State.responderBeacon (s : State) (t x edition : Nat) (listed : List HeldEntry) : State :=
  let own := s.claim.held
  let s1 := listed.foldl (fun s e => s.conflictCheck t x own e) s
  let s2 := s1.omissionCheck x (heldSegs listed)
  if edition = s.pos.edition then s2 else s2.editionMismatch t x edition

/-! ## The Claim Engine takes a BEACON (R81 to R83, R99, R110) -/

/-- A pending claim that lists a segment the beacon lists (R81). -/
def State.beaconEndsClaim (s : State) (t x seg : Nat) : State :=
  if s.claim.record.segs.head? = some seg then (s.endClaim t).enterBlocked seg x else s.endClaim t

/-- What a beacon does to a BLOCKED wait (R82): the holder's omission or another station's listing ends it. -/
def State.beaconBlocked (s : State) (x seg : Nat) (listed : List Nat) : State :=
  if s.claim.record.holder = some x then (if listed.contains seg then s else s.toIdle)
  else if listed.contains seg then s.toIdle else s

/-- What a beacon does to a holdoff: in WAITING, a report of another waiting-for ends it (R110). -/
def State.beaconHoldoff (s : State) (x waitingFor : Nat) : State :=
  match s.claim.record.holdoff with
  | none => s
  | some ho => if ho.phase = .waiting ∧ ho.partner = x ∧ waitingFor ≠ ho.partnerSeg then s.toIdle else s

def State.claimBeacon (s : State) (t x : Nat) (b : BeaconBody) : State :=
  let listed := heldSegs b.held
  let s1 := s.fileReport x ⟨b.waitingFor, b.urgency⟩
  match s1.claim.record.state, s1.claim.record.waitSeg with
  | .blocked, some seg => s1.beaconBlocked x seg listed
  | .contested, some seg => if listed.contains seg then s1.enterBlocked seg x else s1
  | .holdoff, _ => s1.beaconHoldoff x b.waitingFor
  | _, _ =>
      match s1.claim.record.segs.find? (fun n => listed.contains n) with
      | none => s1
      | some n => s1.beaconEndsClaim t x n

/-- A BEACON is taken by the Lane Responder, the cache and the Claim Engine (R43, R99). -/
def State.takeBeacon (s : State) (t x edition : Nat) (b : BeaconBody) : State :=
  let skip := (heldSegs b.held).filter (fun n => (heldSegs s.claim.held).contains n)
  ((s.responderBeacon t x edition b.held).cacheBeacon x b.held skip).claimBeacon t x b

/-! ## CLAIM (R86 to R90) -/

/-- An OBJECT to a claimant with the station's waiting-for and urgency at this moment (R88). -/
def State.object (s : State) (t x number seg : Nat) (why : Reason) : State :=
  s.send t x (.object number seg why s.claim.record.waitingFor s.reportedUrgency)

def Mark.heldReason : Mark → Reason
  | .reserved => .heldReserved
  | .occupied => .heldOccupied

/-- The own key frozen in the record, with the own station number (R64). -/
def State.ownKey (s : State) : ClaimKey := ⟨s.claim.record.urgency, s.claim.record.waited, s.control.number⟩

/-- The precedence comparison of step 3 (R80, R89). -/
def State.crossing (s : State) (t x number urgency waited : Nat) (segs : List Nat) : State :=
  match segs.find? (fun n => s.claim.record.segs.contains n), s.claim.record.segs.find? (fun n => segs.contains n) with
  | some theirs, some ours =>
      if s.ownKey.precedes ⟨urgency, waited, x⟩ then s.object t x number theirs .precedence
      else (s.endClaim t).enterContested ours ⟨x, some number⟩
  | _, _ => s

/-- The answer to a CLAIM, by the first step that applies (R86). -/
def State.answerClaim (s : State) (t x edition number urgency waited : Nat) (segs : List Nat) : State :=
  if edition ≠ s.pos.edition then
    (s.object t x number (segs.headD 0) .edition).editionMismatch t x edition
  else
    match segs.find? (fun n => (heldSegs s.claim.held).contains n) with
    | some n => s.object t x number n (((markOf s.claim.held n).getD .reserved).heldReason)
    | none => if s.claim.record.state.isPending then s.crossing t x number urgency waited segs else s

/-- A CLAIM from the recorded rival supplies its number while it is absent (R83, R90). -/
def State.supplyRival (s : State) (x number : Nat) : State :=
  if s.claim.record.state = .contested ∧ s.claim.record.rival = some ⟨x, none⟩ then
    s.setRecord { s.claim.record with rival := some ⟨x, some number⟩ }
  else s

def State.takeClaim (s : State) (t x edition number urgency waited : Nat) (segs : List Nat) : State :=
  (s.supplyRival x number).answerClaim t x edition number urgency waited segs

/-! ## ENQUIRE (R93) -/

def State.takeEnquire (s : State) (t : Nat) (segs : List Nat) : State :=
  if segs.any (fun n => (heldSegs s.claim.held).contains n) then s.offerBeacon t else s

/-! ## OBJECT (R75 to R79) -/

/-- The mark a HELD reason names; none for the other reasons (R121). -/
def Reason.heldMark : Reason → Option Mark
  | .heldReserved => some .reserved
  | .heldOccupied => some .occupied
  | .precedence | .edition => none

/-- Whether an objection matches the pending claim (section 4.6). -/
def ClaimRecord.matched (r : ClaimRecord) (number seg : Nat) : Bool :=
  (r.state == .windowR1 || r.state == .queuedR2 || r.state == .windowR2) && r.number == number && r.segs.contains seg

/-- A matching HELD objection (R75). -/
def State.objectHeld (s : State) (t x seg : Nat) (m : Mark) : State :=
  let s1 := (s.endClaim t).writeHolding seg x m .object []
  if s.claim.record.segs.head? = some seg then s1.enterBlocked seg x else s1

/-- A matching EDITION objection: the edition retry timer runs for the staleness limit (R77). -/
def State.objectEdition (s : State) (t x edition : Nat) : State :=
  let s1 := (s.endClaim t).editionMismatch t x edition
  s1.setClaim { s1.claim with retryTimer := some s.params.staleness }

/-- A late HELD objection to a RESERVED segment takes it and every later one off the held list (R78). -/
def State.lateReserved (s : State) (t x seg : Nat) (m : Mark) : State :=
  let gone := seg :: afterSeg (heldSegs s.claim.held) seg
  let s1 := ((s.giveBack t gone).writeHolding seg x m .object []).endClaim t
  (s1.chooseExpected).newAuthority t

/-- A late HELD objection to a segment not held: the cache is told, and a CONTESTED wait on it goes to BLOCKED (R79,
R83). A BLOCKED wait on it ends where the cache's entry named the wait's holder and now names another: R73 and R79 leave
the wait as it is, R82 and R118 end it on that replacement, and the model follows R82 and R118 (log 41). -/
def State.lateOther (s : State) (x seg : Nat) (m : Mark) : State :=
  let s1 := s.writeHolding seg x m .object []
  if s1.claim.record.state = .contested ∧ s1.claim.record.waitSeg = some seg then s1.enterBlocked seg x else s1

/-- A late objection (R78, R79). -/
def State.lateObjection (s : State) (t x edition seg : Nat) (why : Reason) : State :=
  match why.heldMark with
  | some m =>
      match markOf s.claim.held seg with
      | some .reserved => s.lateReserved t x seg m
      | some .occupied => s.holdConflict t x seg none
      | none => s.lateOther x seg m
  | none => if why = .edition then s.editionMismatch t x edition else s

/-- An OBJECT is filed (R103), then matched to the pending claim or taken as late. -/
def State.takeObject (s : State) (t x edition number seg : Nat) (why : Reason) (r : PeerReport) : State :=
  let s1 := s.fileReport x r
  if s1.claim.record.matched number seg then
    match why with
    | .heldReserved => s1.objectHeld t x seg .reserved
    | .heldOccupied => s1.objectHeld t x seg .occupied
    | .precedence => (s1.endClaim t).enterContested seg ⟨x, none⟩
    | .edition => s1.objectEdition t x edition
  else s1.lateObjection t x edition seg why

/-! ## RELEASE, WITHDRAW and RELAY (R82, R83, R100, R101, R120) -/

def State.claimRelease (s : State) (x : Nat) (segs : List Nat) : State :=
  match s.claim.record.state, s.claim.record.waitSeg with
  | .blocked, some seg => if s.claim.record.holder = some x ∧ segs.contains seg = true then s.toIdle else s
  | _, _ => s

def State.takeRelease (s : State) (x : Nat) (segs : List Nat) : State := (s.cacheRelease x segs).claimRelease x segs

/-- The cache takes a WITHDRAW and changes no entry (R120); at the Claim Engine it may end a CONTESTED wait. -/
def State.takeWithdraw (s : State) (x number : Nat) : State :=
  match s.claim.record.state, s.claim.record.rival with
  | .contested, some r => if r.station = x ∧ (r.number = none ∨ r.number = some number) then s.toIdle else s
  | _, _ => s

def State.takeRelay (s : State) (t x dest : Nat) (payload : List Byte) : State :=
  s.raise { Notice.plain .relayReceived t with station := some x, detail := some dest, payload := some payload }

/-! ## Taking the head of the receive buffer (R43) -/

/-- Every block that receives the frame's kind acts on it. -/
def State.process (s : State) (r : Received) : State :=
  let t := r.arrival
  let f := r.frame
  match f.body with
  | .beacon b => s.takeBeacon t f.source f.edition b
  | .claim number _ urgency waited segs => s.takeClaim t f.source f.edition number urgency waited segs
  | .object number seg why w u => s.takeObject t f.source f.edition number seg why ⟨w, u⟩
  | .withdraw number => s.takeWithdraw f.source number
  | .release segs => s.takeRelease f.source segs
  | .enquire segs => s.takeEnquire t segs
  | .relay payload => s.takeRelay t f.source f.dest payload

/-- One frame fewer stands before the command that waits (R178). -/
def HostPort.frameTaken (p : HostPort) : HostPort :=
  match p.slot with
  | .pending c => { p with slot := .pending { c with framesAhead := c.framesAhead - 1 } }
  | .empty | .full _ => p

/-- The buffer without its head, and the waiting command's count. -/
def State.popFrame (s : State) : State :=
  (s.setLine { s.line with rx := s.line.rx.drop 1 }).setPort s.port.frameTaken

/-- The oldest buffered frame is taken whole. -/
def State.takeHead (s : State) : State :=
  match s.line.rx.head? with
  | none => s
  | some r => s.popFrame.process r

/-- The head is taken if it is of the given kind; otherwise there is no such frame to take (log 3). -/
def State.takeKind (s : State) (kind : Nat) : State :=
  match s.line.rx.head? with
  | some r => if r.frame.body.kind = kind then s.takeHead else s
  | none => s

/-- The first `n` buffered frames are taken (R178). -/
def State.takeFrames : Nat → State → State
  | 0, s => s
  | n + 1, s => State.takeFrames n s.takeHead

end Sys2Proof.Machine
end

