-- ==== Sys2Proof/Machine/Flags.lean ====
section
/-! DEFINITION. Status computed from the state: drive command, SPD and BRK (R131, R132), ATTN (R190), the port status
byte (R175), the halting cause set as bytes (R58), timer readings (R34, R166). -/

namespace Sys2Proof.Machine

/-! ## Drive (R131) -/

inductive DriveCommand where
  | run | serviceStop | emergency
  deriving DecidableEq, Repr

/-- The codes follow the row of the drive command in the table of the state owned, where RUN stands first (log 18). -/
def DriveCommand.code : DriveCommand → Nat
  | .run => 0
  | .serviceStop => 1
  | .emergency => 2

/-- The drive command by station state and service stop requests. -/
def State.driveCommand (s : State) : DriveCommand :=
  match s.control.state with
  | .setup | .joining | .halted => .emergency
  | .running => if s.motion.requests.isEmpty then .run else .serviceStop

/-- The brake output BRK: released, hold, or the emergency rate in mm/s². -/
inductive Brake where
  | released | hold
  | emergency (rate : Nat)
  deriving DecidableEq, Repr

/-- The traction speed output SPD. -/
def State.spd (s : State) : Nat :=
  match s.driveCommand with
  | .run | .serviceStop => s.motion.commanded
  | .emergency => 0

def State.brk (s : State) : Brake :=
  match s.driveCommand with
  | .run | .serviceStop => if s.motion.commanded = 0 then .hold else .released
  | .emergency => .emergency s.motion.brakeRate

/-! ## The attention line (R190) -/

/-- ATTN: a queued notice reaches the threshold class, or the count reaches the trigger. -/
def NoticeUnit.attn (u : NoticeUnit) : Bool :=
  u.queue.any (fun n => decide (u.threshold ≤ n.kind.class)) || decide (u.trigger ≤ u.queue.length)

/-! ## Halting causes (R58, section 2.4) -/

inductive CauseClass where
  | position | condition | resume
  deriving DecidableEq, Repr

def CauseClass.code : CauseClass → Nat
  | .position => 0
  | .condition => 1
  | .resume => 2

def Cause.class : Cause → CauseClass
  | .positionConflict | .positionLost | .duplicateStation => .position
  | .holdConflict | .obstacle => .condition
  | .overrun | .driveStall | .stop => .resume

/-- The bit of a cause in the set's byte: its row in the table of section 2.4, from 0. -/
def Cause.bit : Cause → Nat
  | .positionConflict => 0 | .positionLost => 1 | .duplicateStation => 2 | .holdConflict => 3
  | .obstacle => 4 | .overrun => 5 | .driveStall => 6 | .stop => 7

/-- One byte for the set, then one byte for the class of each cause present, in bit order. -/
def causeBytes (l : List Cause) : List Byte :=
  byte ((l.map (fun c => 2 ^ c.bit)).sum) ++ l.flatMap (fun c => byte c.class.code)

/-! ## The reply slot (R175) -/

/-- The port status byte: EMPTY 0, PENDING 1, FULL 2. -/
def Slot.statusByte : Slot → Byte
  | .empty => 0
  | .pending _ => 1
  | .full _ => 2

def Status.code : Status → Nat
  | .done => 0
  | .accepted => 1
  | .clamped => 2
  | .refusedState => 3
  | .refusedArgument => 4
  | .refusedFull => 5
  | .busy => 6

/-- The reply envelope (R57). -/
def Reply.envelope (r : Reply) : List Byte :=
  byte r.kind ++ (byte r.status.code ++ (bytes2 r.results.length ++ r.results))

/-- The envelope of a reply of kind NONE. -/
def noReply : List Byte := [0, 0, 0, 0]

/-- The time left on a timer: 0 when it is stopped (R34, R166). -/
def timeLeft (timer : Option Nat) : Nat := timer.getD 0

end Sys2Proof.Machine
end

