-- ==== Sys2Proof/Machine/Operands.lean ====
section
/-! DEFINITION. Operands: the argument layouts of the host commands (section 11.3, R57, R179 check 2), and the bytes of
a transaction (R175). Each reader answers none where the argument length is not the one its layout gives. -/

namespace Sys2Proof.Machine

/-! ## Argument layouts

Arguments to which R57 gives no size take the sizes of log 20. One byte each: a parameter number, a window index, a front
flag, an urgency, a relay destination, a cache set and way, the threshold and trigger of SET_ATTENTION. Two bytes: an
edition. -/

def readNone : List Byte → Option Unit
  | [] => some ()
  | _ => none

/-- One number of one byte: a segment, a station, a cache set (log 20). -/
def read1 : List Byte → Option Nat
  | [x] => some x.toNat
  | _ => none

/-- Two numbers of one byte each: a cache set and way, a threshold and trigger (log 20). -/
def read11 : List Byte → Option (Nat × Nat)
  | [x, y] => some (x.toNat, y.toNat)
  | _ => none

/-- SET_EDITION: the edition, two bytes (log 20); CANCEL_ORDER: the order tag (R57). -/
def read2 : List Byte → Option Nat
  | [x, y] => some (nat2 x y)
  | _ => none

/-- A count and that many bytes. -/
def readList : List Byte → Option (List Nat)
  | n :: rest => if rest.length = n.toNat then some (rest.map BitVec.toNat) else none
  | [] => none

/-- SET_STATION: station number; two group selectors. -/
structure StationArgs where
  number : Nat
  group1 : Selector
  group2 : Selector
  deriving DecidableEq, Repr

/-- A selector is a value byte and a mask byte (R41). -/
def readStation : List Byte → Option StationArgs
  | [n, v1, m1, v2, m2] => some ⟨n.toNat, ⟨v1, m1⟩, ⟨v2, m2⟩⟩
  | _ => none

/-- SET_PARAMETER: parameter number, one byte (log 20), and value. -/
def readParameter : List Byte → Option (Nat × Nat)
  | [p, v0, v1] => some (p.toNat, nat2 v0 v1)
  | _ => none

/-- LOAD_SEGMENT: number, length, kind, speed cap, and two counted lists of links (neighbour, end code). -/
structure SegmentArgs where
  number : Nat
  length : Nat
  kind : Nat
  cap : Nat
  aLinks : List (Nat × Nat)
  bLinks : List (Nat × Nat)
  deriving DecidableEq, Repr

/-- `n` links of two bytes each, and the rest. -/
def readLinks : Nat → List Byte → Option (List (Nat × Nat) × List Byte)
  | 0, rest => some ([], rest)
  | n + 1, s :: e :: rest => (readLinks n rest).map (fun r => ((s.toNat, e.toNat) :: r.1, r.2))
  | _ + 1, _ => none

/-- A counted list of links, and the rest. -/
def readLinkList : List Byte → Option (List (Nat × Nat) × List Byte)
  | n :: rest => readLinks n.toNat rest
  | [] => none

def readSegment : List Byte → Option SegmentArgs
  | n :: l0 :: l1 :: k :: c0 :: c1 :: rest =>
      match readLinkList rest with
      | none => none
      | some (a, rest1) =>
          match readLinkList rest1 with
          | some (b, []) => some ⟨n.toNat, nat2 l0 l1, k.toNat, nat2 c0 c1, a, b⟩
          | _ => none
  | _ => none

/-- LOAD_TAG_WINDOW: window index, one byte (log 20), first code, last code, base segment. -/
def readWindow : List Byte → Option (Nat × TagWindow)
  | [i, f0, f1, l0, l1, b] => some (i.toNat, ⟨nat2 f0 f1, nat2 l0 l1, b.toNat⟩)
  | _ => none

/-- START: centre segment, centre offset, direction. -/
structure StartArgs where
  seg : Nat
  offset : Nat
  dir : Nat
  deriving DecidableEq, Repr

def readStart : List Byte → Option StartArgs
  | [s, o0, o1, d] => some ⟨s.toNat, nat2 o0 o1, d.toNat⟩
  | _ => none

/-- SUBMIT_ORDER: tag, front flag, urgency, load class, speed cap, end action, end offset, path. -/
structure OrderArgs where
  tag : Nat
  front : Bool
  urgency : Nat
  loadClass : Nat
  cap : Nat
  endAction : Nat
  endOffset : Nat
  path : List Nat
  deriving DecidableEq, Repr

/-- A front flag byte of 0 is no, any other is yes; the flag and the urgency take one byte each (log 20). -/
def readOrder : List Byte → Option OrderArgs
  | t0 :: t1 :: f :: u :: c :: v0 :: v1 :: a :: o0 :: o1 :: rest =>
      (readList rest).map (fun path =>
        ⟨nat2 t0 t1, f.toNat != 0, u.toNat, c.toNat, nat2 v0 v1, a.toNat, nat2 o0 o1, path⟩)
  | _ => none

/-- SEND_RELAY: destination, one byte (log 20), payload length, payload. -/
def readRelayArgs : List Byte → Option (Nat × List Byte)
  | d :: n :: rest => if rest.length = n.toNat then some (d.toNat, rest) else none
  | _ => none

/-! ## Enumerated arguments (R58: from 0 in the order the rule lists the values) -/

def readSegKind (n : Nat) : Option SegKind := [SegKind.lane, .siding, .bay, .dock][n]?

def readEnd (n : Nat) : Option End := [End.a, .b][n]?

def readLoadClass (n : Nat) : Option LoadClass := [LoadClass.empty, .light, .heavy][n]?

def readEndAction (n : Nat) : Option EndAction := [EndAction.none, .lift, .lower][n]?

def readDir (n : Nat) : Option Direction := [Direction.forward, .reverse][n]?

def readNoticeKind (n : Nat) : Option NoticeKind := NoticeKind.all.find? (fun k => k.code == n)

/-! ## Transactions (R175) -/

/-- The byte that eight bits give, most significant first. -/
def portByte (l : List Bool) : Byte := BitVec.ofNat 8 (l.foldl (fun n b => 2 * n + b.toNat) 0)

/-- The whole bytes of the bits clocked in on HDI; a partial byte at the end is not one of them. -/
def portBytes : Nat → List Bool → List Byte
  | 0, _ => []
  | fuel + 1, l => if l.length < 8 then [] else portByte (l.take 8) :: portBytes fuel (l.drop 8)

def wholeBytes (hdi : List Bool) : List Byte := portBytes (hdi.length / 8) hdi

end Sys2Proof.Machine
end

