-- ==== Sys2Proof/Machine/Port.lean ====
section
/-! DEFINITION. The host port: transactions (R175 to R177), and the execution of a taken command (R178, R179). -/

namespace Sys2Proof.Machine

/-! ## Transactions (R175 to R177) -/

/-- The reply a read sends: the one the slot held at assertion. A reply placed during the transaction is not sent. -/
def replyShown (slot : Slot) (beganPending : Bool) : Option Reply :=
  match slot with
  | .full r => if beganPending then none else some r
  | .empty | .pending _ => none

/-- The port status byte: the slot's state at assertion (R175). -/
def statusShown (slot : Slot) (beganPending : Bool) : Byte :=
  match slot with
  | .full _ => if beganPending then 1 else 2
  | .empty => 0
  | .pending _ => 1

/-- The envelope a read sends (R176). -/
def envelopeShown (slot : Slot) (beganPending : Bool) : List Byte :=
  ((replyShown slot beganPending).map Reply.envelope).getD noReply

/-- A read transaction of `n` whole bytes, its first byte included (R176). Bytes beyond the envelope read 0. -/
def HostPort.read (p : HostPort) (beganPending : Bool) (n : Nat) : HostPort :=
  let env := envelopeShown p.slot beganPending
  { p with
    hdo := statusShown p.slot beganPending :: (env ++ List.replicate n 0).take (n - 1)
    slot := if (replyShown p.slot beganPending).isSome ∧ env.length + 1 ≤ n then .empty else p.slot }

/-- Whether an unread reply stands in the slot. -/
def Slot.unread : Slot → Bool
  | .full _ => true
  | .empty | .pending _ => false

/-- A command is taken: the slot becomes PENDING with it, after the frames that stand in the buffer (R177, R178). -/
def State.takeCommand (s : State) (kind : Nat) (args : List Byte) : State :=
  s.setPort { s.port with slot := .pending ⟨kind, args, s.line.rx.length, s.port.slot.unread⟩ }

/-- Reason codes of refusals (R58). -/
inductive RefusalReason where
  | unknownCommand | length | framing | noStation | mapInconsistent | position | bodySpan | argument
  | duplicateTag | pathBreak | pathTurn | endUnreachable | parameter
  deriving DecidableEq, Repr

def RefusalReason.code : RefusalReason → Nat
  | .unknownCommand => 1 | .length => 2 | .framing => 3 | .noStation => 4 | .mapInconsistent => 5
  | .position => 6 | .bodySpan => 7 | .argument => 8 | .duplicateTag => 9 | .pathBreak => 10
  | .pathTurn => 11 | .endUnreachable => 12 | .parameter => 13

def RefusalReason.bytes (r : RefusalReason) : List Byte := byte r.code

/-- A command transaction judged at release (R177); `first :: rest` are its whole bytes. -/
def State.judgeCommand (s : State) (first : Byte) (rest : List Byte) : State :=
  match s.port.slot with
  | .pending _ => s.setPort { s.port with discarded := inc16 s.port.discarded }
  | .empty | .full _ =>
      match rest with
      | [] =>
          (s.setPort { s.port with framing := inc16 s.port.framing }).placeReply
            ⟨first.toNat, .refusedArgument, RefusalReason.framing.bytes⟩
      | n :: args =>
          if args.length < n.toNat then
            (s.setPort { s.port with framing := inc16 s.port.framing }).placeReply
              ⟨first.toNat, .refusedArgument, RefusalReason.framing.bytes⟩
          else s.takeCommand first.toNat (args.take n.toNat)

/-- A transaction: the first byte decides its kind; one in which no whole byte was clocked has no effect (R175). -/
def State.transaction (s : State) (hdi : List Bool) (beganPending : Bool) : State :=
  match wholeBytes hdi with
  | [] => s
  | first :: rest =>
      if first = 0 then s.setPort (s.port.read beganPending (rest.length + 1))
      else
        (s.setPort
          { s.port with
            hdo := statusShown s.port.slot beganPending :: List.replicate rest.length 0 }).judgeCommand first rest

/-! ## Executing a command (R178, R179) -/

/-- What a command's own rule gives: the state after its immediate effects, the status and the results. -/
structure Answer where
  state : State
  status : Status
  results : List Byte

/-- A refusal changes no state. -/
def State.refuse (s : State) (status : Status) (results : List Byte) : Answer := ⟨s, status, results⟩

/-- The state in which this command is PENDING: it waits already, or no command waits and its transaction is part of
this step; none while another command waits (log 4). -/
def State.hostReady (s : State) (kind : Nat) (args : List Byte) : Option State :=
  match s.port.slot with
  | .pending c => if c.kind = kind ∧ c.args = args then some s else none
  | .empty | .full _ => some (s.takeCommand kind args)

def Slot.framesAhead : Slot → Nat
  | .pending c => c.framesAhead
  | .empty | .full _ => 0

/-- The state in which this command is executed: the command is PENDING, and the frames that stood in the buffer when
it was taken have been taken (R178). -/
def State.executing (s : State) (kind : Nat) (args : List Byte) : Option State :=
  (s.hostReady kind args).map (fun u => State.takeFrames u.port.slot.framesAhead u)

/-- A taken command is executed and its reply is placed (R178). -/
def State.hostCommand (s : State) (kind : Nat) (args : List Byte) (run : State → Answer) : State :=
  match s.executing kind args with
  | none => s
  | some u => (run u).state.placeReply ⟨kind, (run u).status, (run u).results⟩

/-- Checks 2 and 3 of R179, then the command's own rule. -/
def State.checked {α : Type} (s : State) (args : Option α) (taken : StationState → Bool) (run : State → α → Answer) :
    Answer :=
  match args with
  | none => s.refuse .refusedArgument RefusalReason.length.bytes
  | some a => if taken s.control.state then run s a else s.refuse .refusedState []

/-- The station states in which a command is taken (section 11.3). -/
def inSetup (x : StationState) : Bool := x == .setup
def notSetup (x : StationState) : Bool := x != .setup
def inHalted (x : StationState) : Bool := x == .halted
def inOrders (x : StationState) : Bool := x == .running || x == .halted
def inAny (_ : StationState) : Bool := true

end Sys2Proof.Machine
end

