-- ==== Sys2Proof/Machine/HostConfig.lean ====
section
/-! DEFINITION. The configuration commands: SET_STATION (R22), SET_PARAMETER (R184, R185), LOAD_SEGMENT (R1),
LOAD_TAG_WINDOW (R6), SET_EDITION (R3), START (R23, R24), and an unknown command (R179). -/

namespace Sys2Proof.Machine

/-! ## SET_STATION (R22) -/

def State.setStation (s : State) (a : StationArgs) : Answer :=
  if stationOk a.number then
    ⟨s.setControl { s.control with number := a.number, group1 := a.group1, group2 := a.group2 }, .done, []⟩
  else s.refuse .refusedArgument []

def execSetStation (args : List Byte) (s : State) : Host.Outcome State Fault Refusal :=
  .next (s.hostCommand 1 args (fun s => s.checked (readStation args) inSetup State.setStation))

/-! ## SET_PARAMETER (R184, R185) -/

/-- The range of a parameter by its number. -/
def paramRange : Nat → Option (Nat × Nat)
  | 1 => some (2000, 6000)
  | 2 => some (100, 1000)
  | 3 => some (200, 2000)
  | 4 => some (100, 500)
  | 5 => some (100, 600)
  | 6 => some (100, 1500)
  | 7 => some (100, 5000)
  | 8 => some (50, 500)
  | 9 => some (250, 2000)
  | 10 => some (20, 100)
  | 11 => some (1000, 10000)
  | 12 => some (5, 120)
  | 13 => some (2, 20)
  | _ => none

def Params.set (p : Params) (n v : Nat) : Params :=
  match n with
  | 1 => { p with carrierLength := v }
  | 2 => { p with standOff := v }
  | 3 => { p with margin := v }
  | 4 => { p with reaction := v }
  | 5 => { p with acceleration := v }
  | 6 => { p with maxSpeed := v }
  | 7 => { p with pulsePitch := v }
  | 8 => { p with tolerance := v }
  | 9 => { p with beaconPeriod := v }
  | 10 => { p with window := v }
  | 11 => { p with staleness := v }
  | 12 => { p with waitLimit := v }
  | 13 => { p with liftTimeout := v }
  | _ => p

/-- The value applied: clamped, and the staleness limit raised to twice the beacon period (R185). -/
def Params.applied (p : Params) (n lo hi v : Nat) : Nat :=
  if n = 11 then max (clamp lo hi v) (2 * p.beaconPeriod) else clamp lo hi v

def statusOf (changed : Bool) : Status := if changed then .clamped else .done

/-- The reply gives the number in one byte and the value applied in two (log 18). -/
def State.setParameter (s : State) (a : Nat × Nat) : Answer :=
  match paramRange a.1 with
  | none => s.refuse .refusedArgument RefusalReason.parameter.bytes
  | some (lo, hi) =>
      let v := s.params.applied a.1 lo hi a.2
      let p := s.params.set a.1 v
      if a.1 = 9 ∧ p.staleness < 2 * v then
        ⟨s.setParams { p with staleness := 2 * v }, .clamped, byte 9 ++ (bytes2 v ++ (byte 11 ++ bytes2 (2 * v)))⟩
      else ⟨s.setParams p, statusOf (v != a.2), byte a.1 ++ bytes2 v⟩

def execSetParameter (args : List Byte) (s : State) : Host.Outcome State Fault Refusal :=
  .next (s.hostCommand 2 args (fun s => s.checked (readParameter args) inSetup State.setParameter))

/-! ## LOAD_SEGMENT (R1) -/

def linkOk (l : Nat × Nat) : Bool := segOk l.1 && (readEnd l.2).isSome

def readLink (l : Nat × Nat) : Option Link := (readEnd l.2).map (fun e => ⟨l.1, e⟩)

/-- The number of the first failed check, in the order listed (R1). That the checks count from 1, and that the reply gives
the number in one byte, is the model's choice (log 18). -/
def SegmentArgs.failed (a : SegmentArgs) : Option Nat :=
  if !segOk a.number then some 1
  else if (readSegKind a.kind).isNone then some 2
  else if 2 < a.aLinks.length ∨ 2 < a.bLinks.length then some 3
  else if !(a.aLinks.all linkOk && a.bLinks.all linkOk) then some 4
  else if (a.aLinks ++ a.bLinks).any (fun l => l.1 == a.number) then some 5
  else if !(decide (a.aLinks.map Prod.fst).Nodup && decide (a.bLinks.map Prod.fst).Nodup) then some 6
  else none

def SegmentArgs.record (a : SegmentArgs) : Segment :=
  { length := clamp 500 12000 a.length, kind := (readSegKind a.kind).getD .lane, cap := clamp 100 1500 a.cap,
    aLinks := a.aLinks.filterMap readLink, bLinks := a.bLinks.filterMap readLink }

def State.loadSegment (s : State) (a : SegmentArgs) : Answer :=
  match a.failed with
  | some n => s.refuse .refusedArgument (byte n)
  | none =>
      let g := a.record
      let s1 := s.setPos { s.pos with map := Table.insert s.pos.map a.number g }
      if g.length = a.length ∧ g.cap = a.cap then ⟨s1, .done, []⟩
      else ⟨s1, .clamped, bytes2 g.length ++ bytes2 g.cap⟩

def execLoadSegment (args : List Byte) (s : State) : Host.Outcome State Fault Refusal :=
  .next (s.hostCommand 3 args (fun s => s.checked (readSegment args) inSetup State.loadSegment))

/-! ## LOAD_TAG_WINDOW (R6) -/

def State.loadTagWindow (s : State) (a : Nat × TagWindow) : Answer :=
  if h : a.1 < 8 then
    if segOk a.2.base then ⟨s.setPos { s.pos with windows := s.pos.windows.set a.1 a.2 }, .done, []⟩
    else s.refuse .refusedArgument []
  else s.refuse .refusedArgument []

def execLoadTagWindow (args : List Byte) (s : State) : Host.Outcome State Fault Refusal :=
  .next (s.hostCommand 4 args (fun s => s.checked (readWindow args) inSetup State.loadTagWindow))

/-! ## SET_EDITION (R3) -/

/-- The edition is two bytes, as argument (log 20) and in the reply (log 18). -/
def State.setEdition (s : State) (e : Nat) : Answer :=
  ⟨s.setPos { s.pos with edition := max 1 e }, statusOf (e == 0), if e = 0 then bytes2 1 else []⟩

def execSetEdition (args : List Byte) (s : State) : Host.Outcome State Fault Refusal :=
  .next (s.hostCommand 5 args (fun s => s.checked (read2 args) inSetup State.setEdition))

/-! ## START (R23, R24) -/

/-- R24 item 1: the position record; the marks and the pulse count are cleared (R8, R9). -/
def PositionUnit.begin (p : PositionUnit) (c : Centre) : PositionUnit :=
  { p with unmapped := [], centre := some c, expected := none, misses := 0, endLost := false, pulses := 0 }

/-- R24 item 2: the held list is the occupied run; the Claim Engine otherwise as its closing table gives for START. -/
def ClaimEngine.begin (c : ClaimEngine) (run : List Nat) : ClaimEngine :=
  { c with
    held := run.map (fun n => ⟨n, .occupied⟩), record := c.record.toIdle, waited := 0, waitedSeg := none,
    waitedTag := none, removal := none, retryTimer := none, enquiries := [], peerWait := none, reports := [],
    waitLimitYield := false, expired := false }

/-- R24 item 5: receiver and transmitter on, both queues empty. -/
def LaneLine.begin (l : LaneLine) (period : Nat) : LaneLine :=
  { l with receiver := .fresh, transmitter := .idle, abortBits := [], rx := [], tx := [], discards := 0,
           degraded := false, beaconTimer := some period }

/-- The Motion Controller after START, RESTART and power-on reset (its closing table); `rate` is the rate on BRK. -/
def Motion.still (rate : Nat) : Motion :=
  { commanded := 0, measured := 0, requests := [], stopZero := 0, latch := .none, latchZero := 0,
    latchReported := false, stall := 0, overrunMark := false, reversalPending := false, authority := none,
    figures := none, brakeRate := rate }

/-- The effects of an accepted START, in the order of R24. -/
def State.started (s : State) (c : Centre) (run : List Nat) : State :=
  let s1 := (s.setPos (s.pos.begin c)).setMotion (Motion.still (emergencyRate s.orders.effective))
  let s2 := (s1.setClaim (s1.claim.begin run)).cacheJoin run
  let s3 := s2.chooseExpected
  let s4 := s3.setNotice { s3.notice with now := 0 }
  let s5 := (s4.setLine (s4.line.begin s4.params.beaconPeriod)).offerBeacon 0
  let s6 := s5.setControl { s5.control with joinTimer := some s5.params.staleness }
  s6.changeState 0 .joining

def endCode : Option End → Nat
  | some e => e.code
  | none => 255

/-- The checks of R23 from the second on, then START's effects. -/
def State.start (s : State) (a : StartArgs) : Answer :=
  if !stationOk s.control.number then s.refuse .refusedState RefusalReason.noStation.bytes
  else
    match mapFault s.pos.map with
    | some (seg, e, f) =>
        s.refuse .refusedArgument
          (RefusalReason.mapInconsistent.bytes ++ (byte seg ++ (byte (endCode e) ++ byte f.code)))
    | none =>
        match Table.find s.pos.map a.seg, readDir a.dir with
        | some g, some dir =>
            if g.length < a.offset then s.refuse .refusedArgument RefusalReason.position.bytes
            else
              match occupiedRun s.pos.map a.seg a.offset dir s.halfLength with
              | .failed seg => s.refuse .refusedArgument (RefusalReason.bodySpan.bytes ++ byte seg)
              | .entered run => ⟨s.started ⟨a.seg, 1000 * a.offset, dir⟩ run, .done, []⟩
        | _, _ => s.refuse .refusedArgument RefusalReason.position.bytes

def execStart (args : List Byte) (s : State) : Host.Outcome State Fault Refusal :=
  .next (s.hostCommand 6 args (fun s => s.checked (readStart args) inSetup State.start))

/-! ## An unknown command (R179) -/

/-- A taken command whose kind is not listed is executed as a refusal. -/
def execUnknownCommand (kind : Byte) (args : List Byte) (s : State) : Host.Outcome State Fault Refusal :=
  if kind = 0 ∨ hostKinds.contains kind.toNat = true then .next s
  else
    .next (s.hostCommand kind.toNat args (fun s => s.refuse .refusedArgument RefusalReason.unknownCommand.bytes))

end Sys2Proof.Machine
end

