-- ==== Sys2Proof/Machine/HostOrders.lean ====
section
/-! DEFINITION. The order and state commands: SUBMIT_ORDER (R152 to R155), CANCEL_ORDER (R161), STOP (R29), RESUME
(R30), RESTART (R31). -/

namespace Sys2Proof.Machine

/-! ## The path (R153) -/

/-- The ends of a segment that carry a link to `n`. -/
def linkedEnds (map : Table Segment) (seg n : Nat) : List End :=
  [End.a, End.b].filter (fun e => (linkTo map seg e n).isSome)

/-- No way through: the only end linked to the one is the only end linked to the other. -/
def turnsAt (into out : List End) : Bool := !into.isEmpty && !out.isEmpty && into.all (fun e => out.all (fun f => e == f))

/-- The first offence of a path, from a place in it: whether it is a turn, and its index from 0 (log 18). -/
def pathFault (map : Table Segment) : List Nat → Nat → List Nat → Option (Bool × Nat)
  | _, _, [] => none
  | seen, i, n :: rest =>
      if seen.contains n then some (false, i)
      else
        match seen.head? with
        | none => pathFault map (n :: seen) (i + 1) rest
        | some p =>
            if (linkedEnds map p n).isEmpty then some (false, i)
            else if rest.head?.any (fun m => turnsAt (linkedEnds map n p) (linkedEnds map n m)) then some (true, i)
            else pathFault map (n :: seen) (i + 1) rest

/-- The direction the last path segment is crossed in; none for a single-segment path (R154). -/
def lastCrossing (map : Table Segment) (path : List Nat) : Option Direction :=
  match path.reverse with
  | n :: p :: before =>
      let ends := linkedEnds map p n
      let through := match before.head? with
        | none => []
        | some q => ends.filter (fun e => (linkTo map p e.other q).isSome)
      match (through ++ ends).head? with
      | none => none
      | some e => (linkTo map p e n).map (fun l => l.far.enterDir)
  | _ => none

/-! ## SUBMIT_ORDER (R152 to R155) -/

/-- The first failing field of check 3, in the order the check lists them, from 0 (log 18). -/
def State.argumentFault (s : State) (a : OrderArgs) : Option Nat :=
  if a.path.length = 0 ∨ 24 < a.path.length then some 0
  else if !(a.path.all (fun n => segOk n && (Table.find s.pos.map n).isSome)) then some 1
  else if 3 < a.urgency then some 2
  else if (readLoadClass a.loadClass).isNone then some 3
  else if (readEndAction a.endAction).isNone then some 4
  else none

/-- The bounds of the end offset in mm (R154). -/
def State.endBounds (s : State) (path : List Nat) : Int × Int :=
  let len : Int := lengthOf s.pos.map (path.getLast?.getD 0)
  let keep : Int := s.params.standOff + s.halfLength
  match lastCrossing s.pos.map path with
  | some .forward => (0, len - keep)
  | some .reverse => (keep, len)
  | none => (keep, len - keep)

def clampInt (lo hi v : Int) : Int := min hi (max lo v)

/-- The order as it joins the queue, with its end offset and speed cap brought into range. -/
def OrderArgs.order (a : OrderArgs) (bounds : Int × Int) : Order :=
  { tag := a.tag, path := a.path, endAction := (readEndAction a.endAction).getD .none,
    endOffset := (clampInt bounds.1 bounds.2 a.endOffset).toNat, urgency := a.urgency,
    loadClass := (readLoadClass a.loadClass).getD .heavy, cap := clamp 100 1500 a.cap, front := a.front,
    state := .queued, reason := none, activations := 0 }

def State.setList (s : State) (l : List Order) : State := s.setOrders { s.orders with list := l }

/-- A front order at an ACTIVE head with no cancel mark: the head is suspended, a service stop is asked for, the claim
or wait ends (R158, R73). -/
def State.frontSuspend (s : State) (t tag : Nat) : State := ((s.suspend tag .front).askStop .front).abandonClaim t

/-- The placement of a front order by the head of the queue (R155). -/
def State.placeFront (s : State) (t : Nat) (o : Order) : State :=
  match s.orders.list with
  | [] => s.setList [o]
  | head :: rest =>
      match head.state with
      | .queued => s.setList (o :: head :: rest)
      | .suspended => s.setList (o :: { head with reason := some .front } :: rest)
      | .active =>
          let s1 := if s.orders.cancelMark = some head.tag then s.cancelMarked t head
                    else s.frontSuspend t head.tag
          s1.setList (o :: s1.orders.list)
      | .finishing => s.setList (head :: o :: rest)

def State.placeOrder (s : State) (t : Nat) (o : Order) : State :=
  if o.front then s.placeFront t o else s.setList (s.orders.list ++ [o])

/-- The reply carries the number of orders in the queue, in one byte (log 18). -/
def State.submitOrder (s : State) (a : OrderArgs) : Answer :=
  if 8 ≤ s.orders.list.length then s.refuse .refusedFull []
  else
    match s.argumentFault a with
    | some n => s.refuse .refusedArgument (RefusalReason.argument.bytes ++ byte n)
    | none =>
        if s.orders.list.any (fun o => o.tag == a.tag) then s.refuse .refusedArgument RefusalReason.duplicateTag.bytes
        else
          match pathFault s.pos.map [] 0 a.path with
          | some (true, i) => s.refuse .refusedArgument (RefusalReason.pathTurn.bytes ++ byte i)
          | some (false, i) => s.refuse .refusedArgument (RefusalReason.pathBreak.bytes ++ byte i)
          | none =>
              let b := s.endBounds a.path
              if b.2 < b.1 then s.refuse .refusedArgument RefusalReason.endUnreachable.bytes
              else
                let o := a.order b
                let s1 := s.placeOrder s.now o
                let count := byte s1.orders.list.length
                if o.cap = a.cap ∧ o.endOffset = a.endOffset then ⟨s1, .done, count⟩
                else ⟨s1, .clamped, bytes2 o.cap ++ (bytes2 o.endOffset ++ count)⟩

def execSubmitOrder (args : List Byte) (s : State) : Host.Outcome State Fault Refusal :=
  .next (s.hostCommand 16 args (fun s => s.checked (readOrder args) inOrders State.submitOrder))

/-! ## CANCEL_ORDER (R161) -/

def State.cancelActive (s : State) (t tag : Nat) : State :=
  ((s.setOrders { s.orders with cancelMark := some tag }).askStop .cancel).abandonClaim t

def State.cancelOrder (s : State) (tag : Nat) : Answer :=
  match s.orders.list.find? (fun o => o.tag == tag) with
  | none => s.refuse .refusedArgument []
  | some o =>
      match o.state with
      | .queued | .suspended => ⟨s.orderCancelled s.now o, .done, []⟩
      | .active =>
          if s.orders.cancelMark = some tag then ⟨s, .accepted, []⟩ else ⟨s.cancelActive s.now tag, .accepted, []⟩
      | .finishing => s.refuse .busy []

def execCancelOrder (args : List Byte) (s : State) : Host.Outcome State Fault Refusal :=
  .next (s.hostCommand 17 args (fun s => s.checked (read2 args) notSetup State.cancelOrder))

/-! ## STOP (R29) -/

def execStop (args : List Byte) (s : State) : Host.Outcome State Fault Refusal :=
  .next (s.hostCommand 18 args (fun s => s.checked (readNone args) notSetup (fun s _ => ⟨s.halt s.now .stop, .done, []⟩)))

/-! ## RESUME (R30) -/

/-- The causes that remain: DRIVE_STALL and STOP are removed, and OVERRUN when D is now at least 0. -/
def State.remainingCauses (s : State) : List Cause :=
  s.control.causes.filter (fun c =>
    match c with
    | .driveStall | .stop => false
    | .overrun => !(s.authorityDistance.any (fun d => decide (0 ≤ d)))
    | .positionConflict | .positionLost | .duplicateStation | .holdConflict | .obstacle => true)

/-- Entering RUNNING: commanded speed 0, the latch NONE, the stall timer 0 (R131, R144, R147). The latch's zero time goes
to 0 with the latch, where the rules give it no value (log 31). -/
def Motion.enterRunning (m : Motion) : Motion :=
  { m with commanded := 0, latch := .none, latchZero := 0, latchReported := false, stall := 0 }

def State.resumed (s : State) : State :=
  ((s.setControl { s.control with causes := [] }).setMotion s.motion.enterRunning).changeState s.now .running

def State.resume (s : State) : Answer :=
  if s.motion.latch ≠ .complete then s.refuse .busy []
  else if s.remainingCauses = [] then ⟨s.resumed, .done, []⟩
  else s.refuse .refusedState (causeBytes s.remainingCauses)

def execResume (args : List Byte) (s : State) : Host.Outcome State Fault Refusal :=
  .next (s.hostCommand 19 args (fun s => s.checked (readNone args) inHalted (fun s _ => s.resume)))

/-! ## RESTART (R31) -/

def PositionUnit.restart (p : PositionUnit) : PositionUnit :=
  { p with unmapped := [], centre := none, expected := none, misses := 0, endLost := false, pulses := 0 }

/-- Receiver and transmitter off with a frame in flight aborted, queues empty, counters 0, beacon timer stopped. -/
def LaneLine.off (l : LaneLine) : LaneLine :=
  { receiver := .off, transmitter := .off, abortBits := l.stopBits, rx := [], tx := [], discards := 0
    degraded := false, counters := .zero, beaconTimer := none }

/-- Everything cleared but the claim number counter. -/
def ClaimEngine.restart (c : ClaimEngine) : ClaimEngine :=
  { c with
    held := [], record := c.record.toIdle, waited := 0, waitedSeg := none, waitedTag := none, removal := none,
    retryTimer := none, enquiries := [], peerWait := none, reports := [], waitLimitYield := false, expired := false }

/-- The effects of an accepted RESTART, block by block; its STATE_CHANGED is the last notice. -/
def State.restarted (s : State) : State :=
  let s1 := s.setControl { s.control with causes := [], joinTimer := none }
  let s2 := ((s1.setPos s1.pos.restart).setLine s1.line.off).setClaim s1.claim.restart
  let s3 := (s2.setResp ⟨[], false, [], false⟩).setCache ⟨[], 0, 0⟩
  let s4 := (s3.setMotion (Motion.still (emergencyRate .heavy))).setOrders ⟨[], .heavy, none⟩
  (s4.setLift (LiftUnit.fresh s4.pins)).changeState s.now .setup

def State.restart (s : State) : Answer :=
  if s.motion.measured = 0 then ⟨s.restarted, .done, []⟩ else s.refuse .refusedState []

def execRestart (args : List Byte) (s : State) : Host.Outcome State Fault Refusal :=
  .next (s.hostCommand 20 args (fun s => s.checked (readNone args) notSetup (fun s _ => s.restart)))

end Sys2Proof.Machine
end

