-- ==== Sys2Proof/Machine/HostLine.lean ====
section
/-! DEFINITION. SEND_RELAY (R46), LINE_RESET (R54), CLEAR_LIFT (R173) and FORGET_STATION (R102, R128). -/

namespace Sys2Proof.Machine

/-! ## SEND_RELAY (R46) -/

def State.sendRelay (s : State) (a : Nat × List Byte) : Answer :=
  if a.2.length = 0 ∨ 32 < a.2.length then s.refuse .refusedArgument []
  else if 6 ≤ countKind s.line.tx 7 ∨ 24 ≤ s.line.tx.length then s.refuse .refusedFull []
  else ⟨s.send s.now a.1 (.relay a.2), .done, []⟩

def execSendRelay (args : List Byte) (s : State) : Host.Outcome State Fault Refusal :=
  .next (s.hostCommand 21 args (fun s => s.checked (readRelayArgs args) notSetup State.sendRelay))

/-! ## LINE_RESET (R54) -/

/-- Items 1, 3 and 4, and the empty transmit queue of item 2; a frame in flight is aborted, the receiver hunts and the
beacon timer runs on. -/
def LaneLine.lineReset (l : LaneLine) : LaneLine :=
  { l with receiver := .fresh, transmitter := .idle, abortBits := l.stopBits, rx := [], tx := [],
           discards := 0, degraded := false, counters := .zero }

/-- The RELAY frames lost with the queue, in one notice with their number (R54 item 2). -/
def State.relaysLost (s : State) (t n : Nat) : State :=
  if n = 0 then s else s.raise { Notice.plain .relayDiscarded t with detail := some n }

def State.lineReset (s : State) (t : Nat) : State :=
  let s1 := (s.setLine s.line.lineReset).relaysLost t (countKind s.line.tx 7)
  let s2 := s1.setClaim { s1.claim with removal := none }
  (s2.endClaim t).offerBeacon t

def execLineReset (args : List Byte) (s : State) : Host.Outcome State Fault Refusal :=
  .next (s.hostCommand 22 args (fun s => s.checked (readNone args) notSetup (fun s _ => ⟨s.lineReset s.now, .done, []⟩)))

/-! ## CLEAR_LIFT (R173) -/

def LiftState.code : LiftState → Nat
  | .down => 0
  | .raising => 1
  | .up => 2
  | .lowering => 3
  | .jammed => 4

/-- The lift state is taken from the sensors, with what reaching that end does. -/
def State.clearJam (s : State) (t : Nat) : State :=
  let s1 := s.setLift { s.lift with state := s.pins.reading.liftState }
  match s.pins.reading with
  | .upShown => s1.loadCheck t none
  | .downShown => s1.liftDownReset
  | .neither => s1

def State.clearLift (s : State) : Answer :=
  if s.lift.state = .jammed then ⟨s.clearJam s.now, .done, byte s.pins.reading.liftState.code⟩
  else s.refuse .refusedState []

def execClearLift (args : List Byte) (s : State) : Host.Outcome State Fault Refusal :=
  .next (s.hostCommand 23 args (fun s => s.checked (readNone args) notSetup (fun s _ => s.clearLift)))

/-! ## FORGET_STATION (R102, R128) -/

/-- Item 1: every entry naming `n` is freed and reported. -/
def State.forgetHoldings (s : State) (ways : List Nat) : State := ways.foldl (fun s k => s.freeWay none k) s

/-- Item 2: the pairs and the edition mark of `n` (R102). -/
def LaneResponder.forget (u : LaneResponder) (n : Nat) : LaneResponder :=
  { u with conflicts := u.conflicts.filter (fun p => p.station != n)
           editionMarks := u.editionMarks.filter (fun m => m != n) }

/-- Whether the record waits on `n`: its holder, its rival or the partner of its holdoff (items 3 and 4). -/
def ClaimRecord.waitsOn (r : ClaimRecord) (n : Nat) : Bool :=
  match r.state with
  | .blocked => r.holder == some n
  | .contested => (r.rival.map Rival.station) == some n
  | .holdoff => (r.holdoff.map Holdoff.partner) == some n
  | .idle | .queuedR1 | .windowR1 | .queuedR2 | .windowR2 => false

def State.forgetWait (s : State) (n : Nat) : State :=
  let s1 := s.setClaim { s.claim with reports := Table.erase s.claim.reports n }
  if s.claim.record.waitsOn n then s1.toIdle else s1

def State.forget (s : State) (n : Nat) : State :=
  let s1 := s.forgetHoldings (waysOf s.cache.ways n (fun _ => true))
  ((s1.setResp (s1.resp.forget n)).settleConflicts).forgetWait n

/-- The reply carries the number of cache entries freed, in one byte (log 18). -/
def State.forgetStation (s : State) (n : Nat) : Answer :=
  if stationOk n then ⟨s.forget n, .done, byte (waysOf s.cache.ways n (fun _ => true)).length⟩
  else s.refuse .refusedArgument []

def execForgetStation (args : List Byte) (s : State) : Host.Outcome State Fault Refusal :=
  .next (s.hostCommand 24 args (fun s => s.checked (read1 args) notSetup State.forgetStation))

end Sys2Proof.Machine
end

