-- ==== Sys2Proof/Machine/HostCache.lean ====
section
/-! DEFINITION. The result encoders (R57, R58, R181) and the cache commands: READ_CACHE_ENTRY (R126) and the three
invalidations (R127). -/

namespace Sys2Proof.Machine

/-! ## Results (R57, R58; log 18) -/

/-- An item that can be absent, after its presence mark. -/
def optBytes {α : Type} (enc : α → List Byte) : Option α → List Byte
  | none => byte 0
  | some x => byte 1 ++ enc x

/-- A list, after its count. -/
def listBytes {α : Type} (enc : α → List Byte) (l : List α) : List Byte := byte l.length ++ l.flatMap enc

/-- A yes or no: 1 for yes, 0 for no (log 18). -/
def flagByte (b : Bool) : List Byte := byte b.toNat

/-- A distance or speed in two bytes; a value that does not fit them has no stated coding (log 19). -/
def wideBytes (n : Int) : List Byte :=
  if 0 ≤ n ∧ n ≤ 65535 then bytes2 n.toNat else bytes2 (Config.wideField n).toNat

/-! ## READ_CACHE_ENTRY (R126) -/

def CacheStatus.code : CacheStatus → Nat
  | .held => 0
  | .stale => 1
  | .none => 2

/-- BEACON and OBJECT and RELEASE by their frame kinds (R56). -/
def Source.code : Source → Nat
  | .beacon => 1
  | .object => 3
  | .release => 5

/-- The fields of R115 in the order of R126; the age takes two bytes (log 18). -/
def CacheEntry.bytes (e : CacheEntry) : List Byte :=
  byte 1 ++ byte e.seg ++ byte e.holder ++ optBytes (fun m => byte m.code) e.mark
    ++ optBytes (fun x => byte x.code) (some e.status) ++ bytes2 e.age ++ listBytes bytes2 e.pins
    ++ optBytes (fun x => byte x.code) e.source

/-- An invalid way: valid no, the other fields 0, the lists empty, the enumerated fields absent. -/
def invalidBytes : List Byte :=
  byte 0 ++ byte 0 ++ byte 0 ++ byte 0 ++ byte 0 ++ bytes2 0 ++ byte 0 ++ byte 0

def wayOk (a : Nat × Nat) : Bool := decide (a.1 < 16) && decide (a.2 < 4)

def State.readCacheEntry (s : State) (a : Nat × Nat) : Answer :=
  if wayOk a then
    ⟨s, .done, ((Table.find s.cache.ways (4 * a.1 + a.2)).map CacheEntry.bytes).getD invalidBytes⟩
  else s.refuse .refusedArgument []

def execReadCacheEntry (args : List Byte) (s : State) : Host.Outcome State Fault Refusal :=
  .next (s.hostCommand 35 args (fun s => s.checked (read11 args) inAny State.readCacheEntry))

/-! ## Invalidation (R127) -/

/-- Each operation replies DONE with the number of entries made invalid, in one byte (log 18). -/
def State.invalidated (s t : State) : Answer := ⟨t, .done, byte (s.cache.ways.length - t.cache.ways.length)⟩

def State.invalidateEntry (s : State) (a : Nat × Nat) : Answer :=
  if wayOk a then s.invalidated (s.invalidateWay (4 * a.1 + a.2)) else s.refuse .refusedArgument []

def execInvalidateCacheEntry (args : List Byte) (s : State) : Host.Outcome State Fault Refusal :=
  .next (s.hostCommand 36 args (fun s => s.checked (read11 args) inAny State.invalidateEntry))

/-- The entry of a segment, if there is one. -/
def State.invalidateFound (s : State) (seg : Nat) : State :=
  match findEntry s.cache.ways seg with
  | none => s
  | some e => s.invalidateWay e.1

def State.invalidateSegment (s : State) (seg : Nat) : Answer :=
  if segOk seg then s.invalidated (s.invalidateFound seg) else s.refuse .refusedArgument []

def execInvalidateCacheSegment (args : List Byte) (s : State) : Host.Outcome State Fault Refusal :=
  .next (s.hostCommand 37 args (fun s => s.checked (read1 args) inAny State.invalidateSegment))

/-- Every valid way of a set, in the order of the ways. -/
def State.invalidateWays (s : State) (set : Nat) : State :=
  [0, 1, 2, 3].foldl (fun s w => s.invalidateWay (4 * set + w)) s

def State.invalidateSet (s : State) (set : Nat) : Answer :=
  if set < 16 then s.invalidated (s.invalidateWays set) else s.refuse .refusedArgument []

def execInvalidateCacheSet (args : List Byte) (s : State) : Host.Outcome State Fault Refusal :=
  .next (s.hostCommand 38 args (fun s => s.checked (read1 args) inAny State.invalidateSet))

end Sys2Proof.Machine
end

