-- ==== Sys2Proof/Machine/HostNotices.lean ====
section
/-! DEFINITION. The notice and Fault Record commands: READ_NOTICES (R187, R188), ENABLE_NOTICES and DISABLE_NOTICES
(R189), SET_ATTENTION (R190), READ_FAULT_RECORD and CLEAR_FAULT_RECORD (R192). -/

namespace Sys2Proof.Machine

/-! ## READ_NOTICES (R188) -/

/-- Kind, class, time stamp, a presence mark for each optional field, then the fields that are present. The class takes one
byte, the detail two (log 18). -/
def Notice.bytes (n : Notice) : List Byte :=
  byte n.kind.code ++ byte n.kind.class ++ bytes4 n.time
    ++ flagByte n.tag.isSome ++ flagByte n.seg.isSome ++ flagByte n.station.isSome ++ flagByte n.detail.isSome
    ++ flagByte n.payload.isSome
    ++ (n.tag.map bytes2).getD [] ++ (n.seg.map byte).getD [] ++ (n.station.map byte).getD []
    ++ (n.detail.map bytes2).getD [] ++ (n.payload.map (listBytes (fun b => [b]))).getD []

/-- NOTICES_LOST names the lost count (R187). -/
def noticesLost (now lost : Nat) : Notice := { Notice.plain .noticesLost now with detail := some lost }

/-- Up to 8 notices leave at the head; a loss is then reported at the tail and the lost count cleared (R187). -/
def NoticeUnit.drain (u : NoticeUnit) : NoticeUnit :=
  if u.lost = 0 ∨ u.queue = [] then { u with queue := u.queue.drop 8 }
  else { u with queue := u.queue.drop 8 ++ [noticesLost u.now u.lost], lost := 0 }

def State.readNotices (s : State) : Answer :=
  ⟨s.setNotice s.notice.drain, .done, listBytes Notice.bytes (s.notice.queue.take 8)⟩

def execReadNotices (args : List Byte) (s : State) : Host.Outcome State Fault Refusal :=
  .next (s.hostCommand 39 args (fun s => s.checked (readNone args) inAny (fun s _ => s.readNotices)))

/-! ## ENABLE_NOTICES and DISABLE_NOTICES (R189) -/

/-- What refuses a list of codes: a count outside 1..25 (no code to name, log 24), or its first offending code. -/
def kindsFault (banned : Nat → Bool) (codes : List Nat) : Option (List Byte) :=
  if codes.length = 0 ∨ 25 < codes.length then some []
  else (codes.find? (fun c => (readNoticeKind c).isNone || banned c)).map byte

def kindsOf (codes : List Nat) : List NoticeKind := codes.filterMap readNoticeKind

def NoticeUnit.enable (u : NoticeUnit) (kinds : List NoticeKind) : NoticeUnit :=
  { u with disabled := u.disabled.filter (fun k => !kinds.contains k) }

/-- The disabled kinds are kept in the order of their codes. -/
def NoticeUnit.disable (u : NoticeUnit) (kinds : List NoticeKind) : NoticeUnit :=
  { u with disabled := NoticeKind.all.filter (fun k => u.disabled.contains k || kinds.contains k) }

def State.enableNotices (s : State) (codes : List Nat) : Answer :=
  match kindsFault (fun _ => false) codes with
  | some b => s.refuse .refusedArgument b
  | none => ⟨s.setNotice (s.notice.enable (kindsOf codes)), .done, []⟩

def execEnableNotices (args : List Byte) (s : State) : Host.Outcome State Fault Refusal :=
  .next (s.hostCommand 40 args (fun s => s.checked (readList args) inAny State.enableNotices))

/-- NOTICES_LOST, code 20, cannot be disabled. -/
def State.disableNotices (s : State) (codes : List Nat) : Answer :=
  match kindsFault (fun c => c == 20) codes with
  | some b => s.refuse .refusedArgument b
  | none => ⟨s.setNotice (s.notice.disable (kindsOf codes)), .done, []⟩

def execDisableNotices (args : List Byte) (s : State) : Host.Outcome State Fault Refusal :=
  .next (s.hostCommand 41 args (fun s => s.checked (readList args) inAny State.disableNotices))

/-! ## SET_ATTENTION (R190)

Threshold and trigger are one byte each, as arguments (log 20) and as results (log 18). -/

def State.setAttention (s : State) (a : Nat × Nat) : Answer :=
  let threshold := clamp 0 4 a.1
  let trigger := clamp 1 32 a.2
  ⟨s.setNotice { s.notice with threshold := threshold, trigger := trigger },
    statusOf (threshold != a.1 || trigger != a.2), byte threshold ++ byte trigger⟩

def execSetAttention (args : List Byte) (s : State) : Host.Outcome State Fault Refusal :=
  .next (s.hostCommand 42 args (fun s => s.checked (read11 args) inAny State.setAttention))

/-! ## The Fault Record (R192) -/

/-- The fields of R191 in the order of its table. -/
def FaultRecord.bytes (r : FaultRecord) : List Byte :=
  byte r.kind.code ++ bytes4 r.time ++ byte r.centreSeg ++ bytes2 r.centreOffset ++ bytes2 r.commanded
    ++ optBytes byte r.station ++ optBytes byte r.seg ++ optBytes bytes2 r.detail ++ flagByte r.overflow
    ++ bytes2 r.further

def State.readFaultRecord (s : State) : Answer := ⟨s, .done, optBytes FaultRecord.bytes s.notice.fault⟩

def execReadFaultRecord (args : List Byte) (s : State) : Host.Outcome State Fault Refusal :=
  .next (s.hostCommand 43 args (fun s => s.checked (readNone args) inAny (fun s _ => s.readFaultRecord)))

/-- The record is emptied; the reply carries the kind and the further-fault count it held. -/
def State.clearFaultRecord (s : State) : Answer :=
  ⟨s.setNotice { s.notice with fault := none }, .done,
    optBytes (fun r => byte r.kind.code ++ bytes2 r.further) s.notice.fault⟩

def execClearFaultRecord (args : List Byte) (s : State) : Host.Outcome State Fault Refusal :=
  .next (s.hostCommand 44 args (fun s => s.checked (readNone args) inAny (fun s _ => s.clearFaultRecord)))

end Sys2Proof.Machine
end

