-- ==== Sys2Proof/Machine/HostQueries.lean ====
section
/-! DEFINITION. The queries: QUERY_STATUS (R181), QUERY_ORDERS (R182), QUERY_COUNTERS (R183), each a view of the state
laid out by R57 and R58 (log 18, 19). -/

namespace Sys2Proof.Machine

/-! ## Codes of what only the queries return (R58) -/

def SegKind.code : SegKind → Nat
  | .lane => 0
  | .siding => 1
  | .bay => 2
  | .dock => 3

def ClaimState.code : ClaimState → Nat
  | .idle => 0 | .queuedR1 => 1 | .windowR1 => 2 | .queuedR2 => 3 | .windowR2 => 4
  | .blocked => 5 | .contested => 6 | .holdoff => 7

def HoldoffPhase.code : HoldoffPhase → Nat
  | .stopping => 0
  | .waiting => 1

def TargetTerm.code : TargetTerm → Nat
  | .maxSpeed => 0 | .orderCap => 1 | .bodyCap => 2 | .vAuth => 3 | .vSlower => 4 | .vEnd => 5
  | .serviceStop => 6 | .noOrder => 7 | .reversal => 8 | .lift => 9

/-- The codes follow the row of the latch in the table of the state owned, where NONE stands first (log 18). -/
def Latch.code : Latch → Nat
  | .none => 0
  | .braking => 1
  | .complete => 2

def SuspendReason.code : SuspendReason → Nat
  | .front => 0
  | .yield => 1
  | .halt => 2

/-! ## QUERY_STATUS (R181), group by group -/

/-- R34: station state, halting causes with their classes, join timer time left. -/
def Control.statusBytes (c : Control) : List Byte :=
  byte c.state.code ++ causeBytes c.causes ++ bytes2 (timeLeft c.joinTimer)

/-- Every parameter as applied, in the order of its number (R184). -/
def Params.bytes (p : Params) : List Byte :=
  [p.carrierLength, p.standOff, p.margin, p.reaction, p.acceleration, p.maxSpeed, p.pulsePitch, p.tolerance,
    p.beaconPeriod, p.window, p.staleness, p.waitLimit, p.liftTimeout].flatMap bytes2

/-- Station number, selectors (R41), edition, parameters. The map edition takes two bytes (log 18). -/
def State.configurationBytes (s : State) : List Byte :=
  byte s.control.number ++ [s.control.group1.value, s.control.group1.mask, s.control.group2.value,
    s.control.group2.mask] ++ bytes2 s.pos.edition ++ s.params.bytes

/-- The position record as reported: segment, offset in mm, direction, measured speed. The expected marker and the miss
count, which section 1.3 makes fields of the record too, are given once, at the end of the reply, where R181 lists them
again (log 18). -/
def State.recordBytes (s : State) (c : Centre) : List Byte :=
  byte c.seg ++ bytes2 (c.offset / 1000) ++ byte c.dir.code ++ bytes2 s.motion.measured

/-- The kind of the centre segment. -/
def State.centreKind (s : State) : Option SegKind :=
  s.pos.centre.bind (fun c => (Table.find s.pos.map c.seg).map Segment.kind)

/-- The miss count and the plate number of the expected marker take one byte each (log 18). -/
def State.positionBytes (s : State) : List Byte :=
  optBytes s.recordBytes s.pos.centre ++ optBytes (fun k => byte k.code) s.centreKind
    ++ optBytes byte (frontSeg s.layout s.half) ++ optBytes byte (rearSeg s.layout s.half)
    ++ listBytes byte (underBody s.layout s.half)
    ++ optBytes (fun m => byte m.seg ++ byte m.plate) s.pos.expected ++ byte s.pos.misses

def HeldEntry.bytes (e : HeldEntry) : List Byte := byte e.seg ++ byte e.mark.code

def State.holdingsBytes (s : State) : List Byte :=
  listBytes HeldEntry.bytes s.claim.held ++ optBytes wideBytes s.motion.authority

/-- The rival's claim number takes one byte (log 18). -/
def Rival.bytes (r : Rival) : List Byte := byte r.station ++ optBytes byte r.number

/-- The holder in BLOCKED or the rival in CONTESTED, one item (R63). -/
def ClaimRecord.waitedBytes (r : ClaimRecord) : Option (List Byte) :=
  match r.holder with
  | some x => some (byte x)
  | none => r.rival.map Rival.bytes

/-- The time left on the running timer, 0 where neither runs (log 18). -/
def ClaimRecord.runningTime (r : ClaimRecord) : Nat :=
  match r.windowTimer with
  | some n => n
  | none => timeLeft r.contestTimer

/-- What QUERY_STATUS returns of the record, in the order of R63. The claim number and the round take one byte each (log
18). -/
def ClaimRecord.bytes (r : ClaimRecord) : List Byte :=
  byte r.state.code ++ byte r.number ++ listBytes byte r.segs ++ byte r.round ++ bytes4 r.attemptTime
    ++ optBytes byte r.waitSeg ++ optBytes id r.waitedBytes ++ bytes2 r.runningTime

def ClaimEngine.claimBytes (c : ClaimEngine) : List Byte :=
  c.record.bytes ++ bytes2 c.waited ++ optBytes byte c.waitedSeg ++ bytes2 (timeLeft c.retryTimer)

/-- The reported urgency takes one byte (log 18). -/
def PeerReport.bytes (r : PeerReport) : List Byte := byte r.waitingFor ++ byte r.urgency

def Holdoff.bytes (h : Holdoff) : List Byte :=
  byte h.phase.code ++ byte h.partner ++ byte h.partnerSeg ++ bytes2 (timeLeft h.timer)

/-- The report of the station a BLOCKED wait or a holdoff names: the peer wait information, or in HOLDOFF the entry of
the partner in the peer report table (R103, R114; log 18). -/
def ClaimEngine.reportShown (c : ClaimEngine) : Option PeerReport :=
  match c.record.holdoff with
  | some h => Table.find c.reports h.partner
  | none => c.peerWait

/-- R114. -/
def ClaimEngine.waitBytes (c : ClaimEngine) : List Byte :=
  byte c.record.waitingFor ++ optBytes PeerReport.bytes c.reportShown ++ optBytes Holdoff.bytes c.record.holdoff
    ++ flagByte c.waitLimitYield ++ flagByte c.expired

/-- The stations with a mark set are listed in ascending number (log 18). -/
def LaneResponder.bytes (u : LaneResponder) : List Byte :=
  listBytes (fun p => byte p.seg ++ byte p.station) u.conflicts ++ flagByte u.overflow ++ listBytes byte u.editionMarks

/-- D_end, v, r, H, lead, H_cap, then the target and the term that set it. A D_end that no step has computed yet reads 0,
with no presence mark: R181 gives that reading for SETUP alone, and outside it it is the model's choice (log 39). -/
def Figures.bytes (f : Figures) : List Byte :=
  wideBytes (f.dEnd.getD 0) ++ wideBytes f.v ++ wideBytes f.r ++ wideBytes f.h ++ wideBytes f.lead ++ wideBytes f.hCap
    ++ bytes2 f.target ++ byte f.term.code

/-- Every figure reads 0: in SETUP by R181, and from START to the first step, where R181 gives no reading, by the model's
choice (log 39). -/
def noFigures : List Byte := List.replicate 15 0

/-- The motion group; what its figures read outside SETUP while none has been computed is log 39. -/
def State.motionBytes (s : State) : List Byte :=
  byte s.driveCommand.code ++ bytes2 s.motion.commanded ++ bytes2 s.motion.measured
    ++ (s.motion.figures.map Figures.bytes).getD noFigures ++ byte s.motion.latch.code ++ bytes2 s.motion.latchZero

def LiftOperation.bytes (o : LiftOperation) : List Byte := byte o.action.code ++ bytes2 o.tag

def State.liftBytes (s : State) : List Byte :=
  byte (loadCode s.orders.effective) ++ byte s.lift.state.code ++ byte s.pins.reading.code
    ++ optBytes LiftOperation.bytes s.lift.operation ++ optBytes (fun c => byte (loadCode c)) s.lift.measured
    ++ bytes2 (timeLeft s.lift.timer)

/-- The number of notices queued takes one byte (log 18). -/
def NoticeUnit.statusBytes (u : NoticeUnit) : List Byte := byte u.queue.length ++ flagByte u.attn

/-- The groups of R181 in its order. -/
def State.statusBytes (s : State) : List Byte :=
  s.control.statusBytes ++ s.configurationBytes ++ s.positionBytes ++ s.holdingsBytes ++ s.claim.claimBytes
    ++ s.claim.waitBytes ++ s.resp.bytes ++ s.motionBytes ++ s.liftBytes ++ s.notice.statusBytes

def State.queryStatus (s : State) : Answer := ⟨s, .done, s.statusBytes⟩

def execQueryStatus (args : List Byte) (s : State) : Host.Outcome State Fault Refusal :=
  .next (s.hostCommand 32 args (fun s => s.checked (readNone args) inAny (fun s _ => s.queryStatus)))

/-! ## QUERY_ORDERS (R182) -/

/-- The fields of R150 in its order; the urgency and the activations take one byte each (log 18). -/
def Order.bytes (o : Order) : List Byte :=
  bytes2 o.tag ++ listBytes byte o.path ++ byte o.endAction.code ++ bytes2 o.endOffset ++ byte o.urgency
    ++ byte (loadCode o.loadClass) ++ bytes2 o.cap ++ flagByte o.front ++ byte o.state.code
    ++ optBytes (fun r => byte r.code) o.reason ++ byte o.activations

def OrderQueue.bytes (q : OrderQueue) : List Byte :=
  listBytes Order.bytes q.list ++ byte (loadCode q.effective) ++ optBytes bytes2 q.cancelMark

def State.queryOrders (s : State) : Answer := ⟨s, .done, s.orders.bytes⟩

def execQueryOrders (args : List Byte) (s : State) : Host.Outcome State Fault Refusal :=
  .next (s.hostCommand 33 args (fun s => s.checked (readNone args) inAny (fun s _ => s.queryOrders)))

/-! ## QUERY_COUNTERS (R183) -/

/-- The line counters in the order of R55. -/
def LineCounters.bytes (k : LineCounters) : List Byte :=
  [k.crcBad, k.aborted, k.tooLong, k.tooShort, k.malformed, k.noStation, k.rxOverrun, k.framesTaken, k.framesSent,
    k.collisions, k.lineFail, k.txDropped].flatMap bytes2

/-- The queue's entries of each class, A first, and the receive buffer's occupancy, one byte each (log 18). -/
def LaneLine.occupancyBytes (l : LaneLine) : List Byte :=
  [0, 1, 2, 3].flatMap (fun cls => byte (l.tx.countP (fun e => e.class == cls))) ++ byte l.rx.length

def State.counterBytes (s : State) : List Byte :=
  s.line.counters.bytes ++ s.line.occupancyBytes ++ bytes2 s.cache.full ++ bytes2 s.cache.refused
    ++ bytes2 s.port.overwritten ++ bytes2 s.port.discarded ++ bytes2 s.port.framing ++ bytes2 s.notice.lost

def State.queryCounters (s : State) : Answer := ⟨s, .done, s.counterBytes⟩

def execQueryCounters (args : List Byte) (s : State) : Host.Outcome State Fault Refusal :=
  .next (s.hostCommand 34 args (fun s => s.checked (readNone args) inAny (fun s _ => s.queryCounters)))

end Sys2Proof.Machine
end

