-- ==== Sys2Proof/Machine/PinEvents.lean ====
section
/-! DEFINITION. Power-on reset (R21, R167), the host port's transactions (R175 to R177), and the events of the pins:
encoder pulses (R11), tag reads (R7), OBST (R28), the control step (R130), the lift's sensors (R166, R169). -/

namespace Sys2Proof.Machine

/-! ## Power-on reset (R21) -/

/-- Every block at its power-on values; the lift state is read from the sensors (R167). The input levels are the
outside's, and the queue is not the part's (log 10). -/
def State.powerOn (s : State) : State :=
  (((State.reset.setPins s.pins).setPending s.pending).setLift (LiftUnit.fresh s.pins))

def execPowerOnReset (s : State) : Host.Outcome State Fault Refusal := .next s.powerOn

/-! ## Transactions (R175 to R177) -/

def execCommandTransaction (hdi : List Bool) (beganPending : Bool) (s : State) : Host.Outcome State Fault Refusal :=
  .next (s.transaction hdi beganPending)

def execReadTransaction (hdi : List Bool) (beganPending : Bool) (s : State) : Host.Outcome State Fault Refusal :=
  .next (s.transaction hdi beganPending)

/-! ## Encoder and tag reader (R7, R11) -/

/-- An effect made in JOINING, RUNNING and HALTED alone. -/
def State.outsideSetup (s : State) (f : State → State) : State := if s.control.state = .setup then s else f s

def State.countPulse (s : State) : State := s.setPos { s.pos with pulses := inc16 s.pos.pulses }

def execEncoderPulse (s : State) : Host.Outcome State Fault Refusal := .next (s.outsideSetup State.countPulse)

def execTagRead (code : BitVec 16) (s : State) : Host.Outcome State Fault Refusal :=
  .next (s.outsideSetup (fun s => s.tagRead s.now code.toNat))

/-! ## OBST and the control step (R28, R130, R145) -/

/-- The level of OBST; OBSTACLE leaves the causes while it is deasserted (R28). -/
def State.bringObst (s : State) (obst : Bool) : State :=
  let s1 := s.setPins { s.pins with obst := obst }
  if obst then s1 else s1.dropCause .obstacle

def execObstDeasserted (s : State) : Host.Outcome State Fault Refusal := .next (s.bringObst false)

def State.bringLoad (s : State) (loadc : LoadClass) : State := s.setPins { s.pins with loadc := loadc }

/-- The step with the levels of OBST and LOADC at it; in SETUP no step is made (R130). -/
def execControlStep (obst : Bool) (loadc : LoadClass) (s : State) : Host.Outcome State Fault Refusal :=
  .next (((s.bringObst obst).bringLoad loadc).outsideSetup State.controlStep)

/-! ## The lift's sensors (R166, R169) -/

def State.bringSensors (s : State) (sup sdn : Bool) (loadc : LoadClass) : State :=
  s.setPins { s.pins with sup := sup, sdn := sdn, loadc := loadc }

def execLiftSensorChange (sup sdn : Bool) (loadc : LoadClass) (s : State) : Host.Outcome State Fault Refusal :=
  .next ((s.bringSensors sup sdn loadc).judgeSensors s.now)

end Sys2Proof.Machine
end

