-- ==== Sys2Proof/Machine/TimeEvents.lean ====
section
/-! DEFINITION. Events of the part's own clocks. Each is taken whenever its clock runs, as that clock at its threshold,
and otherwise changes nothing (log 1, log 3). -/

namespace Sys2Proof.Machine

/-! ## Stops and expiries of the control step's clocks (R112, R142, R143, R147) -/

def State.serviceStopDue (s : State) : State :=
  if s.control.state = .running ∧ s.motion.requests ≠ [] ∧ s.motion.standing = true then s.serviceComplete s.now else s

def execServiceStopComplete (s : State) : Host.Outcome State Fault Refusal := .next s.serviceStopDue

def State.emergencyStopDue (s : State) : State :=
  if s.motion.latch = .braking ∧ s.motion.measured = 0 then s.emergencyComplete s.now else s

def execEmergencyStopComplete (s : State) : Host.Outcome State Fault Refusal := .next s.emergencyStopDue

def State.stallDue (s : State) : State :=
  if s.control.state = .running ∧ 0 < s.motion.commanded ∧ s.motion.measured = 0 then s.raiseStall s.now else s

def execDriveStall (s : State) : Host.Outcome State Fault Refusal := .next s.stallDue

/-- The waited counter stands above the wait limit at least. -/
def State.passWaitLimit (s : State) : State :=
  s.setClaim { s.claim with waited := max s.claim.waited (100 * s.params.waitLimit + 1) }

def State.waitDue (s : State) : State :=
  if s.claim.record.state.isWait = true ∧ s.claim.expired = false then s.passWaitLimit.expireWait s.now else s

def execWaitExpired (s : State) : Host.Outcome State Fault Refusal := .next s.waitDue

/-! ## The join timer and the beacon timer (R25, R52) -/

def State.joined (s : State) (t : Nat) : State :=
  ((s.setControl { s.control with joinTimer := none }).setMotion s.motion.enterRunning).changeState t .running

def State.joinDue (s : State) : State := if s.control.state = .joining then s.joined s.now else s

def execJoinTimerExpiry (s : State) : Host.Outcome State Fault Refusal := .next s.joinDue

/-- A BEACON is offered and the timer is reloaded. -/
def State.beaconDue (s : State) : State :=
  match s.line.beaconTimer with
  | none => s
  | some _ => (s.setLine { s.line with beaconTimer := some s.params.beaconPeriod }).offerBeacon s.now

def execBeaconTimerExpiry (s : State) : Host.Outcome State Fault Refusal := .next s.beaconDue

/-! ## The windows of a claim (R70, R71) -/

/-- Round 2 is offered. -/
def State.secondRound (s : State) (t : Nat) : State :=
  (s.setRecord { s.claim.record with state := .queuedR2, round := 2, windowTimer := none }).offerClaim t

def State.windowR1Due (s : State) : State := if s.claim.record.state = .windowR1 then s.secondRound s.now else s

def execWindowR1Expiry (s : State) : Host.Outcome State Fault Refusal := .next s.windowR1Due

/-- The claim's segments join the held list, RESERVED; the waited counter, the waited segment and the expired mark are
cleared (R71, R112). -/
def ClaimEngine.granted (c : ClaimEngine) : ClaimEngine :=
  { c with held := c.held ++ c.record.segs.map (fun n => ⟨n, .reserved⟩)
           waited := 0, waitedSeg := none, expired := false }

def State.grant (s : State) (t : Nat) : State :=
  let s1 := (s.setClaim s.claim.granted).cacheJoin s.claim.record.segs
  (s1.toIdle.chooseExpected).newAuthority t

def State.windowR2Due (s : State) : State := if s.claim.record.state = .windowR2 then s.grant s.now else s

def execGrant (s : State) : Host.Outcome State Fault Refusal := .next s.windowR2Due

/-! ## Waits (R77, R83, R110) -/

def State.contestDue (s : State) : State := if s.claim.record.state = .contested then s.toIdle else s

def execContestTimerExpiry (s : State) : Host.Outcome State Fault Refusal := .next s.contestDue

def State.retryDue (s : State) : State := s.setClaim { s.claim with retryTimer := none }

def execEditionRetryExpiry (s : State) : Host.Outcome State Fault Refusal := .next s.retryDue

/-- The holdoff timer runs in the WAITING phase alone (R107, R108). -/
def ClaimRecord.inWaitingPhase (r : ClaimRecord) : Bool :=
  (r.holdoff.map Holdoff.phase) == some .waiting

def State.holdoffDue (s : State) : State := if s.claim.record.inWaitingPhase then s.toIdle else s

def execHoldoffTimerExpiry (s : State) : Host.Outcome State Fault Refusal := .next s.holdoffDue

/-! ## Ageing (R123) -/

/-- The age stands above the staleness limit at least. -/
def CacheEntry.stale (e : CacheEntry) (limit : Nat) : CacheEntry :=
  { e with status := .stale, age := max e.age (limit + 1) }

def State.staleDue (s : State) (k : Nat) : State :=
  match Table.find s.cache.ways k with
  | none => s
  | some e =>
      if e.status = .held then s.setWays (Table.insert s.cache.ways k (e.stale s.params.staleness)) else s

def execEntryStale (set way : Nat) (s : State) : Host.Outcome State Fault Refusal := .next (s.staleDue (4 * set + way))

/-! ## The lift timer (R170) -/

def State.liftDue (s : State) : State := if s.lift.state.moving then s.liftTimeout s.now else s

def execLiftTimeout (s : State) : Host.Outcome State Fault Refusal := .next s.liftDue

end Sys2Proof.Machine
end

