-- ==== Sys2Proof/Machine/LineEvents.lean ====
section
/-! DEFINITION. Events of the lane line: a frame that ends at the receiver (R33, R37 to R42), frames taken from the
receive buffer (R43), transmissions (R49), collisions and discards (R50, R51), the end of a backoff. -/

namespace Sys2Proof.Machine

/-! ## A frame ends at the receiver (R33, R37 to R42) -/

def State.countLine (s : State) (f : LineCounters → LineCounters) : State :=
  s.setLine { s.line with counters := f s.line.counters }

/-- R33: a frame under the own number that the station did not send. The first after START raises
DUPLICATE_STATION; every one is dropped. -/
def State.duplicateFrame (s : State) (t : Nat) (f : Frame) : State :=
  if s.resp.duplicate then s
  else
    (s.setResp { s.resp with duplicate := true }).haltWith t
      { notice := .duplicateStation, fault := .duplicateStation, cause := .duplicateStation,
        station := some s.control.number, seg := none, detail := some f.body.kind
        faultDetail := some f.body.kind }

/-- R42: a recognised frame joins the buffer with its arrival time, or is lost to an overrun. -/
def State.bufferFrame (s : State) (t : Nat) (f : Frame) : State :=
  if s.line.rx.length < 8 then
    (s.setLine { s.line with rx := s.line.rx ++ [⟨f, t⟩] }).countLine
      (fun k => { k with framesTaken := inc16 k.framesTaken })
  else
    (s.countLine (fun k => { k with rxOverrun := inc16 k.rxOverrun })).offerFault
      { kind := .rxOverrun, time := t, station := some f.source, seg := none, detail := none }

/-- A GOOD frame: the duplicate check, then address recognition (R39, R40). -/
def State.goodFrame (s : State) (t : Nat) (f : Frame) : State :=
  if f.source = s.control.number then s.duplicateFrame t f
  else if f.dest = 0 then s.countLine (fun k => { k with noStation := inc16 k.noStation })
  else if s.control.recognises f.dest then s.bufferFrame t f
  else s

/-- The receive status of a frame decides what becomes of it (R37). -/
def State.closeFrame (s : State) (t : Nat) (c : Closing) : State :=
  match c with
  | .abort => s.countLine (fun k => { k with aborted := inc16 k.aborted })
  | .excess => s.countLine (fun k => { k with tooLong := inc16 k.tooLong })
  | .flag content =>
      match judge content with
      | .nothing => s
      | .tooShort => s.countLine (fun k => { k with tooShort := inc16 k.tooShort })
      | .crcBad => s.countLine (fun k => { k with crcBad := inc16 k.crcBad })
      | .malformed => s.countLine (fun k => { k with malformed := inc16 k.malformed })
      | .good f => s.goodFrame t f

/-- The receiver takes bits off the line, but not while the station sends (R39). -/
def State.receive (s : State) (t : Nat) (bits : List Bool) : State :=
  if s.line.transmitter.isSending then s
  else
    let r := s.line.receiver.takeAll bits
    r.2.foldl (fun s c => s.closeFrame t c) (s.setLine { s.line with receiver := r.1 })

def execFrameClosed (bits : List Bool) (s : State) : Host.Outcome State Fault Refusal := .next (s.receive s.now bits)

/-! ## Frames taken from the buffer (R43) -/

def execBeaconReceived (s : State) : Host.Outcome State Fault Refusal := .next (s.takeKind 1)
def execClaimReceived (s : State) : Host.Outcome State Fault Refusal := .next (s.takeKind 2)
def execObjectReceived (s : State) : Host.Outcome State Fault Refusal := .next (s.takeKind 3)
def execWithdrawReceived (s : State) : Host.Outcome State Fault Refusal := .next (s.takeKind 4)
def execReleaseReceived (s : State) : Host.Outcome State Fault Refusal := .next (s.takeKind 5)
def execEnquireReceived (s : State) : Host.Outcome State Fault Refusal := .next (s.takeKind 6)
def execRelayReceived (s : State) : Host.Outcome State Fault Refusal := .next (s.takeKind 7)

/-! ## Transmissions (R44, R49, R53) -/

def TxEntry.fly (e : TxEntry) : TxEntry := { e with inFlight := true }

/-- A frame is chosen, marked in flight and sent; a BEACON's content is formed now (R49, R53). -/
def State.beginSending (s : State) : State :=
  match s.line.transmitter, chooseTx s.line.tx with
  | .idle, some i =>
      match s.line.tx[i]? with
      | none => s
      | some e =>
          s.setLine
            { s.line with
              tx := s.line.tx.set i e.fly
              transmitter := .sending (s.frameOf e) (s.frameOf e).line, abortBits := [] }
  | _, _ => s

def execTransmissionStart (s : State) : Host.Outcome State Fault Refusal := .next s.beginSending

/-- A round of the claim has been sent: its objection window starts (R69, R70). -/
def State.roundSent (s : State) : State :=
  match s.claim.record.state with
  | .queuedR1 => s.setRecord { s.claim.record with state := .windowR1, windowTimer := some s.params.window }
  | .queuedR2 => s.setRecord { s.claim.record with state := .windowR2, windowTimer := some s.params.window }
  | .idle | .windowR1 | .windowR2 | .blocked | .contested | .holdoff => s

/-- A removal is answered as sent: the WITHDRAW owed by it is offered now (R48, R72). -/
def State.removalSent (s : State) (t : Nat) : State :=
  match s.claim.removal with
  | none => s
  | some r =>
      let s1 := s.setClaim { s.claim with removal := none }
      if r.owed then s1.sendWithdraw t r.number else s1

/-- A removal is answered as not sent. -/
def State.removalNotSent (s : State) : State := s.setClaim { s.claim with removal := none }

/-- The line after a completed transmission (R49, R51). -/
def LaneLine.sent (l : LaneLine) : LaneLine :=
  { l with
    tx := l.tx.filter (fun e => !e.inFlight), transmitter := .idle, discards := 0, degraded := false
    counters := { l.counters with framesSent := inc16 l.counters.framesSent } }

def State.sent (s : State) (t : Nat) (e : TxEntry) : State :=
  let s1 := s.setLine s.line.sent
  if e.kind = 2 then (if e.removed then s1.removalSent t else s1.roundSent) else s1

def State.completeSending (s : State) : State :=
  match s.line.transmitter, inFlightEntry s.line.tx with
  | .sending _ _, some e => s.sent s.now e
  | _, _ => s

def execTransmissionComplete (s : State) : Host.Outcome State Fault Refusal := .next s.completeSending

/-! ## Collisions (R50, R51) -/

/-- Backoff slots by own number and attempt count. -/
def backoffSlots (own attempts : Nat) : Nat := (own + 7 * attempts) % 16 + 1

/-- What the receiver has taken when the frame stops: the bits sent before the one read as 0, and that 0 (R39). -/
def receiverAfter (bits : List Bool) (bit : Nat) : Receiver := (Receiver.fresh.takeAll (bits.take bit ++ [false])).1

/-- The frame stops: the abort pattern, the count, the attempt, the in-flight mark and the backoff (R50). -/
def LaneLine.collided (l : LaneLine) (own bit attempts : Nat) (bits : List Bool) : LaneLine :=
  { l with
    receiver := receiverAfter bits bit, transmitter := .backoff (backoffSlots own attempts)
    abortBits := abortPattern
    tx := l.tx.map (fun e => if e.inFlight then { e with attempts := attempts, inFlight := false } else e)
    counters := { l.counters with collisions := inc16 l.counters.collisions } }

/-- The entry that was in flight leaves the queue. -/
def LaneLine.dropInFlight (l : LaneLine) : LaneLine := { l with tx := l.tx.filter (fun e => !e.inFlight) }

/-- The owner of a frame discarded after its tenth collision is told (R51). -/
def State.tellOwner (s : State) (t : Nat) (e : TxEntry) : State :=
  if e.removed then s.removalNotSent
  else if e.kind = 2 then s.claimUndelivered t
  else if e.kind = 7 then s.relayDiscarded t e.dest
  else s

/-- The third discard of a run raises LINE_DEGRADED (R51). -/
def State.degradeCheck (s : State) (t : Nat) : State :=
  if 3 ≤ s.line.discards ∧ s.line.degraded = false then
    (s.setLine { s.line with degraded := true }).raise
      { Notice.plain .lineDegraded t with detail := some s.line.counters.lineFail }
  else s

def LaneLine.discarded (l : LaneLine) : LaneLine :=
  { l with discards := satAdd 255 l.discards 1
           counters := { l.counters with lineFail := inc16 l.counters.lineFail } }

/-- What a collision makes of the entry that was in flight: `attempts` is its count after the increment. -/
def State.afterCollision (s : State) (t bit attempts : Nat) (bits : List Bool) (e : TxEntry) : State :=
  if 10 ≤ attempts then
    let l := (s.line.dropInFlight.collided s.control.number bit attempts bits).discarded
    ((s.setLine l).tellOwner t e).degradeCheck t
  else if e.removed then
    (s.setLine (s.line.dropInFlight.collided s.control.number bit attempts bits)).removalNotSent
  else s.setLine (s.line.collided s.control.number bit attempts bits)

/-- A mismatch can arise only on a bit sent as 1 (R50); any other bit leaves the state as it is (log 8). -/
def State.collide (s : State) (bit : Nat) : State :=
  match s.line.transmitter, inFlightEntry s.line.tx with
  | .sending _ bits, some e =>
      if bits[bit]? = some true then s.afterCollision s.now bit (e.attempts + 1) bits e else s
  | _, _ => s

def execCollision (bit : Nat) (s : State) : Host.Outcome State Fault Refusal := .next (s.collide bit)

/-! ## The end of a backoff (R50) -/

def State.endBackoff (s : State) : State :=
  match s.line.transmitter with
  | .backoff _ => s.setLine { s.line with transmitter := .idle }
  | .off | .idle | .sending _ _ => s

def execBackoffEnd (s : State) : Host.Outcome State Fault Refusal := .next s.endBackoff

end Sys2Proof.Machine
end

