-- ==== Sys2Proof/Machine/Idle.lean ====
section
/-! DEFINITION. A step with no command pending: one millisecond of the device clock, and the rows of the events that
have come due (log 2). -/

namespace Sys2Proof.Machine

/-! ## One millisecond -/

/-- A running timer has one ms less left. -/
def tickTimer (timer : Option Nat) : Option Nat := timer.map (fun n => n - 1)

def Holdoff.tick (h : Holdoff) : Holdoff := { h with timer := tickTimer h.timer }

def ClaimRecord.tick (r : ClaimRecord) : ClaimRecord :=
  { r with windowTimer := tickTimer r.windowTimer, contestTimer := tickTimer r.contestTimer,
           holdoff := r.holdoff.map Holdoff.tick }

def ClaimEngine.tick (c : ClaimEngine) : ClaimEngine :=
  { c with record := c.record.tick, retryTimer := tickTimer c.retryTimer }

/-- The age of a HELD or STALE entry counts up, and a HELD entry whose age passes the staleness limit becomes STALE; a
placeholder's age stays 0 (R123). -/
def CacheEntry.tick (limit : Nat) (e : CacheEntry) : CacheEntry :=
  match e.status with
  | .held => { e with age := inc16 e.age, status := if limit < inc16 e.age then .stale else .held }
  | .stale => { e with age := inc16 e.age }
  | .none => e

def PeerCache.tick (c : PeerCache) (limit : Nat) : PeerCache :=
  { c with ways := c.ways.map (fun w => (w.1, w.2.tick limit)) }

/-- The notice time stamp wraps at 2^32 (R186). -/
def NoticeUnit.tick (u : NoticeUnit) : NoticeUnit := { u with now := (u.now + 1) % 2 ^ 32 }

/-- The clocks that run in JOINING, RUNNING and HALTED. -/
def State.tickStation (s : State) : State :=
  let s1 := s.setControl { s.control with joinTimer := tickTimer s.control.joinTimer }
  let s2 := s1.setLine { s1.line with beaconTimer := tickTimer s1.line.beaconTimer }
  let s3 := (s2.setClaim s2.claim.tick).setCache (s2.cache.tick s2.params.staleness)
  s3.setLift { s3.lift with timer := tickTimer s3.lift.timer }

def State.tick (s : State) : State :=
  ((s.setNotice s.notice.tick).setPhase ((s.phase + 1) % 10)).outsideSetup State.tickStation

/-! ## The rows that have come due -/

/-- The row that takes a frame of the receive buffer (R43). -/
def takeRow (r : Received) : Instr :=
  match r.frame.body with
  | .beacon _ => .beaconReceived
  | .claim _ _ _ _ _ => .claimReceived
  | .object _ _ _ _ _ => .objectReceived
  | .withdraw _ => .withdrawReceived
  | .release _ => .releaseReceived
  | .enquire _ => .enquireReceived
  | .relay _ => .relayReceived

/-- The row of a host command by its kind code (section 11.3); any other kind is UNKNOWN_COMMAND (R179). -/
def commandRow (kind : Nat) (args : List Byte) : Instr :=
  match kind with
  | 1 => .setStation args
  | 2 => .setParameter args
  | 3 => .loadSegment args
  | 4 => .loadTagWindow args
  | 5 => .setEdition args
  | 6 => .start args
  | 16 => .submitOrder args
  | 17 => .cancelOrder args
  | 18 => .stop args
  | 19 => .resume args
  | 20 => .restart args
  | 21 => .sendRelay args
  | 22 => .lineReset args
  | 23 => .clearLift args
  | 24 => .forgetStation args
  | 32 => .queryStatus args
  | 33 => .queryOrders args
  | 34 => .queryCounters args
  | 35 => .readCacheEntry args
  | 36 => .invalidateCacheEntry args
  | 37 => .invalidateCacheSegment args
  | 38 => .invalidateCacheSet args
  | 39 => .readNotices args
  | 40 => .enableNotices args
  | 41 => .disableNotices args
  | 42 => .setAttention args
  | 43 => .readFaultRecord args
  | 44 => .clearFaultRecord args
  | _ => .unknownCommand (BitVec.ofNat 8 kind) args

def Slot.rows : Slot → List Instr
  | .pending c => [commandRow c.kind c.args]
  | .empty | .full _ => []

/-- The row of a timer that has run out. -/
def expiry (timer : Option Nat) (row : Instr) : List Instr :=
  match timer with
  | some 0 => [row]
  | _ => []

/-- The window timer's row: the round 1 expiry or the grant (R70, R71). -/
def ClaimRecord.windowRow (r : ClaimRecord) : Instr :=
  match r.state with
  | .windowR2 => .grant
  | .idle | .queuedR1 | .windowR1 | .queuedR2 | .blocked | .contested | .holdoff => .windowR1Expiry

/-- The control step falls every 10 ms outside SETUP, with the levels of its pins (R130). -/
def State.stepRows (s : State) : List Instr :=
  if s.phase = 0 ∧ s.control.state ≠ .setup then [.controlStep s.pins.obst s.pins.loadc] else []

/-- The rows that have come due. ENTRY_STALE is not among them: the tick itself makes an entry STALE (log 2). -/
def State.due (s : State) : List Instr :=
  [s.line.rx.map takeRow, s.port.slot.rows, expiry s.control.joinTimer .joinTimerExpiry,
    expiry s.line.beaconTimer .beaconTimerExpiry, expiry s.claim.record.windowTimer s.claim.record.windowRow,
    expiry s.claim.record.contestTimer .contestTimerExpiry, expiry s.claim.retryTimer .editionRetryExpiry,
    expiry (s.claim.record.holdoff.bind Holdoff.timer) .holdoffTimerExpiry, expiry s.lift.timer .liftTimeout,
    s.stepRows].flatten

/-- The part with nothing pending: a millisecond passes and what has come due is queued. -/
def State.idle (s : State) : State := s.tick.setPending s.tick.due

end Sys2Proof.Machine
end

