-- ==== Sys2Proof/Machine/Dispatch.lean ====
section
/-! DEFINITION. The meaning of every command: one arm per constructor of `Instr`. -/

namespace Sys2Proof.Machine

def exec (i : Instr) (s : State) : Host.Outcome State Fault Refusal :=
  match i with
  | .powerOnReset => Sys2Proof.Machine.execPowerOnReset s
  | .commandTransaction hdi beganPending => Sys2Proof.Machine.execCommandTransaction hdi beganPending s
  | .readTransaction hdi beganPending => Sys2Proof.Machine.execReadTransaction hdi beganPending s
  | .setStation args => Sys2Proof.Machine.execSetStation args s
  | .setParameter args => Sys2Proof.Machine.execSetParameter args s
  | .loadSegment args => Sys2Proof.Machine.execLoadSegment args s
  | .loadTagWindow args => Sys2Proof.Machine.execLoadTagWindow args s
  | .setEdition args => Sys2Proof.Machine.execSetEdition args s
  | .start args => Sys2Proof.Machine.execStart args s
  | .submitOrder args => Sys2Proof.Machine.execSubmitOrder args s
  | .cancelOrder args => Sys2Proof.Machine.execCancelOrder args s
  | .stop args => Sys2Proof.Machine.execStop args s
  | .resume args => Sys2Proof.Machine.execResume args s
  | .restart args => Sys2Proof.Machine.execRestart args s
  | .sendRelay args => Sys2Proof.Machine.execSendRelay args s
  | .lineReset args => Sys2Proof.Machine.execLineReset args s
  | .clearLift args => Sys2Proof.Machine.execClearLift args s
  | .forgetStation args => Sys2Proof.Machine.execForgetStation args s
  | .queryStatus args => Sys2Proof.Machine.execQueryStatus args s
  | .queryOrders args => Sys2Proof.Machine.execQueryOrders args s
  | .queryCounters args => Sys2Proof.Machine.execQueryCounters args s
  | .readCacheEntry args => Sys2Proof.Machine.execReadCacheEntry args s
  | .invalidateCacheEntry args => Sys2Proof.Machine.execInvalidateCacheEntry args s
  | .invalidateCacheSegment args => Sys2Proof.Machine.execInvalidateCacheSegment args s
  | .invalidateCacheSet args => Sys2Proof.Machine.execInvalidateCacheSet args s
  | .readNotices args => Sys2Proof.Machine.execReadNotices args s
  | .enableNotices args => Sys2Proof.Machine.execEnableNotices args s
  | .disableNotices args => Sys2Proof.Machine.execDisableNotices args s
  | .setAttention args => Sys2Proof.Machine.execSetAttention args s
  | .readFaultRecord args => Sys2Proof.Machine.execReadFaultRecord args s
  | .clearFaultRecord args => Sys2Proof.Machine.execClearFaultRecord args s
  | .encoderPulse => Sys2Proof.Machine.execEncoderPulse s
  | .tagRead code => Sys2Proof.Machine.execTagRead code s
  | .obstDeasserted => Sys2Proof.Machine.execObstDeasserted s
  | .controlStep obst loadc => Sys2Proof.Machine.execControlStep obst loadc s
  | .serviceStopComplete => Sys2Proof.Machine.execServiceStopComplete s
  | .emergencyStopComplete => Sys2Proof.Machine.execEmergencyStopComplete s
  | .driveStall => Sys2Proof.Machine.execDriveStall s
  | .waitExpired => Sys2Proof.Machine.execWaitExpired s
  | .joinTimerExpiry => Sys2Proof.Machine.execJoinTimerExpiry s
  | .beaconTimerExpiry => Sys2Proof.Machine.execBeaconTimerExpiry s
  | .windowR1Expiry => Sys2Proof.Machine.execWindowR1Expiry s
  | .grant => Sys2Proof.Machine.execGrant s
  | .contestTimerExpiry => Sys2Proof.Machine.execContestTimerExpiry s
  | .editionRetryExpiry => Sys2Proof.Machine.execEditionRetryExpiry s
  | .holdoffTimerExpiry => Sys2Proof.Machine.execHoldoffTimerExpiry s
  | .entryStale set way => Sys2Proof.Machine.execEntryStale set way s
  | .liftSensorChange sup sdn loadc => Sys2Proof.Machine.execLiftSensorChange sup sdn loadc s
  | .liftTimeout => Sys2Proof.Machine.execLiftTimeout s
  | .frameClosed bits => Sys2Proof.Machine.execFrameClosed bits s
  | .beaconReceived => Sys2Proof.Machine.execBeaconReceived s
  | .claimReceived => Sys2Proof.Machine.execClaimReceived s
  | .enquireReceived => Sys2Proof.Machine.execEnquireReceived s
  | .objectReceived => Sys2Proof.Machine.execObjectReceived s
  | .releaseReceived => Sys2Proof.Machine.execReleaseReceived s
  | .withdrawReceived => Sys2Proof.Machine.execWithdrawReceived s
  | .relayReceived => Sys2Proof.Machine.execRelayReceived s
  | .transmissionStart => Sys2Proof.Machine.execTransmissionStart s
  | .transmissionComplete => Sys2Proof.Machine.execTransmissionComplete s
  | .collision bit => Sys2Proof.Machine.execCollision bit s
  | .backoffEnd => Sys2Proof.Machine.execBackoffEnd s
  | .unknownCommand kind args => Sys2Proof.Machine.execUnknownCommand kind args s

end Sys2Proof.Machine
end

