-- ==== Sys2Proof/Safety.lean ====
section
/-! DEFINITION. What a state of the part never is: the invariants that every step keeps, block by block. -/

namespace Sys2Proof.Safety

open Sys2Proof.Machine

/-! ## The lane line and the notices -/

/-- The receive buffer holds 8 frames at most, the transmit queue 24, one CLAIM, one BEACON, three ENQUIRE and six
RELAY frames at most (R42, R44, R45, R46), and a BEACON waits without its content (R44); the notice queue holds 32 at
most (R187), the conflict-segment set 32 pairs at most (R95). -/
abbrev QueuesBounded (s : State) : Prop :=
  s.line.rx.length ≤ 8 ∧ s.line.tx.length ≤ 24 ∧ countKind s.line.tx 1 ≤ 1 ∧ countKind s.line.tx 2 ≤ 1
    ∧ countKind s.line.tx 6 ≤ 3 ∧ countKind s.line.tx 7 ≤ 6 ∧ s.notice.queue.length ≤ 32
    ∧ s.resp.conflicts.length ≤ 32 ∧ ∀ e ∈ s.line.tx, e.kind = 1 → e.content = .beacon

/-- Every counter of the line within 0..65535 (R55). -/
abbrev LineCountersFit (k : LineCounters) : Prop :=
  k.crcBad ≤ 65535 ∧ k.aborted ≤ 65535 ∧ k.tooLong ≤ 65535 ∧ k.tooShort ≤ 65535 ∧ k.malformed ≤ 65535
    ∧ k.noStation ≤ 65535 ∧ k.rxOverrun ≤ 65535 ∧ k.framesTaken ≤ 65535 ∧ k.framesSent ≤ 65535
    ∧ k.collisions ≤ 65535 ∧ k.lineFail ≤ 65535 ∧ k.txDropped ≤ 65535

/-- Counters stop at their top values (R11, R51, R55, R84, R115, R129, R150, R175, R187, R191); the claim number counter
stays below 256 (R64) and the notice time stamp below 2^32 (R186). -/
abbrev CountersFit (s : State) : Prop :=
  LineCountersFit s.line.counters ∧ s.line.discards ≤ 255 ∧ s.cache.full ≤ 65535 ∧ s.cache.refused ≤ 65535
    ∧ s.port.overwritten ≤ 65535 ∧ s.port.discarded ≤ 65535 ∧ s.port.framing ≤ 65535 ∧ s.notice.lost ≤ 255
    ∧ (∀ r ∈ s.notice.fault.toList, r.further ≤ 255) ∧ s.pos.pulses ≤ 65535 ∧ s.notice.now < 2 ^ 32
    ∧ s.claim.counter ≤ 255 ∧ s.claim.waited ≤ 65535 ∧ (∀ o ∈ s.orders.list, o.activations ≤ 255)
    ∧ ∀ w ∈ s.cache.ways, w.2.age ≤ 65535

/-! ## Parameters -/

/-- Every parameter in its range, and the staleness limit at least twice the beacon period (R184, R185). -/
abbrev ParamsInRange (p : Params) : Prop :=
  (2000 ≤ p.carrierLength ∧ p.carrierLength ≤ 6000) ∧ (100 ≤ p.standOff ∧ p.standOff ≤ 1000)
    ∧ (200 ≤ p.margin ∧ p.margin ≤ 2000) ∧ (100 ≤ p.reaction ∧ p.reaction ≤ 500)
    ∧ (100 ≤ p.acceleration ∧ p.acceleration ≤ 600) ∧ (100 ≤ p.maxSpeed ∧ p.maxSpeed ≤ 1500)
    ∧ (100 ≤ p.pulsePitch ∧ p.pulsePitch ≤ 5000) ∧ (50 ≤ p.tolerance ∧ p.tolerance ≤ 500)
    ∧ (250 ≤ p.beaconPeriod ∧ p.beaconPeriod ≤ 2000) ∧ (20 ≤ p.window ∧ p.window ≤ 100)
    ∧ (1000 ≤ p.staleness ∧ p.staleness ≤ 10000) ∧ 2 * p.beaconPeriod ≤ p.staleness
    ∧ (5 ≤ p.waitLimit ∧ p.waitLimit ≤ 120) ∧ (2 ≤ p.liftTimeout ∧ p.liftTimeout ≤ 20)

/-! ## The claim record and the held list -/

/-- R63: which fields of the claim record are present in which state; the peer wait information is known in BLOCKED
alone (R104); the holdoff timer runs in the WAITING phase alone (R107, R108); a wait found STALE is BLOCKED (R68). -/
abbrev RecordShape (c : ClaimEngine) : Prop :=
  (c.record.windowTimer.isSome = true ↔ c.record.state = .windowR1 ∨ c.record.state = .windowR2)
    ∧ (c.record.contestTimer.isSome = true ↔ c.record.state = .contested)
    ∧ (c.record.rival.isSome = true ↔ c.record.state = .contested)
    ∧ (c.record.holder.isSome = true ↔ c.record.state = .blocked)
    ∧ (c.record.holdoff.isSome = true ↔ c.record.state = .holdoff)
    ∧ (c.record.waitSeg.isSome = true ↔ c.record.state.isWait = true)
    ∧ (c.record.state.isPending = false → c.record.segs = [])
    ∧ (c.record.round = 1 ∨ c.record.round = 2)
    ∧ (∀ h ∈ c.record.holdoff.toList, (h.timer.isSome = true ↔ h.phase = .waiting))
    ∧ (c.peerWait.isSome = true → c.record.state = .blocked)
    ∧ (c.record.lastStale = true → c.record.state = .blocked)

/-- R59, R63: the held list and the pending claim together name 12 segments at most, none of them twice; every queued
order's path names no segment twice (R153). -/
abbrev HeldListSound (s : State) : Prop :=
  (heldSegs s.claim.held ++ s.claim.record.segs).Nodup
    ∧ (heldSegs s.claim.held ++ s.claim.record.segs).length ≤ 12
    ∧ ∀ o ∈ s.orders.list, o.path.Nodup

/-- R122: no cache entry names as held by another station a segment of the own held list. -/
abbrev OwnTrackUncached (s : State) : Prop :=
  ∀ w ∈ s.cache.ways, w.2.holder ≠ 0 → w.2.seg ∉ heldSegs s.claim.held

/-- R59: the OCCUPIED entries form the rear part of the held list. -/
abbrev OccupiedFirst (held : List HeldEntry) : Prop :=
  held.Pairwise (fun e f => f.mark = .occupied → e.mark = .occupied)

/-! ## Stations, orders and motion -/

/-- An order that is ACTIVE or FINISHING. -/
def inHand (o : Order) : Bool := o.state == .active || o.state == .finishing

/-- R151, R155: at most 8 orders, no tag twice, and only the head ACTIVE or FINISHING. -/
abbrev OrderQueueSound (q : OrderQueue) : Prop :=
  q.list.length ≤ 8 ∧ (q.list.map Order.tag).Nodup ∧ ∀ o ∈ q.list.drop 1, inHand o = false

/-- What holds outside RUNNING: speed 0 and no service stop (R131, R142), no order ACTIVE (R26), no claim and no wait
(R25, R26). -/
abbrev QuietOutsideRunning (s : State) : Prop :=
  s.control.state ≠ .running →
    s.motion.commanded = 0 ∧ s.motion.requests = [] ∧ (∀ o ∈ s.orders.list, o.state ≠ .active)
      ∧ s.claim.record.state = .idle ∧ s.claim.waitLimitYield = false

/-- The station state with what goes with it: the emergency latch runs in HALTED alone (R143, R144), the causes are
those of HALTED (R26, R30), the join timer runs in JOINING alone (R24, R25), and a position stands outside SETUP
alone (section 1.3). -/
abbrev StationSound (s : State) : Prop :=
  (s.motion.latch = .none ↔ s.control.state ≠ .halted)
    ∧ (s.control.state ≠ .halted → s.control.causes = [])
    ∧ (s.control.joinTimer.isSome = true ↔ s.control.state = .joining)
    ∧ (s.pos.centre.isSome = true ↔ s.control.state ≠ .setup)

/-- The orders, the claim record and the motion of a station, taken together. -/
abbrev StationInvariant (s : State) : Prop :=
  StationSound s ∧ QuietOutsideRunning s ∧ OrderQueueSound s.orders ∧ RecordShape s.claim

/-- R141: the commanded speed is within the maximum speed and the cap of the ACTIVE order. -/
abbrev SpeedCapped (s : State) : Prop :=
  s.motion.commanded ≤ s.params.maxSpeed ∧ ∀ o ∈ s.activeOrder.toList, s.motion.commanded ≤ o.cap

/-- R16: the miss count is at most 2, and at 2 the expected marker is absent; the edition is never 0 (R3). -/
abbrev PositionSound (p : PositionUnit) : Prop :=
  p.misses ≤ 2 ∧ (p.misses = 2 → p.expected = none) ∧ 1 ≤ p.edition ∧ p.edition ≤ 65535

/-! ## The cache -/

/-- R115: a NONE entry has holder 0, no mark and age 0, and is pinned. -/
abbrev EntrySound (e : CacheEntry) : Prop :=
  e.status = .none → e.holder = 0 ∧ e.mark = none ∧ e.age = 0 ∧ e.pins ≠ []

/-- R115: every entry in the set of its segment, no segment with two entries, each NONE entry a pinned placeholder, and
no set with more than three pinned entries. -/
abbrev CacheSound (c : PeerCache) : Prop :=
  Table.wf c.ways = true
    ∧ (∀ w ∈ c.ways, w.1 < 64 ∧ w.1 / 4 = cacheSet w.2.seg ∧ EntrySound w.2)
    ∧ (c.ways.map (fun w => w.2.seg)).Nodup
    ∧ ∀ set < 16, pinnedIn c.ways set ≤ 3

/-- The tables by number are in their one form: sorted, no number twice. -/
abbrev TablesSorted (s : State) : Prop :=
  Table.wf s.pos.map = true ∧ Table.wf s.claim.reports = true ∧ Table.wf s.claim.enquiries = true
    ∧ s.resp.editionMarks.Pairwise (· < ·) ∧ s.pos.unmapped.Pairwise (· < ·)

/-! ## What statements about commands say of a state before and after -/

/-- The configuration: the parameters, the map, the edition, the tag windows, the station number and the selectors
(R3, R6, R22, R184). -/
abbrev ConfigurationKept (s t : State) : Prop :=
  t.params = s.params ∧ t.pos.map = s.pos.map ∧ t.pos.edition = s.pos.edition ∧ t.pos.windows = s.pos.windows
    ∧ t.control.number = s.control.number ∧ t.control.group1 = s.control.group1
    ∧ t.control.group2 = s.control.group2

/-- The captured fields of a fault (R191). -/
abbrev SameCapture (r q : FaultRecord) : Prop :=
  q.kind = r.kind ∧ q.time = r.time ∧ q.centreSeg = r.centreSeg ∧ q.centreOffset = r.centreOffset
    ∧ q.commanded = r.commanded ∧ q.station = r.station ∧ q.seg = r.seg ∧ q.detail = r.detail

/-- A kind is enabled and the notice queue has room for `n` notices more (R187). -/
abbrev RoomFor (u : NoticeUnit) (k : NoticeKind) (n : Nat) : Prop := k ∉ u.disabled ∧ u.queue.length + n ≤ 32

/-- The argument length of the host commands whose arguments have one length (section 11.3, the sizes of R57); those of
kinds 2, 4, 5, 35, 36, 38 and 42 hold an argument that R57 does not size (log 20). -/
def fixedLength : Nat → Option Nat
  | 1 => some 5 | 2 => some 3 | 4 => some 6 | 5 => some 2 | 6 => some 4 | 17 => some 2 | 18 => some 0 | 19 => some 0
  | 20 => some 0 | 22 => some 0 | 23 => some 0 | 24 => some 1 | 32 => some 0 | 33 => some 0 | 34 => some 0
  | 35 => some 2 | 36 => some 2 | 37 => some 1 | 38 => some 1 | 39 => some 0 | 42 => some 2 | 43 => some 0
  | 44 => some 0
  | _ => none

/-- The argument length that section 11.3 gives a host command: the counted lists of LOAD_SEGMENT, SUBMIT_ORDER,
SEND_RELAY and the two notice commands make it depend on the counts. SUBMIT_ORDER's front flag and urgency and
SEND_RELAY's destination have the sizes of log 20. -/
def argumentLength (kind : Nat) (args : List Byte) : Option Nat :=
  let count (i : Nat) : Nat := (args.getD i 0).toNat
  if kind = 3 then some (8 + 2 * count 6 + 2 * count (7 + 2 * count 6))
  else if kind = 16 then some (11 + count 10)
  else if kind = 21 then some (2 + count 1)
  else if kind = 40 ∨ kind = 41 then some (1 + count 0)
  else fixedLength kind

/-- The six checks of LOAD_SEGMENT, in the order listed (R1), numbered from 1 (log 18). -/
def SegmentCheck (a : SegmentArgs) : Nat → Prop
  | 1 => 1 ≤ a.number ∧ a.number ≤ 240
  | 2 => a.kind < 4
  | 3 => a.aLinks.length ≤ 2 ∧ a.bLinks.length ≤ 2
  | 4 => ∀ l ∈ a.aLinks ++ a.bLinks, (1 ≤ l.1 ∧ l.1 ≤ 240) ∧ l.2 < 2
  | 5 => ∀ l ∈ a.aLinks ++ a.bLinks, l.1 ≠ a.number
  | 6 => (a.aLinks.map Prod.fst).Nodup ∧ (a.bLinks.map Prod.fst).Nodup
  | _ => True

/-- The station states in which a host command is taken, by its kind code (section 11.3). -/
def takenIn (kind : Nat) (x : StationState) : Bool :=
  if 1 ≤ kind ∧ kind ≤ 6 then x == .setup
  else if kind = 16 then x == .running || x == .halted
  else if kind = 19 then x == .halted
  else if 17 ≤ kind ∧ kind ≤ 24 then x != .setup
  else true

/-! ## The track (R2, R4, R18, R153) -/

/-- End `e` of a segment carries a link to `n`. -/
abbrev HasLink (map : Table Segment) (seg : Nat) (e : End) (n : Nat) : Prop := ∃ l ∈ linksAt map seg e, l.seg = n

/-- A link of end `x` of segment `n` names a loaded segment that mirrors it (R4). -/
abbrev LinkMirrored (map : Table Segment) (n : Nat) (x : End) (l : Link) : Prop :=
  (Table.find map l.seg).isSome = true ∧ (⟨n, x⟩ : Link) ∈ linksAt map l.seg l.far

/-- A BAY or DOCK with links at both ends (R4). -/
abbrev DeadEndThrough (g : Segment) : Prop := (g.kind = .bay ∨ g.kind = .dock) ∧ g.aLinks ≠ [] ∧ g.bLinks ≠ []

/-- Segment `n` with record `g` passes the map check (R4). -/
abbrev SegmentSound (map : Table Segment) (n : Nat) (g : Segment) : Prop :=
  ¬DeadEndThrough g ∧ (∀ l ∈ g.aLinks, LinkMirrored map n .a l) ∧ ∀ l ∈ g.bLinks, LinkMirrored map n .b l

/-- The segments a walk enters from an end of a segment, through link 1 of each end (R18). -/
def LinkOneWalk (map : Table Segment) : Nat → End → List Nat → Prop
  | _, _, [] => True
  | seg, x, n :: rest =>
      ∃ l, (linksAt map seg x).head? = some l ∧ l.seg = n ∧ LinkOneWalk map n l.far.other rest

/-- A walk of `h` mm from a point with `room` mm before the end enters `walked`, and no segment more (R18). -/
abbrev WalkCovers (map : Table Segment) (room h : Nat) (walked : List Nat) : Prop :=
  h ≤ room + (walked.map (lengthOf map)).sum
    ∧ (walked ≠ [] → room + (walked.dropLast.map (lengthOf map)).sum < h)

/-- PATH_BREAK at an index: a segment seen before, or not linked to the one before it (R153). -/
abbrev BreaksAt (map : Table Segment) (path : List Nat) (i : Nat) : Prop :=
  ∃ n, path[i]? = some n
    ∧ (n ∈ path.take i ∨ ∃ p, 0 < i ∧ path[i - 1]? = some p ∧ ¬HasLink map p .a n ∧ ¬HasLink map p .b n)

/-- PATH_TURN at an index: the segment is linked to the one before it and to the one after it by one and the same end
alone (R153). -/
abbrev TurnsAt (map : Table Segment) (path : List Nat) (i : Nat) : Prop :=
  ∃ p n m, 0 < i ∧ path[i - 1]? = some p ∧ path[i]? = some n ∧ path[i + 1]? = some m
    ∧ ∃ e, HasLink map n e p ∧ HasLink map n e m ∧ ¬HasLink map n e.other p ∧ ¬HasLink map n e.other m

/-! ## Frames -/

/-- Segments as a frame may carry them: 1..240, none twice (R38). -/
abbrev SegmentsFit (l : List Nat) : Prop := (∀ n ∈ l, 1 ≤ n ∧ n ≤ 240) ∧ l.Nodup

/-- A body whose fields fit the layouts of R56 and pass the checks of R38. -/
def BodyFits : Body → Prop
  | .beacon b =>
      (1 ≤ b.centreSeg ∧ b.centreSeg ≤ 240) ∧ b.offset < 65536 ∧ b.state ≠ .setup ∧ b.speed < 65536 ∧ b.urgency ≤ 3
        ∧ b.waitingFor ≤ 240 ∧ b.held.length ≤ 12 ∧ SegmentsFit (heldSegs b.held)
  | .claim number round urgency waited segs =>
      number < 256 ∧ (round = 1 ∨ round = 2) ∧ urgency ≤ 3 ∧ waited < 65536 ∧ 1 ≤ segs.length ∧ segs.length ≤ 8
        ∧ SegmentsFit segs
  | .object number seg _ waitingFor urgency =>
      number < 256 ∧ (1 ≤ seg ∧ seg ≤ 240) ∧ waitingFor ≤ 240 ∧ urgency ≤ 3
  | .withdraw number => number < 256
  | .release segs => 1 ≤ segs.length ∧ segs.length ≤ 12 ∧ SegmentsFit segs
  | .enquire segs => 1 ≤ segs.length ∧ segs.length ≤ 8 ∧ SegmentsFit segs
  | .relay payload => 1 ≤ payload.length ∧ payload.length ≤ 32

/-- A frame a station may send: a source 1..60, an edition 1..65535, a destination its kind may carry. -/
def FrameFits (f : Frame) : Prop :=
  (1 ≤ f.source ∧ f.source ≤ 60) ∧ (1 ≤ f.edition ∧ f.edition < 65536) ∧ f.dest < 256
    ∧ (f.body.kind = 3 → 1 ≤ f.dest ∧ f.dest ≤ 60) ∧ (f.body.kind ≠ 3 → f.body.kind ≠ 7 → f.dest = 255)
    ∧ BodyFits f.body

/-! ## The field checks (R38) -/

/-- A segment list with a segment 0 or above 240, or one listed twice. -/
def ListWrong (segs : List Nat) : Prop := (∃ n ∈ segs, n = 0 ∨ 240 < n) ∨ ¬segs.Nodup

/-- The table of R38 over header and body, byte by byte in the layouts of R56; a byte that is not there reads 0. -/
def FieldsWrong (data : List Byte) : Prop :=
  let b (i : Nat) : Nat := (data[i]?.getD 0).toNat
  let segs (i : Nat) : List Nat := (data.drop i).map BitVec.toNat
  b 2 = 0 ∨ 7 < b 2 ∨ b 1 = 0 ∨ 60 < b 1 ∨ (b 3 = 0 ∧ b 4 = 0)
    ∨ (b 2 ≠ 3 ∧ b 2 ≠ 7 ∧ b 0 ≠ 255) ∨ (b 2 = 3 ∧ (b 0 = 0 ∨ 60 < b 0))
    ∨ (b 2 = 1 ∧ (data.length ≠ 17 + b 16 ∨ 12 < b 16 ∨ ListWrong (segs 17) ∨ b 5 = 0 ∨ 240 < b 5 ∨ 1 < b 8
        ∨ b 9 = 0 ∨ 3 < b 9 ∨ 3 < b 12 ∨ 240 < b 13))
    ∨ (b 2 = 2 ∧ (data.length ≠ 11 + b 10 ∨ b 10 = 0 ∨ 8 < b 10 ∨ ListWrong (segs 11) ∨ b 6 = 0 ∨ 2 < b 6 ∨ 3 < b 7))
    ∨ (b 2 = 3 ∧ (data.length ≠ 10 ∨ b 6 = 0 ∨ 240 < b 6 ∨ b 7 = 0 ∨ 4 < b 7 ∨ 240 < b 8 ∨ 3 < b 9))
    ∨ (b 2 = 4 ∧ data.length ≠ 6)
    ∨ (b 2 = 5 ∧ (data.length ≠ 6 + b 5 ∨ b 5 = 0 ∨ 12 < b 5 ∨ ListWrong (segs 6)))
    ∨ (b 2 = 6 ∧ (data.length ≠ 6 + b 5 ∨ b 5 = 0 ∨ 8 < b 5 ∨ ListWrong (segs 6)))
    ∨ (b 2 = 7 ∧ (data.length ≠ 6 + b 5 ∨ b 5 = 0 ∨ 32 < b 5))

end Sys2Proof.Safety
end

