-- ==== Sys2Proof/Certificates/Slice0/Obligations.lean ====
section
/-! DEFINITION. The statements about the part, for the provers: the step, the invariants, the host port and its
commands, the events of pins, clocks and lane line. "log <n>" is notes/assumptions/<n>.md. -/

section

open Sys2Proof Sys2Proof.Machine Sys2Proof.Safety

/-! ## The step -/

/-- A step runs the command at the front of the queue on the state with the queue's rest. -/
def Obligations.StepRunsTheFrontCommand : Prop :=
  ∀ (c : Instr) (rest : List Instr) (s : State), s.pending = c :: rest → step s = exec c (s.setPending rest)

/-- With nothing pending a step is one ms of the clock and queues what has come due (the model's choice, log 2): outside
SETUP every running timer has one ms less left, and the age of a HELD or STALE cache entry counts up by one, a HELD
entry past the staleness limit becoming STALE (R123). No command changes the queue of commands that wait. -/
def Obligations.OnlyTheIdleStepFillsTheQueue : Prop :=
  (∀ s : State, s.pending = [] →
    ∃ t, step s = .next t ∧ t.notice.now = (s.notice.now + 1) % 2 ^ 32 ∧ t.phase = (s.phase + 1) % 10
      ∧ t.pending = t.due ∧ t.control.state = s.control.state ∧ t.motion = s.motion ∧ t.orders = s.orders
      ∧ t.pos = s.pos ∧ t.resp = s.resp ∧ t.port = s.port ∧ t.params = s.params ∧ t.claim.held = s.claim.held
      ∧ (s.control.state = .setup →
          t.control = s.control ∧ t.line = s.line ∧ t.claim = s.claim ∧ t.cache = s.cache ∧ t.lift = s.lift)
      ∧ (s.control.state ≠ .setup →
          t.control = { s.control with joinTimer := s.control.joinTimer.map (fun n => n - 1) }
          ∧ t.line = { s.line with beaconTimer := s.line.beaconTimer.map (fun n => n - 1) }
          ∧ t.claim = { s.claim with
              retryTimer := s.claim.retryTimer.map (fun n => n - 1)
              record := { s.claim.record with
                windowTimer := s.claim.record.windowTimer.map (fun n => n - 1)
                contestTimer := s.claim.record.contestTimer.map (fun n => n - 1)
                holdoff := s.claim.record.holdoff.map (fun h => { h with timer := h.timer.map (fun n => n - 1) }) } }
          ∧ t.lift = { s.lift with timer := s.lift.timer.map (fun n => n - 1) }
          ∧ t.cache.full = s.cache.full ∧ t.cache.refused = s.cache.refused
          ∧ (∀ k, Table.find s.cache.ways k = none → Table.find t.cache.ways k = none)
          ∧ ∀ k e, Table.find s.cache.ways k = some e →
              (e.status = .none → Table.find t.cache.ways k = some e)
              ∧ (e.status = .stale → Table.find t.cache.ways k = some { e with age := min 65535 (e.age + 1) })
              ∧ (e.status = .held → min 65535 (e.age + 1) ≤ s.params.staleness →
                  Table.find t.cache.ways k = some { e with age := min 65535 (e.age + 1) })
              ∧ (e.status = .held → s.params.staleness < min 65535 (e.age + 1) →
                  Table.find t.cache.ways k = some { e with age := min 65535 (e.age + 1), status := .stale })))
  ∧ ∀ (c : Instr) (s t : State), exec c s = .next t → t.pending = s.pending

/-- R21: POWER_ON_RESET puts every block at its power-on values, whatever the state was; the lift state is read from the
sensors (R167). The input levels and the queue of commands stay, the model's choice (log 10). -/
def Obligations.PowerOnResetClearsEverything : Prop :=
  ∀ s : State, ∃ t, exec .powerOnReset s = .next t
    ∧ t.control = { state := .setup, number := 0, group1 := ⟨0, 0⟩, group2 := ⟨0, 0⟩, causes := [], joinTimer := none }
    ∧ t.params =
        { carrierLength := 4200, standOff := 150, margin := 500, reaction := 250, acceleration := 250,
          maxSpeed := 1000, pulsePitch := 1250, tolerance := 150, beaconPeriod := 500, window := 40,
          staleness := 2500, waitLimit := 30, liftTimeout := 8 }
    ∧ t.pos.map = [] ∧ t.pos.edition = 1 ∧ t.pos.windows = Vector.replicate 8 ⟨65535, 0, 1⟩ ∧ t.pos.centre = none
    ∧ t.pos.unmapped = [] ∧ t.pos.expected = none ∧ t.pos.misses = 0 ∧ t.pos.pulses = 0
    ∧ t.line.receiver = .off ∧ t.line.transmitter = .off ∧ t.line.rx = [] ∧ t.line.tx = []
    ∧ t.line.discards = 0 ∧ t.line.degraded = false ∧ t.line.beaconTimer = none ∧ t.line.abortBits = []
    ∧ t.line.counters = ⟨0, 0, 0, 0, 0, 0, 0, 0, 0, 0, 0, 0⟩
    ∧ t.claim.held = [] ∧ t.claim.record.state = .idle ∧ t.claim.record.segs = []
    ∧ t.claim.record.windowTimer = none ∧ t.claim.record.contestTimer = none ∧ t.claim.record.holdoff = none
    ∧ t.claim.counter = 0 ∧ t.claim.waited = 0 ∧ t.claim.waitedSeg = none ∧ t.claim.waitedTag = none
    ∧ t.claim.removal = none ∧ t.claim.retryTimer = none ∧ t.claim.enquiries = [] ∧ t.claim.peerWait = none
    ∧ t.claim.reports = [] ∧ t.claim.waitLimitYield = false ∧ t.claim.expired = false
    ∧ t.resp.conflicts = [] ∧ t.resp.overflow = false ∧ t.resp.editionMarks = [] ∧ t.resp.duplicate = false
    ∧ (∀ k, Table.find t.cache.ways k = none) ∧ t.cache.full = 0 ∧ t.cache.refused = 0
    ∧ t.orders.list = [] ∧ t.orders.effective = .heavy ∧ t.orders.cancelMark = none
    ∧ t.driveCommand = .emergency ∧ t.motion.commanded = 0 ∧ t.spd = 0 ∧ t.motion.measured = 0
    ∧ t.motion.requests = [] ∧ t.motion.stopZero = 0 ∧ t.motion.latch = .none ∧ t.motion.stall = 0
    ∧ t.motion.overrunMark = false ∧ t.motion.reversalPending = false ∧ t.motion.figures = none
    ∧ t.lift.state =
        (if s.pins.sup = true ∧ s.pins.sdn = false then .up
         else if s.pins.sdn = true ∧ s.pins.sup = false then .down else .jammed)
    ∧ t.lift.timer = none ∧ t.lift.operation = none ∧ t.lift.measured = none
    ∧ t.port.slot = .empty ∧ t.port.overwritten = 0 ∧ t.port.discarded = 0 ∧ t.port.framing = 0
    ∧ t.notice.queue = [] ∧ t.notice.disabled = [] ∧ t.notice.lost = 0 ∧ t.notice.threshold = 2
    ∧ t.notice.trigger = 8 ∧ t.notice.fault = none ∧ t.notice.now = 0 ∧ t.tick.notice.now = 1
    ∧ t.pins = s.pins ∧ t.pending = s.pending

/-! ## Invariants -/

/-- The invariants below hold in the state after reset. -/
def Obligations.InvariantsHoldAtReset : Prop :=
  QueuesBounded State.reset ∧ CountersFit State.reset ∧ ParamsInRange State.reset.params
    ∧ HeldListSound State.reset ∧ StationInvariant State.reset ∧ PositionSound State.reset.pos
    ∧ CacheSound State.reset.cache ∧ TablesSorted State.reset ∧ OwnTrackUncached State.reset
    ∧ OccupiedFirst State.reset.claim.held ∧ SpeedCapped State.reset

/-- R42, R44 to R46, R95, R187: no queue outgrows its capacity; R11, R55, R64, R84, R115, R129, R150, R175, R186, R187,
R191: counters stop at their top values, with every parameter in its range (R184). -/
def Obligations.QueuesAndCountersStayBounded : Prop :=
  (∀ s t : State, QueuesBounded s → step s = .next t → QueuesBounded t)
  ∧ ∀ s t : State, CountersFit s → ParamsInRange s.params → step s = .next t → CountersFit t

/-- R25, R26, R63, R131, R143, R151: the station state with the orders, the claim record and the motion it allows. -/
def Obligations.StationStaysSound : Prop :=
  ∀ s t : State, StationInvariant s → step s = .next t → StationInvariant t

/-- R59, R63, R67, R153: the held list and the pending claim never name a segment twice, nor more than twelve. -/
def Obligations.HeldListStaysSound : Prop :=
  ∀ s t : State, HeldListSound s → step s = .next t → HeldListSound t

/-- R3, R16: the miss count, the expected marker and the edition stay as the rules say; R184, R185: every parameter
stays in its range, the staleness limit at least twice the beacon period; and every table by number stays sorted, so
that equal tables are equal data. -/
def Obligations.ParametersPositionAndTablesStaySound : Prop :=
  (∀ s t : State, ParamsInRange s.params → step s = .next t → ParamsInRange t.params)
  ∧ (∀ s t : State, PositionSound s.pos → step s = .next t → PositionSound t.pos)
  ∧ ∀ s t : State, TablesSorted s → step s = .next t → TablesSorted t

/-- R122: no cache entry comes to name a segment of the own held list as held by another station; R59: the OCCUPIED
entries stay the rear part of the held list at every command but the two that move the body; of CONTROL_STEP and TAG_READ
it is stated for their entry events alone, on a run that holds the held list in its order. -/
def Obligations.HeldTrackIsUncachedAndOccupiedFirst : Prop :=
  (∀ s t : State, HeldListSound s → CacheSound s.cache → OwnTrackUncached s → step s = .next t → OwnTrackUncached t)
  ∧ (∀ (c : Instr) (s t : State), (∀ obst loadc, c ≠ .controlStep obst loadc) → (∀ code, c ≠ .tagRead code) →
      OccupiedFirst s.claim.held → exec c s = .next t → OccupiedFirst t.claim.held)
  ∧ ∀ (s : State) (before after : List Nat), OccupiedFirst s.claim.held →
      s.layout.map Placed.seg = before ++ (heldSegs s.claim.held ++ after) → (s.layout.map Placed.seg).Nodup →
      OccupiedFirst s.entryEvents.claim.held

/-- R141: the commanded speed never exceeds the maximum speed parameter nor the cap of the ACTIVE order. -/
def Obligations.SpeedStaysWithinItsCaps : Prop :=
  ∀ s t : State, StationInvariant s → SpeedCapped s → step s = .next t → SpeedCapped t

/-- R115, R124: every cache entry stays in its set, alone for its segment, and no set has more than three pinned. -/
def Obligations.CacheStaysSound : Prop :=
  ∀ s t : State, CacheSound s.cache → step s = .next t → CacheSound t.cache

/-! ## What no command changes -/

/-- R3, R6, R22, R184: outside SETUP the configuration is fixed until power-on reset or the next SETUP. -/
def Obligations.ConfigurationHoldsOutsideSetup : Prop :=
  ∀ (c : Instr) (s t : State), c ≠ .powerOnReset → s.control.state ≠ .setup → exec c s = .next t →
    ConfigurationKept s t

/-- R191: a captured fault stands against every command but CLEAR_FAULT_RECORD and power-on reset. -/
def Obligations.CapturedFaultStands : Prop :=
  ∀ (c : Instr) (s t : State) (r : FaultRecord), s.notice.fault = some r → r.further ≤ 255 →
    c ≠ .powerOnReset → (∀ args, c ≠ .clearFaultRecord args) → exec c s = .next t →
    ∃ q, t.notice.fault = some q ∧ SameCapture r q ∧ r.further ≤ q.further ∧ (r.overflow = true → q.overflow = true)

/-! ## The host port -/

/-- R175 to R177: a command transaction sends the status byte and zeros and is discarded, refused for framing, or taken; a
read transaction sends the status byte and the reply as it stood at assertion, and empties the slot when all of it was
clocked out. -/
def Obligations.TransactionsAreJudged : Prop :=
  (∀ (hdi : List Bool) (began : Bool) (s : State) (first : Byte) (rest : List Byte),
    wholeBytes hdi = first :: rest → first ≠ 0 →
    ∃ p, exec (.commandTransaction hdi began) s = .next (s.setPort p)
      ∧ (∃ status, p.hdo = status :: List.replicate rest.length 0
          ∧ (s.port.slot = .empty → status = 0) ∧ (∀ c, s.port.slot = .pending c → status = 1)
          ∧ (∀ r, s.port.slot = .full r → status = if began = true then 1 else 2))
      ∧ (∀ c, s.port.slot = .pending c → p.slot = s.port.slot ∧ p.discarded = inc16 s.port.discarded
          ∧ p.framing = s.port.framing ∧ p.overwritten = s.port.overwritten)
      ∧ ((∀ c, s.port.slot ≠ .pending c) → ∀ n args, rest = n :: args → n.toNat ≤ args.length →
          p.slot = .pending ⟨first.toNat, args.take n.toNat, s.line.rx.length, s.port.slot.unread⟩
          ∧ p.discarded = s.port.discarded ∧ p.framing = s.port.framing ∧ p.overwritten = s.port.overwritten)
      ∧ ((∀ c, s.port.slot ≠ .pending c) → (∀ n args, rest = n :: args → args.length < n.toNat) →
          p.slot = .full ⟨first.toNat, .refusedArgument, [3]⟩ ∧ p.framing = inc16 s.port.framing
          ∧ p.discarded = s.port.discarded
          ∧ p.overwritten = if s.port.slot.unread then inc16 s.port.overwritten else s.port.overwritten))
  ∧ (∀ (hdi : List Bool) (began : Bool) (s : State) (rest : List Byte), wholeBytes hdi = 0 :: rest →
    ∃ p, exec (.readTransaction hdi began) s = .next (s.setPort p)
      ∧ p.discarded = s.port.discarded ∧ p.framing = s.port.framing ∧ p.overwritten = s.port.overwritten
      ∧ (∀ r, s.port.slot = .full r → began = false →
          p.hdo = 2 :: (r.envelope ++ List.replicate (rest.length + 1) 0).take rest.length
          ∧ p.slot = if r.envelope.length ≤ rest.length then .empty else .full r)
      ∧ (∀ r, s.port.slot = .full r → began = true →
          p.hdo = 1 :: List.replicate rest.length 0 ∧ p.slot = .full r)
      ∧ (s.port.slot = .empty → p.hdo = 0 :: List.replicate rest.length 0 ∧ p.slot = .empty)
      ∧ (∀ c, s.port.slot = .pending c → p.hdo = 1 :: List.replicate rest.length 0 ∧ p.slot = .pending c))

/-- R178: a command that waits is executed on the state that the frames before it leave, and its reply placed; the slot
becomes FULL, and an unread reply it replaces is counted. With none waiting, the row takes the command itself, after the
frames in the buffer, and while one waits the row of another command leaves the state as it is (the model's choices, log
4). -/
def Obligations.CommandsAreAnsweredInTurn : Prop :=
  (∀ (s : State) (c : TakenCommand), s.port.slot = .pending c → c.kind ≠ 0 → c.kind < 256 →
    ∃ t r, exec (commandRow c.kind c.args) s = .next t ∧ t.port.slot = .full r ∧ r.kind = c.kind
      ∧ t.port.overwritten = if c.overwrites then inc16 s.port.overwritten else s.port.overwritten)
  ∧ ((∀ (s : State) (kind : Nat) (args : List Byte),
    (∀ c, s.port.slot = .pending c → c.kind = kind → c.args = args →
      s.executing kind args = some (State.takeFrames c.framesAhead s))
    ∧ ((∀ c, s.port.slot ≠ .pending c) →
      s.executing kind args = some (State.takeFrames s.line.rx.length (s.takeCommand kind args))))
  ∧ ∀ (s : State) (c : TakenCommand) (kind : Nat) (args : List Byte), s.port.slot = .pending c → kind < 256 →
    ¬(kind = c.kind ∧ args = c.args) → exec (commandRow kind args) s = .next s)

/-- R179, checks 1 to 3: an unknown kind (the row UNKNOWN_COMMAND), a wrong argument length and a wrong station state
are refused with no change of state. The argument lengths of kinds 2, 4, 5, 16, 21, 35, 36, 38 and 42 rest on sizes that R57
does not give (argumentLength): they, and so the refusals for LENGTH of these kinds, are the model's choice (log 20). -/
def Obligations.ChecksRefuseWithNoChange : Prop :=
  ∀ (s u : State) (kind : Nat) (args : List Byte), kind ≠ 0 → kind < 256 → s.executing kind args = some u →
    (hostKinds.contains kind = false →
      exec (commandRow kind args) s = .next (u.placeReply ⟨kind, .refusedArgument, [1]⟩))
    ∧ (∀ n, hostKinds.contains kind = true → argumentLength kind args = some n → args.length ≠ n →
      exec (commandRow kind args) s = .next (u.placeReply ⟨kind, .refusedArgument, [2]⟩))
    ∧ (∀ n, hostKinds.contains kind = true → argumentLength kind args = some n → args.length = n →
      takenIn kind u.control.state = false →
      exec (commandRow kind args) s = .next (u.placeReply ⟨kind, .refusedState, []⟩))

/-! ## Configuration commands -/

/-- R184, R185: SET_PARAMETER clamps and stores, each number its own parameter; the two coupled parameters keep the
staleness limit at least twice the beacon period; a number outside 1..13 is refused with reason PARAMETER. The parameter
number as one byte is the model's choice, in the arguments (log 20) and in the replies (log 18, with the value there as two
bytes). -/
def Obligations.SetParameterClampsAndStores : Prop :=
  (List.range 15).map paramRange
      = [none, some (2000, 6000), some (100, 1000), some (200, 2000), some (100, 500), some (100, 600),
         some (100, 1500), some (100, 5000), some (50, 500), some (250, 2000), some (20, 100), some (1000, 10000),
         some (5, 120), some (2, 20), none]
  ∧ (∀ (p : Params) (v : Nat),
      p.set 1 v = { p with carrierLength := v } ∧ p.set 2 v = { p with standOff := v }
      ∧ p.set 3 v = { p with margin := v } ∧ p.set 4 v = { p with reaction := v }
      ∧ p.set 5 v = { p with acceleration := v } ∧ p.set 6 v = { p with maxSpeed := v }
      ∧ p.set 7 v = { p with pulsePitch := v } ∧ p.set 8 v = { p with tolerance := v }
      ∧ p.set 9 v = { p with beaconPeriod := v } ∧ p.set 10 v = { p with window := v }
      ∧ p.set 11 v = { p with staleness := v } ∧ p.set 12 v = { p with waitLimit := v }
      ∧ p.set 13 v = { p with liftTimeout := v })
  ∧ ∀ (s u : State) (p v0 v1 : Byte), s.executing 2 [p, v0, v1] = some u → u.control.state = .setup →
    (13 < p.toNat ∨ p.toNat = 0 →
      exec (.setParameter [p, v0, v1]) s = .next (u.placeReply ⟨2, .refusedArgument, [13]⟩))
    ∧ ∀ lo hi v, paramRange p.toNat = some (lo, hi) → v = v0.toNat + 256 * v1.toNat →
      (p.toNat ≠ 9 → p.toNat ≠ 11 →
        exec (.setParameter [p, v0, v1]) s
          = .next ((u.setParams (u.params.set p.toNat (min hi (max lo v)))).placeReply
              ⟨2, if lo ≤ v ∧ v ≤ hi then .done else .clamped, p :: bytes2 (min hi (max lo v))⟩))
      ∧ (p.toNat = 11 →
        exec (.setParameter [p, v0, v1]) s
          = .next ((u.setParams
                { u.params with staleness := max (min hi (max lo v)) (2 * u.params.beaconPeriod) }).placeReply
              ⟨2, if max (min hi (max lo v)) (2 * u.params.beaconPeriod) = v then .done else .clamped,
                p :: bytes2 (max (min hi (max lo v)) (2 * u.params.beaconPeriod))⟩))
      ∧ (p.toNat = 9 → 2 * min hi (max lo v) ≤ u.params.staleness →
        exec (.setParameter [p, v0, v1]) s
          = .next ((u.setParams { u.params with beaconPeriod := min hi (max lo v) }).placeReply
              ⟨2, if lo ≤ v ∧ v ≤ hi then .done else .clamped, p :: bytes2 (min hi (max lo v))⟩))
      ∧ (p.toNat = 9 → u.params.staleness < 2 * min hi (max lo v) →
        exec (.setParameter [p, v0, v1]) s
          = .next ((u.setParams
                { u.params with
                  beaconPeriod := min hi (max lo v), staleness := 2 * min hi (max lo v) }).placeReply
              ⟨2, .clamped, p :: (bytes2 (min hi (max lo v)) ++ 11 :: bytes2 (2 * min hi (max lo v)))⟩))

/-- R1: LOAD_SEGMENT writes the record of a segment, clamped; arguments that fail a check are refused with the number of
the first failed check in the order listed, and nothing is written. That the checks count from 1 and the
number takes one byte is the model's choice (log 18). -/
def Obligations.LoadSegmentWritesTheRecord : Prop :=
  (∀ (s u : State) (args : List Byte) (a : SegmentArgs), s.executing 3 args = some u → u.control.state = .setup →
    readSegment args = some a → 1 ≤ a.number → a.number ≤ 240 → a.kind < 4 →
    a.aLinks.length ≤ 2 → a.bLinks.length ≤ 2 →
    (∀ l ∈ a.aLinks ++ a.bLinks, 1 ≤ l.1 ∧ l.1 ≤ 240 ∧ l.2 < 2 ∧ l.1 ≠ a.number) →
    (a.aLinks.map Prod.fst).Nodup → (a.bLinks.map Prod.fst).Nodup →
    ∃ g, exec (.loadSegment args) s
        = .next ((u.setPos { u.pos with map := Table.insert u.pos.map a.number g }).placeReply
            (if 500 ≤ a.length ∧ a.length ≤ 12000 ∧ 100 ≤ a.cap ∧ a.cap ≤ 1500 then ⟨3, .done, []⟩
             else ⟨3, .clamped, bytes2 g.length ++ bytes2 g.cap⟩))
      ∧ g.length = min 12000 (max 500 a.length) ∧ g.cap = min 1500 (max 100 a.cap) ∧ g.kind.code = a.kind
      ∧ g.aLinks.map (fun l => (l.seg, l.far.code)) = a.aLinks
      ∧ g.bLinks.map (fun l => (l.seg, l.far.code)) = a.bLinks)
  ∧ ∀ (s u : State) (args : List Byte) (a : SegmentArgs) (n : Nat), s.executing 3 args = some u →
    u.control.state = .setup → readSegment args = some a → 1 ≤ n → n ≤ 6 → ¬SegmentCheck a n →
    (∀ m, 1 ≤ m → m < n → SegmentCheck a m) →
    exec (.loadSegment args) s = .next (u.placeReply ⟨3, .refusedArgument, [BitVec.ofNat 8 n]⟩)

/-- R22: SET_STATION; R6: LOAD_TAG_WINDOW writes one of the eight windows; R3: SET_EDITION sets the edition, an edition
0 becoming 1. The window index as one byte and the edition as two are the model's choice, in the arguments (log 20) and the
edition in the reply too (log 18). -/
def Obligations.StationWindowsAndEditionAreSet : Prop :=
  (∀ (s u : State) (n v1 m1 v2 m2 : Byte), s.executing 1 [n, v1, m1, v2, m2] = some u → u.control.state = .setup →
    (1 ≤ n.toNat ∧ n.toNat ≤ 60 →
      exec (.setStation [n, v1, m1, v2, m2]) s
        = .next ((u.setControl { u.control with number := n.toNat, group1 := ⟨v1, m1⟩, group2 := ⟨v2, m2⟩ }).placeReply
            ⟨1, .done, []⟩))
    ∧ (¬(1 ≤ n.toNat ∧ n.toNat ≤ 60) →
      exec (.setStation [n, v1, m1, v2, m2]) s = .next (u.placeReply ⟨1, .refusedArgument, []⟩)))
  ∧ (∀ (s u : State) (i f0 f1 l0 l1 b : Byte), s.executing 4 [i, f0, f1, l0, l1, b] = some u →
    u.control.state = .setup →
    (∀ h : i.toNat < 8, 1 ≤ b.toNat → b.toNat ≤ 240 →
      exec (.loadTagWindow [i, f0, f1, l0, l1, b]) s
        = .next ((u.setPos
              { u.pos with
                windows := u.pos.windows.set i.toNat
                  ⟨f0.toNat + 256 * f1.toNat, l0.toNat + 256 * l1.toNat, b.toNat⟩ h }).placeReply ⟨4, .done, []⟩))
    ∧ (8 ≤ i.toNat ∨ b.toNat = 0 ∨ 240 < b.toNat →
      exec (.loadTagWindow [i, f0, f1, l0, l1, b]) s = .next (u.placeReply ⟨4, .refusedArgument, []⟩)))
  ∧ (∀ (s u : State) (e0 e1 : Byte), s.executing 5 [e0, e1] = some u → u.control.state = .setup →
    exec (.setEdition [e0, e1]) s
      = .next ((u.setPos { u.pos with edition := max 1 (e0.toNat + 256 * e1.toNat) }).placeReply
          (if e0.toNat + 256 * e1.toNat = 0 then ⟨5, .clamped, [1, 0]⟩ else ⟨5, .done, []⟩)))

/-- R9, R18, R24: an accepted START. R4, R9, R18, R23: what refuses START, in the order of its checks, with no change of
state; the segment named with BODY_SPAN is the model's reading (log 17). -/
def Obligations.StartIsCheckedAndEntersJoining : Prop :=
  (∀ (s u : State) (seg o0 o1 d : Byte) (g : Segment) (dir : Direction) (run : List Nat),
    s.executing 6 [seg, o0, o1, d] = some u → u.control.state = .setup →
    1 ≤ u.control.number → u.control.number ≤ 60 → mapFault u.pos.map = none →
    Table.find u.pos.map seg.toNat = some g → dir.code = d.toNat → o0.toNat + 256 * o1.toNat ≤ g.length →
    occupiedRun u.pos.map seg.toNat (o0.toNat + 256 * o1.toNat) dir ((u.params.carrierLength + 1) / 2)
      = .entered run →
    ∃ t, exec (.start [seg, o0, o1, d]) s = .next t
      ∧ t.control.state = .joining ∧ t.control.joinTimer = some u.params.staleness
      ∧ t.pos.centre = some ⟨seg.toNat, 1000 * (o0.toNat + 256 * o1.toNat), dir⟩
      ∧ t.pos.misses = 0 ∧ t.pos.pulses = 0 ∧ t.pos.unmapped = []
      ∧ t.claim.held = run.map (fun n => ⟨n, .occupied⟩) ∧ t.claim.record.state = .idle
      ∧ t.claim.counter = u.claim.counter ∧ t.claim.waited = 0 ∧ t.claim.reports = [] ∧ t.claim.enquiries = []
      ∧ t.motion.commanded = 0 ∧ t.motion.measured = 0
      ∧ t.line.receiver = .fresh ∧ t.line.transmitter = .idle ∧ t.line.rx = []
      ∧ t.line.tx = [⟨255, .beacon, 0, false, false⟩] ∧ t.line.beaconTimer = some u.params.beaconPeriod
      ∧ t.line.counters = u.line.counters ∧ t.notice.now = 0
      ∧ t.port.slot = .full ⟨6, .done, []⟩ ∧ ConfigurationKept u t
      ∧ (RoomFor u.notice .stateChanged 1 →
          t.notice.queue = u.notice.queue ++ [{ Notice.plain .stateChanged 0 with detail := some 256 }]))
  ∧ ∀ (s u : State) (seg o0 o1 d : Byte), s.executing 6 [seg, o0, o1, d] = some u → u.control.state = .setup →
    (u.control.number = 0 ∨ 60 < u.control.number →
      exec (.start [seg, o0, o1, d]) s = .next (u.placeReply ⟨6, .refusedState, [4]⟩))
    ∧ (1 ≤ u.control.number → u.control.number ≤ 60 →
      (∀ n e f, mapFault u.pos.map = some (n, e, f) →
        exec (.start [seg, o0, o1, d]) s
          = .next (u.placeReply
              ⟨6, .refusedArgument,
                [5, BitVec.ofNat 8 n, (match e with | some x => BitVec.ofNat 8 x.code | none => 255),
                  BitVec.ofNat 8 f.code]⟩))
      ∧ (mapFault u.pos.map = none →
        (Table.find u.pos.map seg.toNat = none ∨ 1 < d.toNat →
          exec (.start [seg, o0, o1, d]) s = .next (u.placeReply ⟨6, .refusedArgument, [6]⟩))
        ∧ ∀ (g : Segment) (dir : Direction), Table.find u.pos.map seg.toNat = some g → dir.code = d.toNat →
          (g.length < o0.toNat + 256 * o1.toNat →
            exec (.start [seg, o0, o1, d]) s = .next (u.placeReply ⟨6, .refusedArgument, [6]⟩))
          ∧ (o0.toNat + 256 * o1.toNat ≤ g.length → ∀ n,
            occupiedRun u.pos.map seg.toNat (o0.toNat + 256 * o1.toNat) dir ((u.params.carrierLength + 1) / 2)
              = .failed n →
            exec (.start [seg, o0, o1, d]) s
              = .next (u.placeReply ⟨6, .refusedArgument, [7, BitVec.ofNat 8 n]⟩))))

/-- R4: the map check passes exactly the maps whose segments all pass it, and otherwise names the first segment that does
not, with its first fault. R18: the occupied run is the one found by walking from the centre to the front and to the
rear, each walk as long as the half-length and no longer, without a segment entered twice and of at most 12 segments; that
a walk which ends exactly at a segment end enters no further segment is the model's choice (log 17). -/
def Obligations.MapCheckAndOccupiedRunAreExact : Prop :=
  (∀ map : Table Segment, mapFault map = none ↔ ∀ e ∈ map, SegmentSound map e.1 e.2)
  ∧ (∀ (map : Table Segment) (n : Nat) (x : Option End) (f : MapFault), mapFault map = some (n, x, f) →
    ∃ before g after, map = before ++ (n, g) :: after ∧ (∀ e ∈ before, SegmentSound map e.1 e.2)
      ∧ (x = none → f = .deadEndThrough ∧ DeadEndThrough g)
      ∧ ∀ e, x = some e → ¬DeadEndThrough g ∧ (e = .b → ∀ l ∈ g.aLinks, LinkMirrored map n .a l)
          ∧ ∃ front l rest, g.links e = front ++ l :: rest ∧ (∀ k ∈ front, LinkMirrored map n e k)
            ∧ ((f = .neighbourMissing ∧ Table.find map l.seg = none)
              ∨ (f = .notMirrored ∧ (Table.find map l.seg).isSome = true
                ∧ (⟨n, e⟩ : Link) ∉ linksAt map l.seg l.far)))
  ∧ ∀ (map : Table Segment) (seg offset h : Nat) (dir : Direction) (run : List Nat), offset ≤ lengthOf map seg →
    (occupiedRun map seg offset dir h = .entered run ↔
      ∃ ahead behind, run = behind.reverse ++ seg :: ahead ∧ run.Nodup ∧ run.length ≤ 12
        ∧ LinkOneWalk map seg dir.leaving ahead ∧ LinkOneWalk map seg dir.entering behind
        ∧ WalkCovers map (match dir with | .forward => lengthOf map seg - offset | .reverse => offset) h ahead
        ∧ WalkCovers map (match dir with | .forward => offset | .reverse => lengthOf map seg - offset) h behind)

/-! ## Orders -/

/-- R152 to R155: an accepted SUBMIT_ORDER without the front flag joins the queue at its tail, its speed cap and its end
offset brought into range. R155, R158, R160, R162: where an accepted front order is placed, by the state of the head; an
ACTIVE head is suspended with a service stop asked for, or removed when it carries the cancel mark. The number of orders in
the reply is one byte, the model's choice (log 18), as are the sizes of the front flag and the urgency that readOrder takes
(log 20). -/
def Obligations.AcceptedOrdersTakeTheirPlace : Prop :=
  (∀ (s u : State) (args : List Byte) (a : OrderArgs), s.executing 16 args = some u →
    u.control.state = .running ∨ u.control.state = .halted → readOrder args = some a → a.front = false →
    u.orders.list.length < 8 → u.argumentFault a = none → (∀ o ∈ u.orders.list, o.tag ≠ a.tag) →
    pathFault u.pos.map [] 0 a.path = none → (u.endBounds a.path).1 ≤ (u.endBounds a.path).2 →
    ∃ o, exec (.submitOrder args) s
        = .next ((u.setOrders { u.orders with list := u.orders.list ++ [o] }).placeReply
            (if o.cap = a.cap ∧ o.endOffset = a.endOffset then ⟨16, .done, byte (u.orders.list.length + 1)⟩
             else ⟨16, .clamped, bytes2 o.cap ++ (bytes2 o.endOffset ++ byte (u.orders.list.length + 1))⟩))
      ∧ o.tag = a.tag ∧ o.path = a.path ∧ o.endAction.code = a.endAction ∧ o.urgency = a.urgency
      ∧ loadCode o.loadClass = a.loadClass ∧ o.cap = min 1500 (max 100 a.cap)
      ∧ (o.endOffset : Int) = min (u.endBounds a.path).2 (max (u.endBounds a.path).1 a.endOffset)
      ∧ o.front = false ∧ o.state = .queued ∧ o.reason = none ∧ o.activations = 0)
  ∧ (∀ (s u : State) (args : List Byte) (a : OrderArgs), s.executing 16 args = some u → OrderQueueSound u.orders →
    u.control.state = .running ∨ u.control.state = .halted → readOrder args = some a → a.front = true →
    u.orders.list.length < 8 → u.argumentFault a = none → (∀ o ∈ u.orders.list, o.tag ≠ a.tag) →
    pathFault u.pos.map [] 0 a.path = none → (u.endBounds a.path).1 ≤ (u.endBounds a.path).2 →
    ∃ t o, exec (.submitOrder args) s = .next t ∧ o.tag = a.tag ∧ o.path = a.path ∧ o.state = .queued
      ∧ o.front = true
      ∧ (u.orders.list = [] → t.orders.list = [o])
      ∧ (∀ head rest, u.orders.list = head :: rest →
          (head.state = .queued → t.orders.list = o :: head :: rest)
          ∧ (head.state = .suspended → t.orders.list = o :: { head with reason := some .front } :: rest)
          ∧ (head.state = .finishing → t.orders.list = head :: o :: rest)
          ∧ (head.state = .active → u.orders.cancelMark ≠ some head.tag →
              t.orders.list = o :: { head with state := .suspended, reason := some .front } :: rest
              ∧ StopMember.front ∈ t.motion.requests ∧ t.claim.record.state = .idle)
          ∧ (head.state = .active → u.orders.cancelMark = some head.tag →
              t.orders.list = o :: rest ∧ t.orders.cancelMark = none)))

/-- R152 check 3: the first failing field of an order, in the order the check lists them (numbered from 0, log 18). R153:
the path check names the first offence from the first segment on, PATH_BREAK before PATH_TURN at one index (indices from
0, log 18). R154: the bounds of the end offset by the way the path crosses its last segment. -/
def Obligations.PathsAndEndPointsAreJudged : Prop :=
  (∀ (s : State) (a : OrderArgs), s.argumentFault a =
    if a.path.length = 0 ∨ 24 < a.path.length then some 0
    else if ∃ n ∈ a.path, n = 0 ∨ 240 < n ∨ Table.find s.pos.map n = none then some 1
    else if 3 < a.urgency then some 2
    else if 2 < a.loadClass then some 3
    else if 2 < a.endAction then some 4
    else none)
  ∧ (∀ (map : Table Segment) (path : List Nat),
    (pathFault map [] 0 path = none ↔ ∀ i, ¬BreaksAt map path i ∧ ¬TurnsAt map path i)
    ∧ ∀ i, (pathFault map [] 0 path = some (false, i) ↔
        BreaksAt map path i ∧ ∀ j, j < i → ¬BreaksAt map path j ∧ ¬TurnsAt map path j)
      ∧ (pathFault map [] 0 path = some (true, i) ↔
        TurnsAt map path i ∧ ¬BreaksAt map path i ∧ ∀ j, j < i → ¬BreaksAt map path j ∧ ¬TurnsAt map path j))
  ∧ (∀ (s : State) (n : Nat), s.endBounds [n]
      = (((s.params.standOff + (s.params.carrierLength + 1) / 2 : Nat) : Int),
          (lengthOf s.pos.map n : Int) - ((s.params.standOff + (s.params.carrierLength + 1) / 2 : Nat) : Int)))
  ∧ ∀ (s : State) (before : List Nat) (p n : Nat) (e : End) (l : Link), linkTo s.pos.map p e n = some l →
      ¬HasLink s.pos.map p e.other n
        ∨ (∃ q, before.getLast? = some q ∧ HasLink s.pos.map p e.other q ∧ ¬HasLink s.pos.map p e q) →
      (l.far = .a → s.endBounds (before ++ [p, n])
        = (0, (lengthOf s.pos.map n : Int) - ((s.params.standOff + (s.params.carrierLength + 1) / 2 : Nat) : Int)))
      ∧ (l.far = .b → s.endBounds (before ++ [p, n])
        = (((s.params.standOff + (s.params.carrierLength + 1) / 2 : Nat) : Int), (lengthOf s.pos.map n : Int)))

/-- R152: what SUBMIT_ORDER refuses, in the order of its checks; nothing changes. The codes of the fields and the index
base of the path are the model's choice (log 18). -/
def Obligations.SubmitOrderRefusals : Prop :=
  ∀ (s u : State) (args : List Byte) (a : OrderArgs), s.executing 16 args = some u → readOrder args = some a →
    (u.control.state = .setup ∨ u.control.state = .joining →
      exec (.submitOrder args) s = .next (u.placeReply ⟨16, .refusedState, []⟩))
    ∧ (u.control.state = .running ∨ u.control.state = .halted →
      (8 ≤ u.orders.list.length → exec (.submitOrder args) s = .next (u.placeReply ⟨16, .refusedFull, []⟩))
      ∧ (u.orders.list.length < 8 →
        (∀ n, u.argumentFault a = some n →
          exec (.submitOrder args) s = .next (u.placeReply ⟨16, .refusedArgument, [8, BitVec.ofNat 8 n]⟩))
        ∧ (u.argumentFault a = none →
          ((∃ o ∈ u.orders.list, o.tag = a.tag) →
            exec (.submitOrder args) s = .next (u.placeReply ⟨16, .refusedArgument, [9]⟩))
          ∧ ((∀ o ∈ u.orders.list, o.tag ≠ a.tag) →
            (∀ i, pathFault u.pos.map [] 0 a.path = some (false, i) →
              exec (.submitOrder args) s = .next (u.placeReply ⟨16, .refusedArgument, [10, BitVec.ofNat 8 i]⟩))
            ∧ (∀ i, pathFault u.pos.map [] 0 a.path = some (true, i) →
              exec (.submitOrder args) s = .next (u.placeReply ⟨16, .refusedArgument, [11, BitVec.ofNat 8 i]⟩))
            ∧ (pathFault u.pos.map [] 0 a.path = none → (u.endBounds a.path).2 < (u.endBounds a.path).1 →
              exec (.submitOrder args) s = .next (u.placeReply ⟨16, .refusedArgument, [12]⟩))))))

/-- R161: CANCEL_ORDER by the state of the order it names. -/
def Obligations.CancelOrderByState : Prop :=
  ∀ (s u : State) (t0 t1 : Byte), s.executing 17 [t0, t1] = some u → u.control.state ≠ .setup →
    ((∀ o ∈ u.orders.list, o.tag ≠ t0.toNat + 256 * t1.toNat) →
      exec (.cancelOrder [t0, t1]) s = .next (u.placeReply ⟨17, .refusedArgument, []⟩))
    ∧ ∀ o, u.orders.list.find? (fun x => x.tag == t0.toNat + 256 * t1.toNat) = some o →
      (o.state = .queued ∨ o.state = .suspended →
        ∃ t, exec (.cancelOrder [t0, t1]) s = .next t ∧ t.port.slot = .full ⟨17, .done, []⟩
          ∧ t.orders.list = u.orders.list.filter (fun x => x.tag != o.tag)
          ∧ t.claim = u.claim ∧ t.motion = u.motion ∧ t.line = u.line ∧ t.control = u.control
          ∧ (RoomFor u.notice .orderCancelled 1 →
              ∃ n, t.notice.queue = u.notice.queue ++ [n] ∧ n.kind = .orderCancelled ∧ n.tag = some o.tag
                ∧ n.seg = u.pos.centre.map Centre.seg ∧ n.detail = some o.state.code))
      ∧ (o.state = .active → u.orders.cancelMark ≠ some o.tag →
        ∃ t, exec (.cancelOrder [t0, t1]) s = .next t ∧ t.port.slot = .full ⟨17, .accepted, []⟩
          ∧ t.orders = { u.orders with cancelMark := some o.tag } ∧ StopMember.cancel ∈ t.motion.requests
          ∧ t.claim.record.state = .idle ∧ t.claim.held = u.claim.held)
      ∧ (o.state = .active → u.orders.cancelMark = some o.tag →
        exec (.cancelOrder [t0, t1]) s = .next (u.placeReply ⟨17, .accepted, []⟩))
      ∧ (o.state = .finishing → exec (.cancelOrder [t0, t1]) s = .next (u.placeReply ⟨17, .busy, []⟩))

/-! ## Halting, resuming, restarting -/

/-- R27: a halting cause that arrives in HALTED joins the set if it is absent and changes nothing else; with a cause of
class POSITION in the set, HALTED is left by RESTART alone, power-on reset apart. -/
def Obligations.CauseInHaltedOnlyJoinsTheSet : Prop :=
  (∀ (s : State) (now : Nat) (x : Cause), s.control.state = .halted →
    s.halt now x = s.setControl { s.control with causes := addCause s.control.causes x }
    ∧ (∀ y, y ∈ addCause s.control.causes x ↔ y = x ∨ y ∈ s.control.causes)
    ∧ (s.halt now x).control.state = .halted ∧ (s.halt now x).notice = s.notice ∧ (s.halt now x).motion = s.motion)
  ∧ ∀ (c : Instr) (s t : State) (x : Cause), s.control.state = .halted → x ∈ s.control.causes → x.class = .position →
    c ≠ .powerOnReset → (∀ args, c ≠ .restart args) → exec c s = .next t →
    t.control.state = .halted ∧ x ∈ t.control.causes

/-- R26, R29: STOP in JOINING and RUNNING halts the station; in HALTED it joins the set. R30, R144, R147: RESUME enters
RUNNING when the emergency stop is complete and no cause remains; refused, it replies with the causes that remain. -/
def Obligations.StopHaltsAndResumeRuns : Prop :=
  (∀ s u : State, s.executing 18 [] = some u → OrderQueueSound u.orders →
    (u.control.state = .joining ∨ u.control.state = .running →
      ∃ t, exec (.stop []) s = .next t ∧ t.control.state = .halted ∧ Cause.stop ∈ t.control.causes
        ∧ t.control.joinTimer = none ∧ t.motion.commanded = 0 ∧ t.motion.latch = .braking ∧ t.motion.latchZero = 0
        ∧ t.motion.requests = [] ∧ t.driveCommand = .emergency ∧ t.claim.record.state = .idle
        ∧ t.claim.waited = u.claim.waited ∧ t.claim.held = u.claim.held
        ∧ (∀ o ∈ t.orders.list, o.state ≠ .active) ∧ t.lift = u.lift
        ∧ (u.line.tx.length < 24 → t.notice.fault = u.notice.fault)
        ∧ t.port.slot = .full ⟨18, .done, []⟩)
    ∧ (u.control.state = .halted →
      exec (.stop []) s
        = .next ((u.setControl { u.control with causes := addCause u.control.causes .stop }).placeReply
            ⟨18, .done, []⟩)))
  ∧ (∀ s u : State, s.executing 19 [] = some u → u.control.state = .halted →
    (u.motion.latch ≠ .complete → exec (.resume []) s = .next (u.placeReply ⟨19, .busy, []⟩))
    ∧ (u.motion.latch = .complete →
        (∀ x ∈ u.control.causes,
          x = .stop ∨ x = .driveStall ∨ (x = .overrun ∧ ∃ d, u.authorityDistance = some d ∧ 0 ≤ d)) →
        ∃ t, exec (.resume []) s = .next t ∧ t.control.state = .running ∧ t.control.causes = []
          ∧ t.motion.commanded = 0 ∧ t.motion.latch = .none ∧ t.motion.stall = 0
          ∧ t.motion.overrunMark = u.motion.overrunMark ∧ t.motion.figures = u.motion.figures
          ∧ t.motion.reversalPending = u.motion.reversalPending ∧ t.claim = u.claim ∧ t.pos = u.pos
          ∧ t.orders = u.orders ∧ t.line = u.line ∧ t.port.slot = .full ⟨19, .done, []⟩)
    ∧ (u.motion.latch = .complete →
        (∃ x ∈ u.control.causes,
          x ≠ .stop ∧ x ≠ .driveStall ∧ (x = .overrun → ∀ d, u.authorityDistance = some d → d < 0)) →
        exec (.resume []) s
          = .next (u.placeReply
              ⟨19, .refusedState,
                causeBytes (u.control.causes.filter (fun x =>
                  match x with
                  | .stop | .driveStall => false
                  | .overrun => (match u.authorityDistance with | some d => decide (d < 0) | none => true)
                  | .positionConflict | .positionLost | .duplicateStation | .holdConflict | .obstacle => true))⟩)))

/-- R31: RESTART at measured speed 0 returns the station to SETUP and keeps its configuration, every block as its closing
table gives it; R34: one STATE_CHANGED; R35: a frame in flight is aborted; R167: the lift state is read from the
sensors. -/
def Obligations.RestartReturnsToSetup : Prop :=
  ∀ s u : State, s.executing 20 [] = some u → u.control.state ≠ .setup →
    (u.motion.measured ≠ 0 → exec (.restart []) s = .next (u.placeReply ⟨20, .refusedState, []⟩))
    ∧ (u.motion.measured = 0 →
        ∃ t, exec (.restart []) s = .next t ∧ t.control.state = .setup ∧ t.control.causes = []
          ∧ t.control.joinTimer = none ∧ ConfigurationKept u t ∧ t.pos.centre = none ∧ t.pos.expected = none
          ∧ t.pos.misses = 0 ∧ t.pos.pulses = 0 ∧ t.pos.unmapped = [] ∧ t.claim.held = []
          ∧ t.claim.record.state = .idle ∧ t.claim.record.segs = [] ∧ t.claim.record.windowTimer = none
          ∧ t.claim.record.contestTimer = none ∧ t.claim.record.holdoff = none
          ∧ t.claim.waitedSeg = none ∧ t.claim.waitedTag = none ∧ t.claim.enquiries = []
          ∧ t.claim.peerWait = none ∧ t.claim.waitLimitYield = false ∧ t.claim.expired = false
          ∧ t.claim.counter = u.claim.counter ∧ t.claim.waited = 0 ∧ t.claim.reports = []
          ∧ t.claim.removal = none ∧ t.claim.retryTimer = none ∧ t.line.receiver = .off
          ∧ t.line.transmitter = .off ∧ t.line.rx = [] ∧ t.line.tx = [] ∧ t.line.counters = .zero
          ∧ t.line.discards = 0 ∧ t.line.degraded = false ∧ t.line.beaconTimer = none
          ∧ (∀ f bits, u.line.transmitter = .sending f bits → t.line.abortBits = List.replicate 8 true)
          ∧ t.resp.conflicts = [] ∧ t.resp.overflow = false
          ∧ t.resp.editionMarks = [] ∧ t.resp.duplicate = false ∧ t.cache = ⟨[], 0, 0⟩ ∧ t.motion.commanded = 0
          ∧ t.motion.measured = 0 ∧ t.motion.requests = [] ∧ t.motion.stopZero = 0 ∧ t.driveCommand = .emergency
          ∧ t.motion.latch = .none ∧ t.motion.stall = 0 ∧ t.motion.overrunMark = false
          ∧ t.motion.reversalPending = false ∧ t.motion.figures = none ∧ t.orders.list = []
          ∧ t.orders.effective = .heavy ∧ t.orders.cancelMark = none ∧ t.lift.timer = none
          ∧ t.lift.operation = none ∧ t.lift.measured = none
          ∧ t.lift.state =
              (if u.pins.sup = true ∧ u.pins.sdn = false then .up
               else if u.pins.sdn = true ∧ u.pins.sup = false then .down else .jammed)
          ∧ t.notice.now = u.notice.now ∧ t.notice.disabled = u.notice.disabled
          ∧ t.notice.threshold = u.notice.threshold ∧ t.notice.trigger = u.notice.trigger
          ∧ (RoomFor u.notice .stateChanged 1 →
              t.notice.queue
                = u.notice.queue
                  ++ [{ Notice.plain .stateChanged u.notice.now with detail := some u.control.state.code }])
          ∧ t.notice.fault = u.notice.fault ∧ t.port.slot = .full ⟨20, .done, []⟩)

/-! ## Line, lift and station commands -/

/-- R46: SEND_RELAY queues one frame. R35, R54: LINE_RESET aborts a frame in flight and clears the line; a WITHDRAW is
queued where round 1 was sent, then a BEACON. The destination of SEND_RELAY as one byte is the model's choice (log 20). -/
def Obligations.RelaysQueueAndLineResetClears : Prop :=
  (∀ (s u : State) (d n : Byte) (payload : List Byte), s.executing 21 (d :: n :: payload) = some u →
    u.control.state ≠ .setup → payload.length = n.toNat →
    (payload.length = 0 ∨ 32 < payload.length →
      exec (.sendRelay (d :: n :: payload)) s = .next (u.placeReply ⟨21, .refusedArgument, []⟩))
    ∧ (1 ≤ payload.length → payload.length ≤ 32 →
        (6 ≤ countKind u.line.tx 7 ∨ 24 ≤ u.line.tx.length →
          exec (.sendRelay (d :: n :: payload)) s = .next (u.placeReply ⟨21, .refusedFull, []⟩))
        ∧ (countKind u.line.tx 7 < 6 → u.line.tx.length < 24 →
          exec (.sendRelay (d :: n :: payload)) s
            = .next ((u.setLine
                  { u.line with
                    tx := u.line.tx ++ [⟨d.toNat, .fixed (.relay payload), 0, false, false⟩] }).placeReply
                ⟨21, .done, []⟩))))
  ∧ (∀ s u : State, s.executing 22 [] = some u → u.control.state ≠ .setup →
    ∃ t, exec (.lineReset []) s = .next t ∧ t.control = u.control ∧ t.line.receiver = .fresh
      ∧ t.line.transmitter = .idle ∧ t.line.rx = [] ∧ t.line.discards = 0 ∧ t.line.degraded = false
      ∧ t.line.counters = .zero ∧ t.line.beaconTimer = u.line.beaconTimer
      ∧ (∀ f bits, u.line.transmitter = .sending f bits → t.line.abortBits = List.replicate 8 true)
      ∧ t.line.tx =
          (match u.claim.record.state with
            | .windowR1 | .queuedR2 | .windowR2 =>
                [⟨255, .fixed (.withdraw u.claim.record.number), 0, false, false⟩]
            | .idle | .queuedR1 | .blocked | .contested | .holdoff => [])
          ++ [⟨255, .beacon, 0, false, false⟩]
      ∧ (u.claim.record.state.isPending = true → t.claim.record.state = .idle)
      ∧ (u.claim.record.state.isPending = false → t.claim.record = u.claim.record)
      ∧ t.claim.removal = none ∧ t.claim.held = u.claim.held ∧ t.claim.waited = u.claim.waited
      ∧ t.cache = u.cache ∧ t.orders = u.orders ∧ t.pos = u.pos ∧ t.port.slot = .full ⟨22, .done, []⟩
      ∧ (RoomFor u.notice .relayDiscarded 1 → countKind u.line.tx 7 ≠ 0 →
          t.notice.queue
            = u.notice.queue
              ++ [{ Notice.plain .relayDiscarded u.notice.now with detail := some (countKind u.line.tx 7) }])
      ∧ (countKind u.line.tx 7 = 0 → t.notice = u.notice))

/-- R171 to R173: CLEAR_LIFT takes the lift state from the sensors. R164, R169 to R172: the lift reaches its end when its
sensor shows it, and jams when its timer runs out. R166: the sensor reading, and the outputs LUP and LDN, driven in RAISING
alone and in LOWERING alone. -/
def Obligations.LiftFollowsItsSensorsAndTimer : Prop :=
  (∀ s u : State, s.executing 23 [] = some u → u.control.state ≠ .setup →
    (u.lift.state ≠ .jammed → exec (.clearLift []) s = .next (u.placeReply ⟨23, .refusedState, []⟩))
    ∧ (u.lift.state = .jammed → u.pins.sup = true → u.pins.sdn = false →
        ∃ t, exec (.clearLift []) s = .next t ∧ t.lift.state = .up ∧ t.lift.measured = some u.pins.loadc
          ∧ t.orders.effective
            = (if loadCode u.orders.effective < loadCode u.pins.loadc then u.pins.loadc else u.orders.effective)
          ∧ t.orders.list = u.orders.list ∧ t.port.slot = .full ⟨23, .done, [2]⟩)
    ∧ (u.lift.state = .jammed → u.pins.sup = false → u.pins.sdn = true →
        ∃ t, exec (.clearLift []) s = .next t ∧ t.lift.state = .down ∧ t.lift.measured = none
          ∧ t.orders.effective = .empty ∧ t.orders.list = u.orders.list ∧ t.notice = u.notice
          ∧ t.port.slot = .full ⟨23, .done, [0]⟩)
    ∧ (u.lift.state = .jammed → u.pins.sup = u.pins.sdn →
        exec (.clearLift []) s = .next (u.placeReply ⟨23, .done, [4]⟩)))
  ∧ (∀ (s : State) (loadc : LoadClass) (op : LiftOperation) (o : Order), s.lift.operation = some op →
    s.orders.list.find? (fun x => x.tag == op.tag && x.state == .finishing) = some o →
    (s.lift.state = .raising →
      ∃ t, exec (.liftSensorChange true false loadc) s = .next t ∧ t.lift.state = .up ∧ t.lift.timer = none
        ∧ t.lift.operation = none ∧ t.lift.measured = some loadc
        ∧ t.orders.effective = (if loadCode s.orders.effective < loadCode loadc then loadc else s.orders.effective)
        ∧ t.orders.list = s.orders.list.filter (fun x => x.tag != op.tag)
        ∧ t.control = s.control ∧ t.motion = s.motion ∧ t.claim = s.claim)
    ∧ (s.lift.state = .lowering →
      ∃ t, exec (.liftSensorChange false true loadc) s = .next t ∧ t.lift.state = .down ∧ t.lift.timer = none
        ∧ t.lift.operation = none ∧ t.lift.measured = none ∧ t.orders.effective = .empty
        ∧ t.orders.list = s.orders.list.filter (fun x => x.tag != op.tag)
        ∧ t.control = s.control ∧ t.motion = s.motion ∧ t.claim = s.claim)
    ∧ (s.lift.state = .raising → ∀ sdn,
        exec (.liftSensorChange false sdn loadc) s
          = .next (s.setPins { s.pins with sup := false, sdn := sdn, loadc := loadc }))
    ∧ (s.lift.state = .raising ∨ s.lift.state = .lowering →
      ∃ t, exec .liftTimeout s = .next t ∧ t.lift.state = .jammed ∧ t.lift.timer = none ∧ t.lift.operation = none
        ∧ t.lift.measured = s.lift.measured ∧ t.orders.effective = s.orders.effective
        ∧ t.orders.list = s.orders.list.filter (fun x => x.tag != op.tag)
        ∧ (s.notice.fault = none → ∃ r, t.notice.fault = some r ∧ r.kind = .liftTimeout)
        ∧ (s.notice.disabled = [] → s.notice.queue.length + 2 ≤ 32 →
            (t.notice.queue.drop s.notice.queue.length).map Notice.kind = [.liftTimeout, .orderFailed])
        ∧ t.control = s.control ∧ t.claim = s.claim))
  ∧ (∀ x : LiftState, (x.outputs.1 = true ↔ x = .raising) ∧ (x.outputs.2 = true ↔ x = .lowering)
      ∧ ¬(x.outputs.1 = true ∧ x.outputs.2 = true))
  ∧ ∀ p : Pins, (p.reading = .upShown ↔ p.sup = true ∧ p.sdn = false)
      ∧ (p.reading = .downShown ↔ p.sup = false ∧ p.sdn = true) ∧ (p.reading = .neither ↔ p.sup = p.sdn)

/-- R102, R110, R128: FORGET_STATION. That a holdoff with the station ends in either phase is the model's reading (log 26),
and the number of entries freed, one byte, its choice (log 18). -/
def Obligations.ForgetStationForgetsEverything : Prop :=
  ∀ (s u : State) (n : Byte), s.executing 24 [n] = some u → u.control.state ≠ .setup →
    (¬(1 ≤ n.toNat ∧ n.toNat ≤ 60) → exec (.forgetStation [n]) s = .next (u.placeReply ⟨24, .refusedArgument, []⟩))
    ∧ (1 ≤ n.toNat → n.toNat ≤ 60 → CacheSound u.cache →
        ∃ t, exec (.forgetStation [n]) s = .next t
          ∧ (∀ k e, Table.find u.cache.ways k = some e →
              Table.find t.cache.ways k =
                if e.holder = n.toNat then
                  (if e.pins = [] then none
                   else some { e with holder := 0, mark := none, status := .none, age := 0, source := none })
                else some e)
          ∧ t.resp.conflicts = u.resp.conflicts.filter (fun p => p.station != n.toNat)
          ∧ t.resp.editionMarks = u.resp.editionMarks.filter (fun m => m != n.toNat)
          ∧ t.resp.overflow = u.resp.overflow
          ∧ (t.resp.conflicts = [] → u.resp.overflow = false → Cause.holdConflict ∉ t.control.causes)
          ∧ t.control.state = u.control.state
          ∧ Table.find t.claim.reports n.toNat = none
          ∧ (u.claim.record.waitsOn n.toNat = true → t.claim.record.state = .idle)
          ∧ t.claim.waited = u.claim.waited ∧ t.claim.held = u.claim.held
          ∧ t.port.slot
              = .full ⟨24, .done, byte (u.cache.ways.countP (fun w => w.2.holder == n.toNat))⟩)

/-! ## Queries, cache, notices, Fault Record -/

/-- R126, R181 to R183: the queries read the state and change none of it. What they return, item by item: the groups of
R181, the order records of R182 with the fields of R150, the counters of R183, the fields of R115 in the order of R126; a
set or way out of range is refused. What R57 and R58 size and code stands so; the sizes and codes they leave open are the model's choices (log 18), as are the
two-byte value of a wide figure that does not fit (log 19), the set and way of READ_CACHE_ENTRY as one argument byte each
(log 20), and the 0 that a motion figure not yet computed reads outside SETUP (log 39). -/
def Obligations.QueriesChangeNothing : Prop :=
  ∀ s u : State,
    (s.executing 32 [] = some u →
        exec (.queryStatus []) s
          = .next (u.placeReply
              ⟨32, .done,
                (byte u.control.state.code ++ causeBytes u.control.causes ++ bytes2 (u.control.joinTimer.getD 0))
                ++ (byte u.control.number
                  ++ [u.control.group1.value, u.control.group1.mask, u.control.group2.value, u.control.group2.mask]
                  ++ bytes2 u.pos.edition
                  ++ [u.params.carrierLength, u.params.standOff, u.params.margin, u.params.reaction,
                      u.params.acceleration, u.params.maxSpeed, u.params.pulsePitch, u.params.tolerance,
                      u.params.beaconPeriod, u.params.window, u.params.staleness, u.params.waitLimit,
                      u.params.liftTimeout].flatMap bytes2)
                ++ (optBytes (fun c => byte c.seg ++ bytes2 (c.offset / 1000) ++ byte c.dir.code
                      ++ bytes2 u.motion.measured) u.pos.centre
                  ++ optBytes (fun k => byte k.code)
                      (u.pos.centre.bind (fun c => (Table.find u.pos.map c.seg).map Segment.kind))
                  ++ optBytes byte (frontSeg u.layout u.half) ++ optBytes byte (rearSeg u.layout u.half)
                  ++ listBytes byte (underBody u.layout u.half)
                  ++ optBytes (fun m => byte m.seg ++ byte m.plate) u.pos.expected ++ byte u.pos.misses)
                ++ (listBytes (fun e => byte e.seg ++ byte e.mark.code) u.claim.held
                  ++ optBytes wideBytes u.motion.authority)
                ++ (byte u.claim.record.state.code ++ byte u.claim.record.number ++ listBytes byte u.claim.record.segs
                  ++ byte u.claim.record.round ++ bytes4 u.claim.record.attemptTime
                  ++ optBytes byte u.claim.record.waitSeg
                  ++ optBytes id
                      (match u.claim.record.holder with
                        | some x => some (byte x)
                        | none => u.claim.record.rival.map (fun r => byte r.station ++ optBytes byte r.number))
                  ++ bytes2
                      (match u.claim.record.windowTimer with
                        | some n => n
                        | none => u.claim.record.contestTimer.getD 0)
                  ++ bytes2 u.claim.waited ++ optBytes byte u.claim.waitedSeg ++ bytes2 (u.claim.retryTimer.getD 0))
                ++ (byte u.claim.record.waitingFor
                  ++ optBytes (fun r => byte r.waitingFor ++ byte r.urgency)
                      (match u.claim.record.holdoff with
                        | some h => Table.find u.claim.reports h.partner
                        | none => u.claim.peerWait)
                  ++ optBytes (fun h => byte h.phase.code ++ byte h.partner ++ byte h.partnerSeg
                      ++ bytes2 (h.timer.getD 0)) u.claim.record.holdoff
                  ++ byte u.claim.waitLimitYield.toNat ++ byte u.claim.expired.toNat)
                ++ (listBytes (fun p => byte p.seg ++ byte p.station) u.resp.conflicts ++ byte u.resp.overflow.toNat
                  ++ listBytes byte u.resp.editionMarks)
                ++ (byte u.driveCommand.code ++ bytes2 u.motion.commanded ++ bytes2 u.motion.measured
                  ++ (match u.motion.figures with
                      | none => List.replicate 15 0
                      | some f =>
                          wideBytes (f.dEnd.getD 0) ++ wideBytes f.v ++ wideBytes f.r ++ wideBytes f.h
                            ++ wideBytes f.lead ++ wideBytes f.hCap ++ bytes2 f.target ++ byte f.term.code)
                  ++ byte u.motion.latch.code ++ bytes2 u.motion.latchZero)
                ++ (byte (loadCode u.orders.effective) ++ byte u.lift.state.code ++ byte u.pins.reading.code
                  ++ optBytes (fun x => byte x.action.code ++ bytes2 x.tag) u.lift.operation
                  ++ optBytes (fun c => byte (loadCode c)) u.lift.measured ++ bytes2 (u.lift.timer.getD 0))
                ++ (byte u.notice.queue.length ++ byte u.notice.attn.toNat)⟩))
    ∧ (s.executing 33 [] = some u →
        exec (.queryOrders []) s
          = .next (u.placeReply
              ⟨33, .done,
                listBytes (fun o => bytes2 o.tag ++ listBytes byte o.path ++ byte o.endAction.code
                    ++ bytes2 o.endOffset ++ byte o.urgency ++ byte (loadCode o.loadClass) ++ bytes2 o.cap
                    ++ byte o.front.toNat ++ byte o.state.code ++ optBytes (fun r => byte r.code) o.reason
                    ++ byte o.activations) u.orders.list
                  ++ byte (loadCode u.orders.effective) ++ optBytes bytes2 u.orders.cancelMark⟩))
    ∧ (s.executing 34 [] = some u →
        exec (.queryCounters []) s
          = .next (u.placeReply
              ⟨34, .done,
                [u.line.counters.crcBad, u.line.counters.aborted, u.line.counters.tooLong, u.line.counters.tooShort,
                  u.line.counters.malformed, u.line.counters.noStation, u.line.counters.rxOverrun,
                  u.line.counters.framesTaken, u.line.counters.framesSent, u.line.counters.collisions,
                  u.line.counters.lineFail, u.line.counters.txDropped].flatMap bytes2
                ++ [BitVec.ofNat 8 (countKind u.line.tx 3 + countKind u.line.tx 4),
                    BitVec.ofNat 8 (countKind u.line.tx 2 + countKind u.line.tx 5),
                    BitVec.ofNat 8 (countKind u.line.tx 1 + countKind u.line.tx 6),
                    BitVec.ofNat 8 (countKind u.line.tx 7), BitVec.ofNat 8 u.line.rx.length]
                ++ [u.cache.full, u.cache.refused, u.port.overwritten, u.port.discarded, u.port.framing,
                    u.notice.lost].flatMap bytes2⟩))
    ∧ (∀ set way : Byte, set.toNat < 16 → way.toNat < 4 → s.executing 35 [set, way] = some u →
        exec (.readCacheEntry [set, way]) s
          = .next (u.placeReply
              ⟨35, .done,
                match Table.find u.cache.ways (4 * set.toNat + way.toNat) with
                | some e =>
                    [1] ++ byte e.seg ++ byte e.holder ++ optBytes (fun m => byte m.code) e.mark
                      ++ ([1] ++ byte e.status.code) ++ bytes2 e.age ++ listBytes bytes2 e.pins
                      ++ optBytes (fun x => byte x.code) e.source
                | none => [0, 0, 0, 0, 0, 0, 0, 0, 0]⟩))
    ∧ (∀ set way : Byte, 16 ≤ set.toNat ∨ 4 ≤ way.toNat → s.executing 35 [set, way] = some u →
        exec (.readCacheEntry [set, way]) s = .next (u.placeReply ⟨35, .refusedArgument, []⟩))

/-- R127: the three invalidations. A BLOCKED wait on an invalidated segment ends; an argument out of range is refused with
no change of state. The number of entries made invalid is one byte, the model's choice (log 18), as are the set and the way
in the arguments (log 20). -/
def Obligations.InvalidationsEmptyTheirWays : Prop :=
  ∀ s u : State, CacheSound u.cache →
    (∀ set way : Byte, s.executing 36 [set, way] = some u → set.toNat < 16 → way.toNat < 4 →
      ∃ t res, exec (.invalidateCacheEntry [set, way]) s = .next t ∧ t.port.slot = .full ⟨36, .done, res⟩
        ∧ (∀ k, Table.find t.cache.ways k =
            if k = 4 * set.toNat + way.toNat then none else Table.find u.cache.ways k)
        ∧ (∀ e, Table.find u.cache.ways (4 * set.toNat + way.toNat) = some e → res = [1]
            ∧ (u.claim.record.state = .blocked → u.claim.record.waitSeg = some e.seg → t.claim.record.state = .idle))
        ∧ (Table.find u.cache.ways (4 * set.toNat + way.toNat) = none → res = [0] ∧ t.claim = u.claim)
        ∧ t.cache.full = u.cache.full ∧ t.cache.refused = u.cache.refused ∧ t.claim.waited = u.claim.waited)
    ∧ (∀ seg : Byte, s.executing 37 [seg] = some u → 1 ≤ seg.toNat → seg.toNat ≤ 240 →
      ∃ t res, exec (.invalidateCacheSegment [seg]) s = .next t ∧ t.port.slot = .full ⟨37, .done, res⟩
        ∧ (∀ k, Table.find t.cache.ways k =
            (Table.find u.cache.ways k).filter (fun e => e.seg != seg.toNat))
        ∧ ((∃ w ∈ u.cache.ways, w.2.seg = seg.toNat) → res = [1]
            ∧ (u.claim.record.state = .blocked → u.claim.record.waitSeg = some seg.toNat →
                t.claim.record.state = .idle))
        ∧ ((∀ w ∈ u.cache.ways, w.2.seg ≠ seg.toNat) → res = [0] ∧ t.claim = u.claim)
        ∧ t.claim.waited = u.claim.waited)
    ∧ (∀ set : Byte, s.executing 38 [set] = some u → set.toNat < 16 →
      ∃ t, exec (.invalidateCacheSet [set]) s = .next t
        ∧ (∀ k, Table.find t.cache.ways k = if k / 4 = set.toNat then none else Table.find u.cache.ways k)
        ∧ t.port.slot
            = .full ⟨38, .done, byte (u.cache.ways.countP (fun w => decide (w.1 / 4 = set.toNat)))⟩
        ∧ (∀ w ∈ u.cache.ways, w.1 / 4 = set.toNat → u.claim.record.state = .blocked →
            u.claim.record.waitSeg = some w.2.seg → t.claim.record.state = .idle)
        ∧ ((∀ w ∈ u.cache.ways, w.1 / 4 ≠ set.toNat) → t.claim = u.claim)
        ∧ t.claim.waited = u.claim.waited)
    ∧ (∀ set way : Byte, s.executing 36 [set, way] = some u → 16 ≤ set.toNat ∨ 4 ≤ way.toNat →
      exec (.invalidateCacheEntry [set, way]) s = .next (u.placeReply ⟨36, .refusedArgument, []⟩))
    ∧ (∀ seg : Byte, s.executing 37 [seg] = some u → seg.toNat = 0 ∨ 240 < seg.toNat →
      exec (.invalidateCacheSegment [seg]) s = .next (u.placeReply ⟨37, .refusedArgument, []⟩))
    ∧ (∀ set : Byte, s.executing 38 [set] = some u → 16 ≤ set.toNat →
      exec (.invalidateCacheSet [set]) s = .next (u.placeReply ⟨38, .refusedArgument, []⟩))

/-- R187, R188: READ_NOTICES removes up to 8 notices from the head and reports a loss once at the tail. Each notice is
returned as its kind code, its class, its time stamp, five presence marks and the fields that are present, in the order
of R186; the class as one byte and the detail as two are the model's choice (log 18). -/
def Obligations.ReadNoticesDrainsTheQueue : Prop :=
  ∀ s u : State, s.executing 39 [] = some u →
    ∃ t, exec (.readNotices []) s = .next t
      ∧ t.port.slot
          = .full
              ⟨39, .done,
                byte (u.notice.queue.take 8).length
                  ++ (u.notice.queue.take 8).flatMap (fun n =>
                      byte n.kind.code ++ byte n.kind.class ++ bytes4 n.time
                        ++ byte n.tag.isSome.toNat ++ byte n.seg.isSome.toNat ++ byte n.station.isSome.toNat
                        ++ byte n.detail.isSome.toNat ++ byte n.payload.isSome.toNat
                        ++ n.tag.toList.flatMap bytes2 ++ n.seg.toList.flatMap byte
                        ++ n.station.toList.flatMap byte ++ n.detail.toList.flatMap bytes2
                        ++ n.payload.toList.flatMap (fun p => byte p.length ++ p))⟩
      ∧ (u.notice.lost = 0 ∨ u.notice.queue = [] →
          t.notice = { u.notice with queue := u.notice.queue.drop 8 })
      ∧ (u.notice.lost ≠ 0 → u.notice.queue ≠ [] →
          t.notice
            = { u.notice with
                queue := u.notice.queue.drop 8
                  ++ [{ Notice.plain .noticesLost u.notice.now with detail := some u.notice.lost }]
                lost := 0 })

/-- R189: ENABLE_NOTICES and DISABLE_NOTICES; what a disabled kind does to a raised notice and to a fault. A count of 0 or
above 25 is refused with no result bytes, the model's choice (log 24). -/
def Obligations.NoticeKindsAreEnabledAndDisabled : Prop :=
  (∀ (s u : State) (n : Byte) (codes : List Byte), codes.length = n.toNat →
    (s.executing 40 (n :: codes) = some u →
      (n.toNat = 0 ∨ 25 < n.toNat →
        exec (.enableNotices (n :: codes)) s = .next (u.placeReply ⟨40, .refusedArgument, []⟩))
      ∧ (1 ≤ n.toNat → n.toNat ≤ 25 →
        (∀ c, codes.find? (fun c => decide (c.toNat = 0 ∨ 25 < c.toNat)) = some c →
          exec (.enableNotices (n :: codes)) s = .next (u.placeReply ⟨40, .refusedArgument, [c]⟩))
        ∧ ((∀ c ∈ codes, 1 ≤ c.toNat ∧ c.toNat ≤ 25) →
          ∃ d, exec (.enableNotices (n :: codes)) s
              = .next ((u.setNotice { u.notice with disabled := d }).placeReply ⟨40, .done, []⟩)
            ∧ ∀ k : NoticeKind, k ∈ d ↔ k ∈ u.notice.disabled ∧ ∀ c ∈ codes, c.toNat ≠ k.code)))
    ∧ (s.executing 41 (n :: codes) = some u →
      (n.toNat = 0 ∨ 25 < n.toNat →
        exec (.disableNotices (n :: codes)) s = .next (u.placeReply ⟨41, .refusedArgument, []⟩))
      ∧ (1 ≤ n.toNat → n.toNat ≤ 25 →
        (∀ c, codes.find? (fun c => decide (c.toNat = 0 ∨ 25 < c.toNat ∨ c.toNat = 20)) = some c →
          exec (.disableNotices (n :: codes)) s = .next (u.placeReply ⟨41, .refusedArgument, [c]⟩))
        ∧ ((∀ c ∈ codes, 1 ≤ c.toNat ∧ c.toNat ≤ 25 ∧ c.toNat ≠ 20) →
          ∃ d, exec (.disableNotices (n :: codes)) s
              = .next ((u.setNotice { u.notice with disabled := d }).placeReply ⟨41, .done, []⟩)
            ∧ ∀ k : NoticeKind, k ∈ d ↔ k ∈ u.notice.disabled ∨ ∃ c ∈ codes, c.toNat = k.code))))
  ∧ (∀ (v : NoticeUnit) (m : Notice), m.kind ∈ v.disabled → v.raise m = v)
  ∧ (∀ (s : State) (f : FaultOffer) (d : List NoticeKind),
      ((s.setNotice { s.notice with disabled := d }).offerFault f).notice.fault = (s.offerFault f).notice.fault)

/-- R190: the attention line, and SET_ATTENTION, which clamps and stores both values. The threshold and the trigger as one
byte each are the model's choice, in the arguments (log 20) and in the reply (log 18). -/
def Obligations.AttentionFollowsTheQueue : Prop :=
  (∀ v : NoticeUnit, v.attn = true ↔
      (∃ n ∈ v.queue, v.threshold ≤ n.kind.class) ∨ v.trigger ≤ v.queue.length)
  ∧ (∀ k : NoticeKind, k.class < 4)
  ∧ ∀ (s u : State) (a b : Byte), s.executing 42 [a, b] = some u →
      exec (.setAttention [a, b]) s
        = .next ((u.setNotice
              { u.notice with threshold := min 4 a.toNat, trigger := min 32 (max 1 b.toNat) }).placeReply
            ⟨42, if a.toNat ≤ 4 ∧ 1 ≤ b.toNat ∧ b.toNat ≤ 32 then .done else .clamped,
              [BitVec.ofNat 8 (min 4 a.toNat), BitVec.ofNat 8 (min 32 (max 1 b.toNat))]⟩)

/-- R192: READ_FAULT_RECORD returns the record and changes nothing; CLEAR_FAULT_RECORD empties it and returns the kind
and the further-fault count; a fault offered after the clear is captured afresh. The further-fault count and the
record's detail are sent as two bytes each, the model's choice (log 18). -/
def Obligations.FaultRecordIsReadAndCleared : Prop :=
  ∀ s u : State,
    (s.executing 43 [] = some u →
      exec (.readFaultRecord []) s
        = .next (u.placeReply
            ⟨43, .done,
              match u.notice.fault with
              | none => [0]
              | some r =>
                  1 :: (byte r.kind.code ++ bytes4 r.time ++ byte r.centreSeg ++ bytes2 r.centreOffset
                    ++ bytes2 r.commanded ++ optBytes byte r.station ++ optBytes byte r.seg
                    ++ optBytes bytes2 r.detail ++ byte r.overflow.toNat ++ bytes2 r.further)⟩))
    ∧ (s.executing 44 [] = some u →
      exec (.clearFaultRecord []) s
        = .next ((u.setNotice { u.notice with fault := none }).placeReply
            ⟨44, .done,
              match u.notice.fault with
              | none => [0]
              | some r => 1 :: (byte r.kind.code ++ bytes2 r.further)⟩))
    ∧ (∀ f : FaultOffer, ∃ r, ((u.setNotice { u.notice with fault := none }).offerFault f).notice.fault = some r
        ∧ r.kind = f.kind ∧ r.time = f.time ∧ r.station = f.station ∧ r.seg = f.seg ∧ r.detail = f.detail
        ∧ r.commanded = u.motion.commanded ∧ r.overflow = false ∧ r.further = 0)
    ∧ (∀ (f : FaultOffer) (r : FaultRecord), u.notice.fault = some r →
        (u.offerFault f).notice.fault = some { r with overflow := true, further := min 255 (r.further + 1) })

/-! ## Pins and the control step -/

/-- R7, R8, R14 to R16: tag reads: discarded in SETUP; reported once when unmapped; a mapped read on the centre segment or
the run segment next to it, with an error of at most 4T and a snapped body that stays on held track and within the
authority limit, snaps to the plate, with a DRIFT above T; any other mapped read is a POSITION_CONFLICT naming the check
that failed, and the centre and the miss count stay. That DRIFT is raised before the snap, so that room for one notice is
room for it also where the snap raises CAP_ENTRY, is the model's choice (log 33), and so is which place of a segment that
stands on both sides of the centre is meant (log 37). -/
def Obligations.TagReadSnapsOrReports : Prop :=
  ∀ (s : State) (code : BitVec 16),
    (s.control.state = .setup → exec (.tagRead code) s = .next s)
    ∧ (s.control.state ≠ .setup →
        (∀ m, decodeTag s.pos.windows.toList code.toNat = some m → 240 < m.seg ∨ Table.find s.pos.map m.seg = none) →
        (code.toNat ∈ s.pos.unmapped → exec (.tagRead code) s = .next s)
        ∧ (code.toNat ∉ s.pos.unmapped →
            ∃ t, exec (.tagRead code) s = .next t ∧ code.toNat ∈ t.pos.unmapped
              ∧ t.pos = { s.pos with unmapped := t.pos.unmapped }
              ∧ (RoomFor s.notice .tagUnmapped 1 →
                  t.notice.queue
                    = s.notice.queue
                      ++ [{ Notice.plain .tagUnmapped s.notice.now with detail := some code.toNat }])
              ∧ t.claim = s.claim ∧ t.motion = s.motion ∧ t.control = s.control))
    ∧ (∀ m c p, s.control.state ≠ .setup → decodeTag s.pos.windows.toList code.toNat = some m → m.seg ≤ 240 →
        (Table.find s.pos.map m.seg).isSome = true → s.pos.centre = some c →
        (nearby s.pos.map s.runSegs c).find? (fun p => p.seg == m.seg) = some p →
        (p.at (1000 * plateOffset (lengthOf s.pos.map m.seg) m.plate : Nat)).natAbs ≤ 4000 * s.params.tolerance →
        s.snapFault ⟨m.seg, 1000 * plateOffset (lengthOf s.pos.map m.seg) m.plate, p.dir⟩ = none →
        ∃ t, exec (.tagRead code) s = .next t
          ∧ t.pos.centre = some ⟨m.seg, 1000 * plateOffset (lengthOf s.pos.map m.seg) m.plate, p.dir⟩
          ∧ (s.pos.misses < 2 → t.pos.misses = 0) ∧ (s.pos.misses = 2 → t.pos.misses = 2 ∧ t.pos.expected = none)
          ∧ ((p.at (1000 * plateOffset (lengthOf s.pos.map m.seg) m.plate : Nat)).natAbs
                ≤ 1000 * s.params.tolerance → ∀ n ∈ t.notice.queue, n.kind = .drift → n ∈ s.notice.queue)
          ∧ (1000 * s.params.tolerance
                < (p.at (1000 * plateOffset (lengthOf s.pos.map m.seg) m.plate : Nat)).natAbs →
              RoomFor s.notice .drift 1 →
              { Notice.plain .drift s.notice.now with
                seg := some m.seg
                detail := some
                  (((-(p.at (1000 * plateOffset (lengthOf s.pos.map m.seg) m.plate : Nat))).tdiv 1000) % 65536).toNat }
                ∈ t.notice.queue)
          ∧ t.control = s.control ∧ t.pos.map = s.pos.map ∧ t.pos.unmapped = s.pos.unmapped
          ∧ t.orders = s.orders ∧ t.cache = s.cache ∧ t.lift = s.lift)
    ∧ (∀ m c detail, s.control.state ≠ .setup → decodeTag s.pos.windows.toList code.toNat = some m → m.seg ≤ 240 →
        (Table.find s.pos.map m.seg).isSome = true → s.pos.centre = some c →
        ((nearby s.pos.map s.runSegs c).find? (fun p => p.seg == m.seg) = none ∧ detail = 2)
          ∨ (∃ p e lay, (nearby s.pos.map s.runSegs c).find? (fun p => p.seg == m.seg) = some p
              ∧ e = (p.at (1000 * plateOffset (lengthOf s.pos.map m.seg) m.plate : Nat)).natAbs
              ∧ lay = layOut s.pos.map s.runSegs
                  ⟨m.seg, 1000 * plateOffset (lengthOf s.pos.map m.seg) m.plate, p.dir⟩
              ∧ ((4000 * s.params.tolerance < e ∧ detail = 1)
                ∨ (e ≤ 4000 * s.params.tolerance ∧ (∃ q, lay.head? = some q ∧ -s.half < q.lo) ∧ detail = 3)
                ∨ (e ≤ 4000 * s.params.tolerance ∧ (∀ q, lay.head? = some q → q.lo ≤ -s.half)
                    ∧ (∃ d, authorityUm s lay = some d ∧ d < 0) ∧ detail = 4))) →
        ∃ t, exec (.tagRead code) s = .next t ∧ t.control.state = .halted
          ∧ Cause.positionConflict ∈ t.control.causes ∧ t.pos.centre = s.pos.centre ∧ t.pos.misses = s.pos.misses
          ∧ (s.notice.fault = none → ∃ r, t.notice.fault = some r ∧ r.kind = .positionConflict
              ∧ r.time = s.notice.now ∧ r.seg = some m.seg ∧ r.detail = some detail ∧ r.station = none)
          ∧ (RoomFor s.notice .positionConflict 1 →
              { Notice.plain .positionConflict s.notice.now with seg := some m.seg, detail := some detail }
                ∈ t.notice.queue)
          ∧ t.claim.held = s.claim.held ∧ t.lift = s.lift ∧ t.resp = s.resp)

/-- R11, R130: an encoder pulse counts outside SETUP; a control step outside SETUP takes the count and computes the
measured speed from it; in SETUP no step is made. The step takes the Position Unit's move first and then its items in the
order of R130, and with the hand-over the Claim Engine's own work (its order within the step, and activation judged
last, are the model's choice, log 11; that the reversal is judged once, before it is taken, and the step that takes it
drives toward 0 and judges no arrival, is its reading, log 26). R28: OBSTACLE leaves the causes when OBST is deasserted;
that a step which brings OBST deasserted is such an event is the model's choice (log 10). -/
def Obligations.PulsesAreCountedAndTaken : Prop :=
  (∀ s : State,
    (s.control.state = .setup → exec .encoderPulse s = .next s)
    ∧ (s.control.state ≠ .setup →
        exec .encoderPulse s = .next (s.setPos { s.pos with pulses := min 65535 (s.pos.pulses + 1) }))
    ∧ exec .obstDeasserted s
        = .next ((s.setPins { s.pins with obst := false }).setControl
            { s.control with causes := s.control.causes.filter (fun x => x != .obstacle) }))
  ∧ ∀ (s : State) (obst : Bool) (loadc : LoadClass),
    (s.control.state ≠ .setup →
      ∃ t, exec (.controlStep obst loadc) s = .next t ∧ t.pos.pulses = 0
        ∧ t.motion.measured = min 65535 (s.pos.pulses * s.params.pulsePitch / 10)
        ∧ t.pins = { s.pins with obst := obst, loadc := loadc } ∧ t.params = s.params ∧ t.resp = s.resp
        ∧ t.port = s.port ∧ ConfigurationKept s t)
    ∧ (s.control.state ≠ .setup → ∃ b moved read judged reversing arrived claimed,
        b = (s.setPins { s.pins with obst := obst, loadc := loadc }).setControl
            { s.control with
              causes := if obst then s.control.causes else s.control.causes.filter (fun x => x != .obstacle) }
        ∧ moved = b.positionStep s.notice.now s.pos.pulses
        ∧ read = moved.setMotion
            { moved.motion with measured := min 65535 (s.pos.pulses * s.params.pulsePitch / 10) }
        ∧ judged = ((read.latchStep s.notice.now).figuresStep s.notice.now).obstacleCheck s.notice.now
        ∧ reversing = judged.wantsReversal
        ∧ arrived = (((((judged.reversalStep s.notice.now).driveStep reversing).stallStep s.notice.now).serviceStep
            s.notice.now).arrivalStep s.notice.now reversing)
        ∧ claimed = ((((if read.claim.record.state = .holdoff then arrived
              else arrived.formClaim s.notice.now).enquiryStep s.notice.now).waitedStep.waitLimitStep
              s.notice.now).cycleStep)
        ∧ exec (.controlStep obst loadc) s
          = .next (if b.currentOrder = none ∧ b.motion.requests = [] then claimed.activationStep s.notice.now
              else claimed))
    ∧ (s.control.state = .setup →
      exec (.controlStep obst loadc) s
        = .next ((s.setPins { s.pins with obst := obst, loadc := loadc }).setControl
            { s.control with
              causes := if obst then s.control.causes else s.control.causes.filter (fun x => x != .obstacle) }))

/-- R10, R11, R12: the run is laid out link by link and segment length by segment length around the centre, and a step
moves the centre along it by the pulses counted; a centre that cannot go on stops at the end and raises POSITION_LOST
once. R16: the miss check, and the expected marker as the first plate ahead. R19, R20, R61, R62: the entry and exit
events of held segments. A centre that comes exactly to a leaving end is given in the next segment, and the run ends
where a link is missing (the model's choices, log 14, 15); so is which place of a plate the miss check takes where its
segment stands twice on the run (plateAt, log 37). -/
def Obligations.PositionStepMovesTheBody : Prop :=
  (∀ (s : State) (t pulses : Nat), s.positionStep t pulses
    = (((((s.setPos { s.pos with pulses := 0 }).reckon t (pulses * s.params.pulsePitch)).missCheck t).capEntry t
        (underBody s.layout s.half)).entryEvents).exitEvents t)
  ∧ (∀ (s : State) (c : Centre), s.pos.centre = some c →
    (∃ p ∈ s.layout, p.seg = c.seg ∧ p.dir = c.dir ∧ (c.dir = .forward → p.lo = -(c.offset : Int))
      ∧ (c.dir = .reverse → p.hi = (c.offset : Int)))
    ∧ (∀ p ∈ s.layout, p.hi = p.lo + 1000 * (lengthOf s.pos.map p.seg : Int))
    ∧ (c.seg ∈ s.runSegs → s.layout.map Placed.seg <:+: s.runSegs)
    ∧ ∀ i p q, s.layout[i]? = some p → s.layout[i + 1]? = some q → q.lo = p.hi
        ∧ ((∃ l, linkTo s.pos.map p.seg p.dir.leaving q.seg = some l ∧ q.dir = l.far.enterDir)
          ∨ ∃ l, linkTo s.pos.map q.seg q.dir.entering p.seg = some l ∧ p.dir = l.far.leaveDir))
  ∧ (∀ (s : State) (t um room : Nat) (c : Centre), s.pos.centre = some c → 0 < um →
    c.offset ≤ 1000 * lengthOf s.pos.map c.seg →
    room = (match c.dir with | .forward => 1000 * lengthOf s.pos.map c.seg - c.offset | .reverse => c.offset) →
    (um < room → s.reckon t um = s.setPos
      { s.pos with
        centre := some { c with offset := match c.dir with | .forward => c.offset + um | .reverse => c.offset - um } })
    ∧ (∀ before n after l, s.runSegs = before ++ c.seg :: n :: after → c.seg ∉ before →
        linkTo s.pos.map c.seg c.dir.leaving n = some l → room ≤ um → um - room < 1000 * lengthOf s.pos.map n →
        s.reckon t um = s.setPos
          { s.pos with
            centre := some
              { seg := n, dir := l.far.enterDir
                offset := match l.far with
                  | .a => um - room
                  | .b => 1000 * lengthOf s.pos.map n - (um - room) } })
    ∧ (∀ before, s.runSegs = before ++ [c.seg] → c.seg ∉ before → room ≤ um →
        (s.reckon t um).pos.centre = some
          { c with offset := match c.dir with | .forward => 1000 * lengthOf s.pos.map c.seg | .reverse => 0 }
        ∧ (room < um → s.pos.endLost = false → s.control.state = .joining ∨ s.control.state = .running →
            (s.reckon t um).control.state = .halted ∧ Cause.positionLost ∈ (s.reckon t um).control.causes
            ∧ (s.reckon t um).pos.misses = 2 ∧ (s.reckon t um).pos.expected = none
            ∧ (s.notice.fault = none → ∃ r, (s.reckon t um).notice.fault = some r ∧ r.kind = .positionLost
                ∧ r.seg = some c.seg))
        ∧ (room = um ∨ s.pos.endLost = true → (s.reckon t um).control = s.control)))
  ∧ (∀ s : State, s.chooseExpected.pos.expected = if s.pos.misses < 2 then plateAhead s.pos.map s.layout else none)
  ∧ (∀ s : State,
    (plateAhead s.pos.map s.layout = none → ∀ y ∈ platesOn s.pos.map s.layout, y.2 ≤ 0)
    ∧ ∀ m, plateAhead s.pos.map s.layout = some m →
        ∃ x, (m, x) ∈ platesOn s.pos.map s.layout ∧ 0 < x
          ∧ ∀ y ∈ platesOn s.pos.map s.layout, 0 < y.2 → x ≤ y.2)
  ∧ (∀ (s : State) (t : Nat) (m : Marker) (x : Int), s.pos.expected = some m →
    plateAt s.pos.map s.layout m = some x →
    (-x ≤ 2000 * (s.params.tolerance : Int) → s.missCheck t = s)
    ∧ (2000 * (s.params.tolerance : Int) < -x →
      (s.pos.misses = 0 →
        (s.missCheck t).pos
          = { s.pos with misses := 1, expected := plateAhead s.pos.map s.layout }
        ∧ (RoomFor s.notice .tagMissed 1 →
            (s.missCheck t).notice.queue
              = s.notice.queue ++ [{ Notice.plain .tagMissed t with seg := some m.seg, detail := some m.plate }]))
      ∧ (s.pos.misses = 1 →
        (s.missCheck t).pos.misses = 2 ∧ (s.missCheck t).pos.expected = none
        ∧ (s.missCheck t).pos.centre = s.pos.centre
        ∧ (s.control.state = .joining ∨ s.control.state = .running →
            (s.missCheck t).control.state = .halted ∧ Cause.positionLost ∈ (s.missCheck t).control.causes)
        ∧ (s.notice.fault = none → ∃ r, (s.missCheck t).notice.fault = some r ∧ r.kind = .positionLost
            ∧ r.seg = some m.seg))
      ∧ (s.pos.misses = 2 → s.missCheck t = s)))
  ∧ (∀ s : State, s.entryEvents = s.setClaim
      { s.claim with
        held := s.claim.held.map (fun e =>
          if ∃ p ∈ s.layout, p.seg = e.seg ∧ p.lo ≤ s.half + 1000 * (s.params.tolerance : Int)
          then { e with mark := .occupied } else e) })
  ∧ ∀ (s : State) (t : Nat) (gone : List Nat),
      gone = (heldSegs s.claim.held).filter (fun n =>
        decide (∃ p ∈ s.layout, p.seg = n ∧ p.hi < -s.half - 1000 * (s.params.tolerance : Int))) →
      (gone = [] → s.exitEvents t = s)
      ∧ (gone ≠ [] →
        (s.exitEvents t).claim
          = { s.claim with held := s.claim.held.filter (fun e => !gone.contains e.seg) }
        ∧ (s.line.tx.length < 24 →
            (s.exitEvents t).line.tx = s.line.tx ++ [⟨255, .fixed (.release gone), 0, false, false⟩]))

/-- R145: OBST asserted at a step in RUNNING halts the station; where the step's earlier items have not halted it
already, the cause is OBSTACLE. R147, R191: a stalled drive halts the station; the fault keeps the commanded speed before
the halt. The row DRIVE_STALL is taken whenever the stall timer runs (the model's choice, log 1). -/
def Obligations.ObstacleAndStallHaltTheStation : Prop :=
  (∀ (s : State) (loadc : LoadClass), s.control.state = .running → StationInvariant s →
    ∃ t, exec (.controlStep true loadc) s = .next t ∧ t.control.state = .halted ∧ t.motion.commanded = 0
      ∧ t.driveCommand = .emergency ∧ t.motion.requests = []
      ∧ (Cause.obstacle ∈ t.control.causes ∨ Cause.positionLost ∈ t.control.causes
          ∨ Cause.overrun ∈ t.control.causes))
  ∧ (∀ s : State, s.control.state = .running → 0 < s.motion.commanded → s.motion.measured = 0 →
    ∃ t, exec .driveStall s = .next t ∧ t.control.state = .halted ∧ Cause.driveStall ∈ t.control.causes
      ∧ t.motion.commanded = 0 ∧ t.motion.stall = 0 ∧ t.motion.latch = .braking ∧ t.motion.requests = []
      ∧ t.claim.record.state = .idle ∧ t.claim.held = s.claim.held
      ∧ (s.notice.fault = none → s.line.tx.length < 24 →
          ∃ r, t.notice.fault = some r ∧ r.kind = .driveStall ∧ r.commanded = s.motion.commanded
            ∧ r.time = s.notice.now ∧ r.detail = some s.motion.commanded
            ∧ r.seg = s.pos.centre.map Centre.seg ∧ r.further = 0)
      ∧ (RoomFor s.notice .driveStall 1 →
          { Notice.plain .driveStall s.notice.now with
            seg := s.pos.centre.map Centre.seg, detail := some s.motion.commanded } ∈ t.notice.queue))

/-- R139, R140: the cases in which the target of a step in RUNNING is 0 whatever the figures give, and the limited step of
the commanded speed toward the target. R141: the cap entry clamp; and a step toward the target of the step's figures
does not pass the cap of a segment under the body. R131: the drive command, SPD and BRK. R132: the rate given on BRK, set by
the class at a halt and at each control step, and kept in between (the model's reading, log 22). -/
def Obligations.CommandedSpeedMovesByTheStep : Prop :=
  (∀ (s : State) (reversal : Bool) (f : Figures), s.control.state = .running → s.motion.figures = some f →
    ∃ target, (target =
        if s.motion.requests ≠ [] ∨ s.activeOrder = none ∨ reversal = true ∨ s.lift.state = .raising
            ∨ s.lift.state = .lowering then 0 else f.target)
      ∧ (s.motion.commanded ≤ target →
          (s.driveStep reversal).motion.commanded
            = min target (s.motion.commanded + max 1 (s.params.acceleration / 100)))
      ∧ (target < s.motion.commanded →
          (s.driveStep reversal).motion.commanded
            = max target (s.motion.commanded - (serviceRate s.orders.effective + 99) / 100)))
  ∧ (∀ (s : State) (d : Option Int) (reversal : Bool) (n : Nat), s.control.state = .running →
      s.motion.figures = some (s.stepFigures d) → n ∈ underBody s.layout s.half →
      s.motion.commanded ≤ capOf s.pos.map n → (s.driveStep reversal).motion.commanded ≤ capOf s.pos.map n)
  ∧ (∀ (s : State) (t : Nat) (before new : List Nat), s.control.state = .running →
      new = (underBody s.layout s.half).filter (fun n => !before.contains n) →
      ((∀ n ∈ new, s.motion.commanded ≤ capOf s.pos.map n) → s.capEntry t before = s)
      ∧ ∀ n ∈ new, capOf s.pos.map n < s.motion.commanded →
          (∀ m ∈ new, capOf s.pos.map n ≤ capOf s.pos.map m) →
          (s.capEntry t before).motion.commanded = capOf s.pos.map n
          ∧ (RoomFor s.notice .capEntry 1 →
              ∃ m ∈ new, capOf s.pos.map m = capOf s.pos.map n
                ∧ (s.capEntry t before).notice.queue
                  = s.notice.queue
                    ++ [{ Notice.plain .capEntry t with seg := some m, detail := some s.motion.commanded }]))
  ∧ (∀ s : State,
      (s.control.state ≠ .running → s.driveCommand = .emergency ∧ s.spd = 0 ∧ s.brk = .emergency s.motion.brakeRate)
      ∧ (s.control.state = .running →
          s.driveCommand = (if s.motion.requests = [] then .run else .serviceStop)
          ∧ (0 < s.motion.commanded → s.spd = s.motion.commanded ∧ s.brk = .released)
          ∧ (s.motion.commanded = 0 → s.spd = 0 ∧ s.brk = .hold)))
  ∧ (emergencyRate .empty = 800 ∧ emergencyRate .light = 600 ∧ emergencyRate .heavy = 400)
  ∧ (∀ (s : State) (t : Nat) (x : Cause), s.control.state = .joining ∨ s.control.state = .running →
      (s.halt t x).motion.commanded = 0 ∧ (s.halt t x).spd = 0
      ∧ (s.halt t x).brk = .emergency (emergencyRate s.orders.effective))
  ∧ (∀ (s : State) (obst : Bool) (loadc : LoadClass), s.control.state ≠ .setup →
      ∃ t, exec (.controlStep obst loadc) s = .next t ∧ t.motion.brakeRate = emergencyRate s.orders.effective)
  ∧ (serviceRate .empty + 99) / 100 = 4 ∧ (serviceRate .light + 99) / 100 = 3 ∧ (serviceRate .heavy + 99) / 100 = 2
  ∧ (250 / 100 = 2 ∧ max 1 (Params.default.acceleration / 100) = 2)

/-- R60, R134 to R139: the figures of a step, with the integer square root rounded down; D_end, v_auth and v_end stand as
last computed where a step computes none; the target is the lowest of the terms that apply. D is the run distance from
the front to one stand-off short of the far end of the front-most held segment. That D, D_end (with its bound of 10 for the
creep) and the distance to a slower segment are brought to mm by rounding down is the model's choice (log 13), and so are
the places meant where a segment stands twice on the run (log 37). That a step computes neither D_end nor v_end while the last path segment is off the run is the model's choice (log 32). -/
def Obligations.StepFiguresFollowTheFormulas : Prop :=
  (∀ x < 2 ^ 32, isqrt x * isqrt x ≤ x ∧ x < (isqrt x + 1) * (isqrt x + 1))
  ∧ (∀ (p : Params) (v : Nat), reactionDist p v = (v * p.reaction + 999) / 1000)
  ∧ (∀ a v : Nat, 0 < a → brakingDist a v = (v * v + (2 * a - 1)) / (2 * a))
  ∧ (∀ s : State, s.half = 1000 * (((s.params.carrierLength + 1) / 2 : Nat) : Int)
      ∧ (s.claim.held = [] → s.authorityDistance = none)
      ∧ ∀ n p, (heldSegs s.claim.held).getLast? = some n → s.layout.find? (fun q => q.seg == n) = some p →
          s.authorityDistance = some ((p.hi - 1000 * (s.params.standOff : Int) - s.half) / 1000))
  ∧ ∀ (s : State) (d : Option Int) (f : Figures), f = s.stepFigures d →
      f.v = max s.motion.commanded s.motion.measured
      ∧ f.r = reactionDist s.params f.v
      ∧ f.h = f.r + brakingDist (serviceRate s.orders.effective) f.v + s.params.margin
      ∧ f.lead = (f.v * 2 * s.params.window + 999) / 1000
      ∧ (s.activeOrder = none → f.hCap = 0)
      ∧ (∀ o, s.activeOrder = some o →
          f.hCap = reactionDist s.params o.cap + brakingDist (serviceRate s.orders.effective) o.cap + s.params.margin)
      ∧ (s.control.state = .running →
          ∀ x, d = some x → f.vAuth = isqrt (2 * serviceRate s.orders.effective * (max 0 (x - f.r)).toNat))
      ∧ (s.control.state ≠ .running → f.vAuth = (s.motion.figures.map Figures.vAuth).getD 0)
      ∧ (s.activeOrder = none ∨ (∃ o, s.activeOrder = some o ∧ ∀ p ∈ s.layout, o.path.getLast? ≠ some p.seg) →
          f.dEnd = s.motion.figures.bind Figures.dEnd ∧ f.vEnd = s.motion.figures.bind Figures.vEnd)
      ∧ (s.control.state ≠ .running ∨ s.wantsReversal = true → f.vEnd = s.motion.figures.bind Figures.vEnd)
      ∧ (∀ o n before p after e, s.activeOrder = some o → o.path.getLast? = some n →
          s.layout = before ++ p :: after → p.seg = n → (∀ q ∈ after, q.seg ≠ n) →
          e = p.at (1000 * (o.endOffset : Int)) / 1000 →
          f.dEnd = some e
          ∧ (s.control.state = .running → s.wantsReversal = false →
            ∃ w, w = isqrt (2 * serviceRate s.orders.effective * (max 0 e).toNat)
              ∧ f.vEnd = some (if w < 30 ∧ 10 < e then 30 else w)
              ∧ f.target ≤ if w < 30 ∧ 10 < e then 30 else w))
      ∧ f.target ≤ s.params.maxSpeed ∧ (∀ o, s.activeOrder = some o → f.target ≤ o.cap)
      ∧ (∀ n ∈ underBody s.layout s.half, f.target ≤ capOf s.pos.map n) ∧ f.target ≤ f.vAuth
      ∧ (∀ p ∈ s.layout, p.seg ∈ heldSegs s.claim.held → s.half ≤ p.lo → capOf s.pos.map p.seg < f.v →
          f.target ≤ isqrt (capOf s.pos.map p.seg * capOf s.pos.map p.seg
            + 2 * serviceRate s.orders.effective * (max 0 ((p.lo - s.half) / 1000 - f.r)).toNat))
      ∧ (f.target = s.params.maxSpeed ∨ (∃ o, s.activeOrder = some o ∧ f.target = o.cap)
        ∨ (∃ n ∈ underBody s.layout s.half, f.target = capOf s.pos.map n) ∨ f.target = f.vAuth
        ∨ (∃ p ∈ s.layout, p.seg ∈ heldSegs s.claim.held ∧ s.half ≤ p.lo ∧ capOf s.pos.map p.seg < f.v
            ∧ f.target = isqrt (capOf s.pos.map p.seg * capOf s.pos.map p.seg
              + 2 * serviceRate s.orders.effective * (max 0 ((p.lo - s.half) / 1000 - f.r)).toNat))
        ∨ (s.control.state = .running ∧ s.wantsReversal = false
            ∧ (∃ o, s.activeOrder = some o ∧ ∃ p ∈ s.layout, o.path.getLast? = some p.seg)
            ∧ f.vEnd = some f.target))

/-- R148: when a reversal is pending, and what taking it does (R13): on the turned run the held list is the old one
reversed, with the entry events (R19) and without what the exit events give back (R20). R149, R163: when the order has
arrived, and what its end action does by the state of the lift (R168). The model's choices: D_end is brought to mm by
rounding down before it is held against 10 (log 13), and taken to the place further ahead where the last path segment stands
twice on the run (log 37); with the centre off the path no reversal is pending, and with the end point off the run no
arrival is judged (log 32); the ORDER_FAILED of a jammed lift names no segment (log 18). -/
def Obligations.ReversalsAndArrivalsAreTaken : Prop :=
  (∀ s : State, s.wantsReversal = true ↔
    ∃ o c before, s.activeOrder = some o ∧ s.pos.centre = some c ∧ c.seg ∉ before
      ∧ ((∃ n after, o.path = before ++ c.seg :: n :: after
            ∧ HasLink s.pos.map c.seg c.dir.entering n ∧ ¬HasLink s.pos.map c.seg c.dir.leaving n)
        ∨ (o.path = before ++ [c.seg]
            ∧ ((c.dir = .forward ∧ 1000 * o.endOffset + 10000 < c.offset)
              ∨ (c.dir = .reverse ∧ c.offset + 10000 < 1000 * o.endOffset)))))
  ∧ (∀ (s : State) (t : Nat), s.control.state ≠ .running → s.reversalStep t = s)
  ∧ (∀ (s : State) (t : Nat), s.control.state = .running →
    (s.wantsReversal = false ∨ s.motion.commanded ≠ 0 ∨ s.motion.measured ≠ 0 →
      s.reversalStep t = s.setMotion { s.motion with reversalPending := s.wantsReversal })
    ∧ (∀ c, s.pos.centre = some c → s.wantsReversal = true → s.motion.commanded = 0 → s.motion.measured = 0 →
      (s.reversalStep t).pos.centre
        = some { c with dir := match c.dir with | .forward => .reverse | .reverse => .forward }
      ∧ (s.reversalStep t).motion.reversalPending = false ∧ (s.reversalStep t).pos.misses = s.pos.misses
      ∧ (heldSegs (s.reversalStep t).claim.held).Sublist (heldSegs s.claim.held).reverse
      ∧ (∀ u : State, u = (s.setPos { s.pos with centre := (s.reversalStep t).pos.centre }).setClaim
            { s.claim with held := s.claim.held.reverse } →
          (s.reversalStep t).claim.held
            = (s.claim.held.reverse.map (fun e =>
                if ∃ p ∈ u.layout, p.seg = e.seg ∧ p.lo ≤ u.half + 1000 * (u.params.tolerance : Int)
                then { e with mark := .occupied } else e)).filter (fun e =>
              !decide (∃ p ∈ u.layout, p.seg = e.seg ∧ p.hi < -u.half - 1000 * (u.params.tolerance : Int)))
          ∧ ((u.layout.map Placed.seg).Nodup →
            ∀ n ∈ heldSegs s.claim.held, n ∈ underBody u.layout u.half →
              n ∈ heldSegs (s.reversalStep t).claim.held))
      ∧ (s.reversalStep t).claim.waited = s.claim.waited))
  ∧ (∀ (s : State) (reversal : Bool), s.hasArrived reversal = true ↔
    s.control.state = .running ∧ reversal = false ∧ s.motion.requests = [] ∧ s.motion.measured = 0
      ∧ ∃ o n before p after, s.activeOrder = some o ∧ o.path.getLast? = some n
        ∧ s.layout = before ++ p :: after ∧ p.seg = n ∧ (∀ q ∈ after, q.seg ≠ n)
        ∧ p.at (1000 * (o.endOffset : Int)) / 1000 ≤ 10)
  ∧ (∀ (s : State) (t : Nat) (reversal : Bool), s.hasArrived reversal = false → s.arrivalStep t reversal = s)
  ∧ ∀ (s : State) (t : Nat) (reversal : Bool) (o : Order), s.hasArrived reversal = true → s.activeOrder = some o →
    (s.orders.list.map Order.tag).Nodup →
    (s.arrivalStep t reversal).claim.record.state = .idle ∧ (s.arrivalStep t reversal).claim.held = s.claim.held
    ∧ (s.arrivalStep t reversal).motion = (s.abandonClaim t).motion
    ∧ (o.endAction = .none →
      (s.arrivalStep t reversal).orders.list = s.orders.list.filter (fun x => x.tag != o.tag)
      ∧ (RoomFor s.notice .orderDone 2 →
          { Notice.plain .orderDone t with tag := some o.tag, seg := o.path.getLast?, detail := some 0 }
            ∈ (s.arrivalStep t reversal).notice.queue)
      ∧ (s.arrivalStep t reversal).lift = s.lift)
    ∧ (o.endAction ≠ .none → s.lift.state = .jammed →
      (s.arrivalStep t reversal).orders.list = s.orders.list.filter (fun x => x.tag != o.tag)
      ∧ (RoomFor s.notice .orderFailed 2 →
          { Notice.plain .orderFailed t with tag := some o.tag, detail := some 4 }
            ∈ (s.arrivalStep t reversal).notice.queue)
      ∧ (s.arrivalStep t reversal).lift = s.lift)
    ∧ (o.endAction = .lift ∧ s.lift.state = .down ∧ ¬(s.pins.sup = true ∧ s.pins.sdn = false)
        ∨ o.endAction = .lower ∧ s.lift.state = .up ∧ ¬(s.pins.sdn = true ∧ s.pins.sup = false) →
      (s.arrivalStep t reversal).orders.list
        = s.orders.list.map (fun x => if x.tag = o.tag then { x with state := .finishing } else x)
      ∧ (s.arrivalStep t reversal).lift
        = { s.lift with
            state := if o.endAction = .lift then .raising else .lowering
            timer := some (1000 * s.params.liftTimeout), operation := some ⟨o.endAction, o.tag⟩ })
    ∧ (o.endAction = .lift ∧ s.lift.state = .up ∨ o.endAction = .lower ∧ s.lift.state = .down →
      (s.arrivalStep t reversal).orders.list = s.orders.list.filter (fun x => x.tag != o.tag)
      ∧ (s.arrivalStep t reversal).lift.state = s.lift.state ∧ (s.arrivalStep t reversal).lift.operation = none)

/-- R84, R124, R125, R156 to R159: when the head order is judged, what revalidation passes and what it fails, and what
activation does. A head that fails leaves the queue as FAILED, and the next head is judged as the activation step judges
it. -/
def Obligations.HeadOrderIsActivated : Prop :=
  (∀ s : State, s.readyToActivate = true ↔
    s.control.state = .running ∧ (∀ o ∈ s.orders.list, o.state ≠ .active ∧ o.state ≠ .finishing)
      ∧ s.lift.state ≠ .raising ∧ s.lift.state ≠ .lowering ∧ s.motion.commanded = 0 ∧ s.motion.measured = 0
      ∧ s.motion.requests = [])
  ∧ (∀ o : Order, o.eligible = true ↔
    o.state = .queued ∨ (o.state = .suspended ∧ (o.reason = some .front ∨ o.reason = some .halt)))
  ∧ (∀ (s : State) (t : Nat), s.readyToActivate = false ∨ s.orders.list = []
      ∨ (∃ o rest, s.orders.list = o :: rest ∧ o.eligible = false) → s.activationStep t = s)
  ∧ (∀ (s : State) (c : Centre) (o : Order),
    (o.state = .queued → o.path.head? ≠ some c.seg → s.revalidate c o = .failed .offPath c.seg)
    ∧ (o.state = .suspended → c.seg ∉ o.path → s.revalidate c o = .failed .offPath c.seg)
    ∧ ∀ before after, o.path = before ++ c.seg :: after → c.seg ∉ before →
        (o.state = .queued ∧ before = []) ∨ o.state = .suspended →
        (after = [] → s.revalidate c o = .passed [c.seg])
        ∧ ∀ n rest behind ahead beyond, after = n :: rest →
            heldSegs s.claim.held = behind ++ c.seg :: ahead → c.seg ∉ behind →
            beyond = (if HasLink s.pos.map c.seg c.dir.leaving n then ahead else behind.reverse) →
            (beyond <+: after → s.revalidate c o = .passed (c.seg :: after))
            ∧ ∀ i m, beyond[i]? = some m → after[i]? ≠ some m → beyond.take i <+: after →
                s.revalidate c o = .failed .bodyOffPath m)
  ∧ (∀ (s : State) (t : Nat) (c : Centre) (o : Order) (rest : List Order), s.readyToActivate = true →
    OrderQueueSound s.orders → s.pos.centre = some c → s.orders.list = o :: rest → o.eligible = true →
    (∀ path, s.revalidate c o = .passed path →
      (s.activationStep t).orders.list
        = { o with state := .active, reason := none, path := path, activations := min 255 (o.activations + 1) } :: rest
      ∧ (s.activationStep t).orders.cancelMark = s.orders.cancelMark
      ∧ (s.activationStep t).cache = s.cache.pinPath o.tag path
      ∧ (s.activationStep t).claim.held = s.claim.held ∧ (s.activationStep t).claim.record = s.claim.record
      ∧ (s.activationStep t).claim.waitedTag = some o.tag
      ∧ (s.claim.waitedTag = some o.tag → (s.activationStep t).claim = s.claim)
      ∧ (s.claim.waitedTag ≠ some o.tag →
          (s.activationStep t).claim.waited = 0 ∧ (s.activationStep t).claim.waitedSeg = none
          ∧ (s.activationStep t).claim.expired = false)
      ∧ (s.lift.state = .down → (s.activationStep t).orders.effective = o.loadClass)
      ∧ (s.lift.state = .up ∨ s.lift.state = .jammed → ∀ m, m = s.lift.measured.getD .heavy →
          (s.activationStep t).orders.effective = if loadCode o.loadClass < loadCode m then m else o.loadClass)
      ∧ (RoomFor s.notice .orderActive 1 →
          (s.activationStep t).notice.queue
            = s.notice.queue
              ++ [{ Notice.plain .orderActive t with
                    tag := some o.tag, seg := some c.seg, detail := some path.length }])
      ∧ (s.activationStep t).motion = s.motion ∧ (s.activationStep t).control = s.control)
    ∧ (∀ why seg, s.revalidate c o = .failed why seg →
      (∀ x ∈ (s.activationStep t).orders.list, x.tag ≠ o.tag)
      ∧ (RoomFor s.notice .orderFailed 1 →
          { Notice.plain .orderFailed t with
            tag := some o.tag, seg := some seg
            detail := some (if why = .offPath then 1 else if why = .bodyOffPath then 2
              else if why = .liftTimeout then 3 else 4) } ∈ (s.activationStep t).notice.queue)
      ∧ ∃ u, u = s.orderFailed t o why (some seg) ∧ u.orders.list = rest ∧ u.control = s.control
        ∧ u.claim.held = s.claim.held ∧ u.motion = s.motion ∧ u.pos.centre = s.pos.centre
        ∧ s.activationStep t = u.activationStep t))
  ∧ ∀ (c : PeerCache) (tag : Nat) (path : List Nat),
      c.pinPath tag path = path.foldl (fun c n => c.pin tag n) (c.unpin tag (fun n => !path.contains n))

/-- R65 to R68: the claim trigger, the candidates, what the first candidate's lookup gives, how a claim is sized, and the
enquiries of a wait on a STALE segment (that they end at the first other result is the model's reading, log 28). -/
def Obligations.ClaimIsFormedAndSized : Prop :=
  (∀ s : State, s.claimTrigger = true ↔
    s.control.state = .running ∧ s.claim.record.state = .idle ∧ s.claim.removal = none ∧ s.claim.retryTimer = none
      ∧ s.claim.held.length < 12 ∧ s.candidates ≠ []
      ∧ ∃ d f, s.motion.authority = some d ∧ s.motion.figures = some f ∧ d < ((f.h + f.lead : Nat) : Int))
  ∧ (∀ (s : State) (n : Nat) (rest : List Nat), s.candidates = n :: rest ↔
    ∃ o f before, s.activeOrder = some o ∧ (heldSegs s.claim.held).getLast? = some f
      ∧ s.orders.cancelMark ≠ some o.tag ∧ o.path = before ++ f :: n :: rest ∧ f ∉ before)
  ∧ (∀ (s : State) (n : Nat), s.stopsClaim n = true ↔
    n ∈ heldSegs s.claim.held ∨ ∃ x, lookup s.cache n = .held x ∨ lookup s.cache n = .stale x)
  ∧ (∀ (s : State) (t : Nat), s.claimTrigger = false → s.formClaim t = s)
  ∧ (∀ (s : State) (t n : Nat) (rest : List Nat) (o : Order) (d : Int) (f : Figures), s.claimTrigger = true →
    s.candidates = n :: rest → s.activeOrder = some o → s.motion.authority = some d → s.motion.figures = some f →
    (n ∈ heldSegs s.claim.held → s.formClaim t = s)
    ∧ (n ∉ heldSegs s.claim.held →
      (∀ x, lookup s.cache n = .held x ∨ lookup s.cache n = .stale x →
        ∃ c, s.formClaim t = s.setClaim c ∧ c.held = s.claim.held ∧ c.counter = s.claim.counter
          ∧ c.record.state = .blocked ∧ c.record.waitSeg = some n ∧ c.record.holder = some x ∧ c.record.segs = []
          ∧ (c.record.lastStale = true ↔ lookup s.cache n = .stale x)
          ∧ c.peerWait = Table.find s.claim.reports x ∧ c.waitedSeg = some n
          ∧ (s.claim.waitedSeg = some n → c.waited = s.claim.waited ∧ c.expired = s.claim.expired)
          ∧ (s.claim.waitedSeg ≠ some n → c.waited = 0 ∧ c.expired = false))
      ∧ (lookup s.cache n = .miss ∨ lookup s.cache n = .none →
        ∃ number segs, number = (s.claim.counter + 1) % 256 ∧ segs = s.sizeClaim d f.hCap n rest
          ∧ (s.formClaim t).claim.counter = number ∧ (s.formClaim t).claim.held = s.claim.held
          ∧ (s.formClaim t).claim.waited = s.claim.waited
          ∧ (s.line.tx.length < 24 → countKind s.line.tx 2 = 0 →
              (s.formClaim t).claim.record.state = .queuedR1 ∧ (s.formClaim t).claim.record.number = number
              ∧ (s.formClaim t).claim.record.segs = segs ∧ (s.formClaim t).claim.record.urgency = o.urgency
              ∧ (s.formClaim t).claim.record.waited = s.claim.waited ∧ (s.formClaim t).claim.record.round = 1
              ∧ (s.formClaim t).claim.record.attemptTime = t
              ∧ (s.formClaim t).line.tx
                = s.line.tx
                  ++ [⟨255, .fixed (.claim number 1 o.urgency s.claim.waited segs), 0, false, false⟩])
          ∧ (24 ≤ s.line.tx.length → (∀ e ∈ s.line.tx, e.class < 2 ∧ e.kind ≠ 2) →
              (s.formClaim t).claim.record.state = .idle ∧ (s.formClaim t).line.tx = s.line.tx))))
  ∧ (∀ (s : State) (d : Int) (hCap n : Nat) (rest segs : List Nat), s.claim.held.length < 12 →
    segs = s.sizeClaim d hCap n rest →
    segs <+: n :: rest ∧ 1 ≤ segs.length ∧ segs.length ≤ 8 ∧ s.claim.held.length + segs.length ≤ 12
    ∧ (∀ i m, 0 < i → segs[i]? = some m →
        s.stopsClaim m = false ∧ d + (((segs.take i).map (lengthOf s.pos.map)).sum : Nat) < (hCap : Int))
    ∧ ∀ m, (n :: rest)[segs.length]? = some m →
        segs.length = 8 ∨ s.claim.held.length + segs.length = 12 ∨ s.stopsClaim m = true
          ∨ (hCap : Int) ≤ d + ((segs.map (lengthOf s.pos.map)).sum : Nat))
  ∧ ∀ (s : State) (t n : Nat), s.claim.record.state = .blocked → s.claim.record.waitSeg = some n →
    (s.claim.record.lastStale = false → s.enquiryStep t = s)
    ∧ (s.claim.record.lastStale = true →
      ((∀ x, lookup s.cache n ≠ .stale x) →
        s.enquiryStep t = s.setRecord { s.claim.record with lastStale := false })
      ∧ (∀ x u, lookup s.cache n = .stale x → Table.find s.claim.enquiries n = some u →
          (t + 2 ^ 32 - u) % 2 ^ 32 < s.params.staleness → s.enquiryStep t = s)
      ∧ (∀ x, lookup s.cache n = .stale x →
          (∀ u, Table.find s.claim.enquiries n = some u → s.params.staleness ≤ (t + 2 ^ 32 - u) % 2 ^ 32) →
          Table.find (s.enquiryStep t).claim.enquiries n = some t
          ∧ (s.enquiryStep t).claim.record = s.claim.record
          ∧ (s.line.tx.length < 24 → countKind s.line.tx 6 < 3 →
              (s.enquiryStep t).line.tx = s.line.tx ++ [⟨255, .fixed (.enquire [n]), 0, false, false⟩])))

/-- R84: the waited counter counts in a wait. R112, R113: a wait expires when the count passes the limit. R105 to R107: the
two-party cycle, who yields, and the yield. R108, R109: the completion of the yield's stop; that it runs whole before the
overrun check on the limit moved back is the model's reading (log 26), that the removal of the order under the cancel mark
comes before that check too its choice (log 36), and that the zero time goes to 0 with it its choice (log 31). -/
def Obligations.WaitsCountExpireAndYield : Prop :=
  (∀ s : State,
    (s.claim.record.state = .blocked ∨ s.claim.record.state = .contested ∨ s.claim.record.state = .holdoff →
      s.waitedStep = s.setClaim { s.claim with waited := min 65535 (s.claim.waited + 1) })
    ∧ (s.claim.record.state ≠ .blocked → s.claim.record.state ≠ .contested → s.claim.record.state ≠ .holdoff →
      s.waitedStep = s))
  ∧ (∀ (s : State) (t : Nat),
    (s.claim.record.state.isWait = true → s.claim.expired = false → 100 * s.params.waitLimit < s.claim.waited →
      s.waitLimitStep t = s.expireWait t ∧ (s.expireWait t).claim.expired = true
      ∧ (s.claim.record.state = .blocked ∨ s.claim.record.state = .contested →
          (s.expireWait t).claim.waitLimitYield = true ∧ StopMember.waitLimit ∈ (s.expireWait t).motion.requests)
      ∧ (s.claim.record.state = .holdoff → (s.expireWait t).motion = s.motion)
      ∧ (RoomFor s.notice .waitExpired 1 →
          (s.expireWait t).notice.queue
            = s.notice.queue
              ++ [{ Notice.plain .waitExpired t with
                    tag := s.activeOrder.map Order.tag, seg := s.claim.record.waitSeg
                    station := match s.claim.record.state with
                      | .blocked => s.claim.record.holder
                      | .contested => s.claim.record.rival.map Rival.station
                      | .holdoff => s.claim.record.holdoff.map Holdoff.partner
                      | .idle | .queuedR1 | .windowR1 | .queuedR2 | .windowR2 => none
                    detail := some s.claim.waited }]))
    ∧ (s.claim.record.state.isWait = false ∨ s.claim.expired = true ∨ s.claim.waited ≤ 100 * s.params.waitLimit →
      s.waitLimitStep t = s))
  ∧ (∀ (s : State) (x : Nat) (r : PeerReport), s.cycle = some (x, r) ↔
    s.control.state = .running ∧ s.claim.record.state = .blocked ∧ s.claim.record.holder = some x
      ∧ s.claim.peerWait = some r ∧ r.waitingFor ≠ 0 ∧ r.waitingFor ∈ heldSegs s.claim.held)
  ∧ (∀ s : State, s.cycle = none → s.cycleStep = s)
  ∧ (∀ (s : State) (x : Nat) (r : PeerReport) (o : Order), s.cycle = some (x, r) → s.activeOrder = some o →
    (r.urgency < o.urgency ∨ (o.urgency = r.urgency ∧ s.control.number ≤ x) → s.cycleStep = s)
    ∧ (o.urgency < r.urgency ∨ (o.urgency = r.urgency ∧ x < s.control.number) →
      s.cycleStep.claim
        = { s.claim with
            record := { s.claim.record with
              state := .holdoff, holder := none, holdoff := some ⟨.stopping, x, r.waitingFor, none⟩
              lastStale := false }
            peerWait := none, waitLimitYield := false }
      ∧ StopMember.yield ∈ s.cycleStep.motion.requests
      ∧ (s.claim.waitLimitYield = true → StopMember.waitLimit ∉ s.cycleStep.motion.requests)
      ∧ s.cycleStep.orders = s.orders ∧ s.cycleStep.notice = s.notice ∧ s.cycleStep.line = s.line
      ∧ s.cycleStep.control = s.control))
  ∧ (∀ (s : State) (t : Nat), ∃ s1 s2 s3 s4,
    s1 = (s.setMotion { s.motion with requests := [], stopZero := 0 }).setClaim
        { s.claim with waitLimitYield := false }
    ∧ s2 = s1.releaseReserved t
    ∧ s3 = (if StopMember.yield ∈ s.motion.requests then s2.yieldStopped t else s2)
    ∧ s4 = (if StopMember.cancel ∈ s.motion.requests then s3.cancelStopped t else s3)
    ∧ s.serviceComplete t = (s4.setMotion { s4.motion with authority := s4.authorityDistance }).overrunCheck t)
  ∧ ∀ (s : State) (t : Nat) (h : Holdoff), s.claim.record.holdoff = some h →
    (h.phase = .waiting → s.yieldStopped t = s)
    ∧ (h.phase = .stopping →
      ((Table.find s.claim.reports h.partner).map PeerReport.waitingFor ≠ some h.partnerSeg →
        (s.yieldStopped t).claim.record.state = .idle ∧ (s.yieldStopped t).orders = s.orders
        ∧ (s.yieldStopped t).notice = s.notice)
      ∧ ((Table.find s.claim.reports h.partner).map PeerReport.waitingFor = some h.partnerSeg →
        (h.partnerSeg ∉ heldSegs s.claim.held →
          s.yieldStopped t = s.setRecord
            { s.claim.record with holdoff := some { h with phase := .waiting, timer := some s.params.staleness } })
        ∧ (h.partnerSeg ∈ heldSegs s.claim.held → ∀ o, s.activeOrder = some o →
          (s.yieldStopped t).claim.record.state = .idle ∧ (s.yieldStopped t).claim.held = s.claim.held
          ∧ (s.yieldStopped t).claim.waited = s.claim.waited
          ∧ (s.yieldStopped t).orders.list
            = s.orders.list.map (fun x =>
                if x.tag = o.tag then { x with state := .suspended, reason := some .yield } else x)
          ∧ (RoomFor s.notice .yieldNeeded 1 →
              (s.yieldStopped t).notice.queue
                = s.notice.queue
                  ++ [{ Notice.plain .yieldNeeded t with
                        tag := some o.tag, seg := some h.partnerSeg, station := some h.partner
                        detail := s.claim.record.waitSeg }]))))

/-! ## Stops and clocks -/

/-- R85, R142, R143: a completed stop gives back every RESERVED segment. The rows are taken whenever their clocks run
(the model's choice, log 1). -/
def Obligations.CompletedStopsGiveTrackBack : Prop :=
  ∀ s : State,
    (s.control.state = .running → s.motion.requests ≠ [] → s.motion.commanded = 0 → s.motion.measured = 0 →
      ∃ t, exec .serviceStopComplete s = .next t ∧ t.motion.requests = []
        ∧ (∀ e, e ∈ t.claim.held ↔ e ∈ s.claim.held ∧ e.mark = .occupied ∧
            (∀ g ∈ s.claim.held, g.mark = .reserved → g.seg ≠ e.seg))
        ∧ t.claim.waitLimitYield = false
        ∧ (StopMember.cancel ∈ s.motion.requests → s.claim.record.holdoff = none → ∀ o, s.activeOrder = some o →
            s.orders.cancelMark = some o.tag → ∀ x ∈ t.orders.list, x.tag ≠ o.tag)
        ∧ t.lift = s.lift ∧ t.resp = s.resp ∧ t.port = s.port ∧ t.params = s.params)
    ∧ (s.control.state = .halted → s.motion.latch = .braking → s.motion.measured = 0 →
      ∃ t, exec .emergencyStopComplete s = .next t ∧ t.motion.latch = .complete ∧ t.motion.latchReported = true
        ∧ t.control.state = .halted
        ∧ (s.motion.latchReported = false →
            ∀ e, e ∈ t.claim.held ↔ e ∈ s.claim.held ∧ e.mark = .occupied ∧
              (∀ g ∈ s.claim.held, g.mark = .reserved → g.seg ≠ e.seg))
        ∧ (s.motion.latchReported = true → t.claim = s.claim ∧ t.control = s.control)
        ∧ t.orders = s.orders ∧ t.cache = s.cache ∧ t.lift = s.lift ∧ t.resp = s.resp)

/-- R112, R113: an expired wait is reported once and, in BLOCKED and CONTESTED, begins the wait-limit yield. The row is
taken whenever a wait stands with its mark clear (the model's choice, log 1). -/
def Obligations.ExpiredWaitIsReportedOnce : Prop :=
  ∀ s : State, s.claim.record.state.isWait = true →
    (s.claim.expired = true → exec .waitExpired s = .next s)
    ∧ (s.claim.expired = false →
      ∃ t, exec .waitExpired s = .next t ∧ t.claim.expired = true ∧ 100 * s.params.waitLimit < t.claim.waited
        ∧ s.claim.waited ≤ t.claim.waited ∧ t.claim.record = s.claim.record ∧ t.claim.held = s.claim.held
        ∧ (s.claim.record.state = .blocked ∨ s.claim.record.state = .contested →
            t.claim.waitLimitYield = true ∧ StopMember.waitLimit ∈ t.motion.requests)
        ∧ (s.claim.record.state = .holdoff → t.motion = s.motion)
        ∧ (RoomFor s.notice .waitExpired 1 →
            ∃ n, t.notice.queue = s.notice.queue ++ [n] ∧ n.kind = .waitExpired
              ∧ n.tag = s.activeOrder.map Order.tag ∧ n.seg = s.claim.record.waitSeg
              ∧ n.detail = some t.claim.waited)
        ∧ t.control = s.control ∧ t.orders = s.orders ∧ t.cache = s.cache ∧ t.line = s.line)

/-- R25, R52: the join timer's expiry enters RUNNING; the beacon timer's offers a BEACON and is reloaded. R77, R83, R110:
the expiries that end a wait or the edition retry; the waited counter keeps its count. R123: a HELD entry whose age
passes the staleness limit becomes STALE and keeps the rest. The model's choices: the row ENTRY_STALE is taken for any HELD
entry (log 1); HOLDOFF_TIMER_EXPIRY in the STOPPING phase, where the timer does not run, and ENTRY_STALE of an entry not
HELD leave the state as it is (log 3). -/
def Obligations.TimersRunOutByTheirRules : Prop :=
  (∀ s : State,
    (s.control.state = .joining →
      ∃ t, exec .joinTimerExpiry s = .next t ∧ t.control = { s.control with state := .running, joinTimer := none }
        ∧ t.motion.commanded = 0 ∧ t.motion.stall = 0
        ∧ (RoomFor s.notice .stateChanged 1 →
            t.notice.queue
              = s.notice.queue ++ [{ Notice.plain .stateChanged s.notice.now with detail := some 513 }])
        ∧ t.claim = s.claim ∧ t.pos = s.pos ∧ t.line = s.line ∧ t.orders = s.orders ∧ t.cache = s.cache)
    ∧ (∀ n, s.line.beaconTimer = some n →
      ∃ t, exec .beaconTimerExpiry s = .next t ∧ t.line.beaconTimer = some s.params.beaconPeriod
        ∧ (s.line.tx.length < 24 → countKind s.line.tx 1 = 0 →
            t.line.tx = s.line.tx ++ [⟨255, .beacon, 0, false, false⟩])
        ∧ ((∃ e ∈ s.line.tx, e.content = .beacon) → t.line.tx = s.line.tx)
        ∧ t.claim = s.claim ∧ t.control = s.control ∧ t.motion = s.motion ∧ t.notice = s.notice))
  ∧ (∀ s : State,
    (s.claim.record.state = .contested →
      ∃ t, exec .contestTimerExpiry s = .next t ∧ t.claim.record.state = .idle ∧ t.claim.record.contestTimer = none
        ∧ t.claim.record.rival = none ∧ t.claim.waited = s.claim.waited ∧ t.claim.held = s.claim.held
        ∧ t.line = s.line ∧ t.cache = s.cache ∧ t.notice = s.notice)
    ∧ (∀ h, s.claim.record.holdoff = some h → h.phase = .waiting →
      ∃ t, exec .holdoffTimerExpiry s = .next t ∧ t.claim.record.state = .idle ∧ t.claim.record.holdoff = none
        ∧ t.claim.waited = s.claim.waited ∧ t.claim.held = s.claim.held ∧ t.line = s.line ∧ t.cache = s.cache
        ∧ t.notice = s.notice)
    ∧ (∀ h, s.claim.record.holdoff = some h → h.phase = .stopping → exec .holdoffTimerExpiry s = .next s)
    ∧ exec .editionRetryExpiry s = .next (s.setClaim { s.claim with retryTimer := none }))
  ∧ (∀ (s : State) (set way : Nat) (e : CacheEntry), Table.find s.cache.ways (4 * set + way) = some e →
    (e.status ≠ .held → exec (.entryStale set way) s = .next s)
    ∧ (e.status = .held →
      ∃ t q, exec (.entryStale set way) s = .next t ∧ Table.find t.cache.ways (4 * set + way) = some q
        ∧ q = { e with status := .stale, age := q.age } ∧ s.params.staleness < q.age ∧ e.age ≤ q.age
        ∧ (∀ k, k ≠ 4 * set + way → Table.find t.cache.ways k = Table.find s.cache.ways k)
        ∧ t = s.setCache t.cache ∧ t.cache.full = s.cache.full ∧ t.cache.refused = s.cache.refused))

/-- R70, R71, R112: the round 1 window's expiry offers round 2; the round 2 window's grants the claim. -/
def Obligations.WindowsLeadToTheGrant : Prop :=
  ∀ s : State,
    (s.claim.record.state = .windowR1 → s.line.tx.length < 24 → countKind s.line.tx 2 = 0 →
      ∃ t, exec .windowR1Expiry s = .next t
        ∧ t.claim = { s.claim with
            record := { s.claim.record with state := .queuedR2, round := 2, windowTimer := none } }
        ∧ t.line.tx
            = s.line.tx
              ++ [⟨255, .fixed (.claim s.claim.record.number 2 s.claim.record.urgency s.claim.record.waited
                    s.claim.record.segs), 0, false, false⟩]
        ∧ t.control = s.control ∧ t.motion = s.motion ∧ t.pos = s.pos ∧ t.notice = s.notice ∧ t.cache = s.cache)
    ∧ (s.claim.record.state = .windowR2 →
      ∃ t, exec .grant s = .next t
        ∧ t.claim.held = s.claim.held ++ s.claim.record.segs.map (fun n => ⟨n, .reserved⟩)
        ∧ t.claim.record.state = .idle ∧ t.claim.waited = 0 ∧ t.claim.waitedSeg = none ∧ t.claim.expired = false
        ∧ t.claim.peerWait = none ∧ t.claim.record.segs = []
        ∧ (∀ w ∈ t.cache.ways, w.2.holder ≠ 0 →
            ∃ v ∈ s.cache.ways, v.1 = w.1 ∧ v.2.seg = w.2.seg ∧ v.2.holder = w.2.holder ∧ v.2.status = w.2.status)
        ∧ (CacheSound s.cache → ∀ w ∈ t.cache.ways, w.2.seg ∈ s.claim.record.segs → w.2.holder = 0)
        ∧ t.resp = s.resp ∧ t.lift = s.lift ∧ t.params = s.params ∧ t.port = s.port)

/-! ## The lane line -/

/-- R35 to R38, R56: a frame that fits its layout, sent as the transmitter sends it, is taken whole by a receiver in
HUNT and judged GOOD with every field as it was sent. R37: whatever bits stand between two flags are the content of the
frame, the inserted zeros removed, where the zero after a last run of five 1s is sent and where the closing flag's own 0
stands in its place; seven 1s end the frame, ABORTED from 8 gathered bits on, and the 392nd content bit as TOO_LONG. The
bits gathered of a flag or an abort not yet recognised count (log 7), hence the bounds. -/
def Obligations.SentFrameIsTakenAsItWas : Prop :=
  (∀ (f : Frame) (n : Nat), FrameFits f → n < 6 ∨ n = 7 →
    ∃ content, (Receiver.hunt n).takeAll f.line = (.frame 0 [], [.flag content]) ∧ judge content = .good f)
  ∧ ∀ content : List Bool,
    (content.length ≤ 385 →
      (Receiver.frame 0 []).takeAll (stuff 0 content ++ flagBits) = (.frame 0 [], [.flag content])
      ∧ (content.getLast? = some true → (stuff 0 content).getLast? = some false →
          (Receiver.frame 0 []).takeAll ((stuff 0 content).dropLast ++ flagBits) = (.frame 0 [], [.flag content])))
    ∧ (content.length ≤ 386 → (stuff 0 content).getLast? ≠ some true →
        (Receiver.frame 0 []).takeAll (stuff 0 content ++ List.replicate 7 true)
          = (.hunt 7, if 3 ≤ content.length then [.abort] else []))
    ∧ (content.length = 392 → ∃ ones, (Receiver.frame 0 []).takeAll (stuff 0 content) = (.hunt ones, [.excess]))

/-- R39, R40, R42, R55: a GOOD frame of another station enters the buffer with its arrival time, is lost to an overrun,
or is dropped, by its destination; R33: one under the own number that the station did not send raises DUPLICATE_STATION
once and is dropped. The frame opens with its own flag, or at the closing flag of the one before. R37, R38, R55: a frame of
any other status is dropped and the counter of its status counts; an empty one changes nothing but the receiver. R39: while
the station sends, the receiver takes nothing. -/
def Obligations.ClosedFramesAreJudgedAndCounted : Prop :=
  (∀ (s : State) (f : Frame) (bits : List Bool), FrameFits f →
    (s.line.receiver = .hunt 7 ∧ bits = f.line)
      ∨ (s.line.receiver = .frame 0 [] ∧ (bits = f.line ∨ bits = f.line.drop 8)) →
    s.line.transmitter = .idle ∨ (∃ n, s.line.transmitter = .backoff n) →
    ∃ t, exec (.frameClosed bits) s = .next t ∧ t.line.receiver = .frame 0 []
      ∧ (f.source ≠ s.control.number →
          (f.dest ≠ 0 → s.control.recognises f.dest = true → s.line.rx.length < 8 →
            t.line.rx = s.line.rx ++ [⟨f, s.notice.now⟩]
            ∧ t.line.counters = { s.line.counters with framesTaken := min 65535 (s.line.counters.framesTaken + 1) }
            ∧ t.notice = s.notice)
          ∧ (f.dest ≠ 0 → s.control.recognises f.dest = true → 8 ≤ s.line.rx.length →
            t.line.rx = s.line.rx
            ∧ t.line.counters = { s.line.counters with rxOverrun := min 65535 (s.line.counters.rxOverrun + 1) }
            ∧ (s.notice.fault = none →
                ∃ r, t.notice.fault = some r ∧ r.kind = .rxOverrun ∧ r.station = some f.source)
            ∧ t.notice.queue = s.notice.queue)
          ∧ (f.dest = 0 →
            t.line.rx = s.line.rx
            ∧ t.line.counters = { s.line.counters with noStation := min 65535 (s.line.counters.noStation + 1) })
          ∧ (f.dest ≠ 0 → s.control.recognises f.dest = false →
            t.line.rx = s.line.rx ∧ t.line.counters = s.line.counters)
          ∧ t.line.tx = s.line.tx ∧ t.claim = s.claim ∧ t.control = s.control ∧ t.cache = s.cache)
      ∧ (f.source = s.control.number →
          t.line.rx = s.line.rx ∧ t.line.counters.framesTaken = s.line.counters.framesTaken ∧ t.resp.duplicate = true
          ∧ (s.resp.duplicate = true → t.control = s.control ∧ t.notice = s.notice ∧ t.cache = s.cache)
          ∧ (s.resp.duplicate = false → s.control.state ≠ .setup →
            t.control.state = .halted ∧ Cause.duplicateStation ∈ t.control.causes
            ∧ (RoomFor s.notice .duplicateStation 1 →
                { Notice.plain .duplicateStation s.notice.now with
                  station := some s.control.number, detail := some f.body.kind } ∈ t.notice.queue))))
  ∧ (∀ (s : State) (bits : List Bool) (r : Receiver) (c : Closing) (k : LineCounters),
    (∀ f sent, s.line.transmitter ≠ .sending f sent) → s.line.receiver.takeAll bits = (r, [c]) →
    k = s.line.counters →
    (c = .abort →
      exec (.frameClosed bits) s
        = .next (s.setLine { s.line with receiver := r, counters := { k with aborted := min 65535 (k.aborted + 1) } }))
    ∧ (c = .excess →
      exec (.frameClosed bits) s
        = .next (s.setLine { s.line with receiver := r, counters := { k with tooLong := min 65535 (k.tooLong + 1) } }))
    ∧ (∀ content, c = .flag content →
      (content = [] → exec (.frameClosed bits) s = .next (s.setLine { s.line with receiver := r }))
      ∧ (content ≠ [] → content.length < 56 →
        exec (.frameClosed bits) s
          = .next (s.setLine
              { s.line with receiver := r, counters := { k with tooShort := min 65535 (k.tooShort + 1) } }))
      ∧ (56 ≤ content.length →
        (content.length % 8 ≠ 0
            ∨ (∃ data lo hi, content = bitsOf (data ++ [lo, hi]) ∧ [lo, hi] ≠ bytes2 (crcOf (bitsOf data)).toNat) →
          exec (.frameClosed bits) s
            = .next (s.setLine
                { s.line with receiver := r, counters := { k with crcBad := min 65535 (k.crcBad + 1) } }))
        ∧ (∀ data, content = bitsOf (data ++ bytes2 (crcOf (bitsOf data)).toNat) → FieldsWrong data →
          exec (.frameClosed bits) s
            = .next (s.setLine
                { s.line with receiver := r, counters := { k with malformed := min 65535 (k.malformed + 1) } })))))
  ∧ (∀ data : List Byte, 5 ≤ data.length → (readFrame data = none ↔ FieldsWrong data))
  ∧ ∀ (s : State) (bits : List Bool) (f : Frame) (sent : List Bool), s.line.transmitter = .sending f sent →
      exec (.frameClosed bits) s = .next s

/-- R43, R81 to R83, R93 to R97, R100, R101, R103, R110, R119, R120: a frame taken from the head of the receive buffer:
BEACON, ENQUIRE, RELEASE, WITHDRAW and RELAY. -/
def Obligations.PeerFramesAreTaken : Prop :=
  ∀ (s : State) (f : Frame) (time : Nat) (rest : List Received), s.line.rx = ⟨f, time⟩ :: rest →
    (∀ b, f.body = .beacon b →
      ∃ t, exec .beaconReceived s = .next t ∧ t.line.rx = rest
        ∧ Table.find t.claim.reports f.source = some ⟨b.waitingFor, b.urgency⟩
        ∧ (∀ y, y ≠ f.source → Table.find t.claim.reports y = Table.find s.claim.reports y)
        ∧ (CacheSound s.cache → f.source ≠ 0 →
            ∀ w ∈ t.cache.ways, w.2.holder = f.source → w.2.seg ∈ heldSegs b.held)
        ∧ (∀ n, s.claim.record.state = .blocked → s.claim.record.holder = some f.source →
            s.claim.record.waitSeg = some n → n ∉ heldSegs b.held → t.claim.record.state = .idle)
        ∧ (∀ e ∈ b.held, e.seg ∈ heldSegs s.claim.held → s.resp.hasPair e.seg f.source = false →
            s.control.state = .joining ∨ s.control.state = .running →
            t.control.state = .halted ∧ Cause.holdConflict ∈ t.control.causes)
        ∧ (∀ e ∈ b.held, e.seg ∈ heldSegs s.claim.held → s.resp.hasPair e.seg f.source = false →
            (s.resp.conflicts.length + b.held.length ≤ 32 → ⟨e.seg, f.source⟩ ∈ t.resp.conflicts)
            ∧ (32 ≤ s.resp.conflicts.length → t.resp.overflow = true)
            ∧ ((heldSegs b.held).Nodup → RoomFor s.notice .holdConflict (b.held.length + 4) → ∀ m,
                markOf s.claim.held e.seg = some m →
                { Notice.plain .holdConflict time with
                  seg := some e.seg, station := some f.source
                  detail := some (pairDetail m.code e.mark.code) } ∈ t.notice.queue))
        ∧ (∀ e, b.held.find? (fun e =>
              decide (e.seg ∈ heldSegs s.claim.held) && !s.resp.hasPair e.seg f.source) = some e →
            s.notice.fault = none →
            ∃ r, t.notice.fault = some r ∧ r.kind = .holdConflict ∧ r.time = time ∧ r.seg = some e.seg
              ∧ r.station = some f.source ∧ r.detail = none)
        ∧ (∀ p ∈ s.resp.conflicts, p.station ≠ f.source ∨ p.seg ∈ heldSegs b.held → p ∈ t.resp.conflicts)
        ∧ (∀ p ∈ t.resp.conflicts, p ∈ s.resp.conflicts
            ∨ (p.station = f.source ∧ p.seg ∈ heldSegs b.held ∧ p.seg ∈ heldSegs s.claim.held))
        ∧ (∀ p ∈ t.resp.conflicts, p.station = f.source → p.seg ∈ heldSegs b.held)
        ∧ (∀ n y, s.claim.record.state = .blocked → s.claim.record.waitSeg = some n →
            s.claim.record.holder = some y → y ≠ f.source → n ∈ heldSegs b.held → t.claim.record.state = .idle)
        ∧ (f.edition = s.pos.edition → t.resp.editionMarks = s.resp.editionMarks)
        ∧ (f.edition ≠ s.pos.edition → f.source ∈ t.resp.editionMarks)
        ∧ ((∀ e ∈ b.held, e.seg ∉ heldSegs s.claim.held) →
          (∀ n, s.claim.record.state = .blocked → s.claim.record.waitSeg = some n →
            s.claim.record.holder = some f.source → n ∈ heldSegs b.held →
            t.claim.record = s.claim.record ∧ t.claim.peerWait = some ⟨b.waitingFor, b.urgency⟩)
          ∧ (f.edition ≠ s.pos.edition → f.source ∉ s.resp.editionMarks → RoomFor s.notice .editionMismatch 1 →
            { Notice.plain .editionMismatch time with station := some f.source, detail := some f.edition }
              ∈ t.notice.queue)
          ∧ (CacheSound s.cache → f.source ≠ 0 → (heldSegs b.held).Nodup → ∀ e ∈ b.held,
              (∃ w ∈ t.cache.ways, w.2.seg = e.seg ∧ w.2.holder = f.source ∧ w.2.mark = some e.mark
                ∧ w.2.status = .held ∧ w.2.age = 0 ∧ w.2.source = some .beacon)
              ∨ ((∀ w ∈ s.cache.ways, w.2.seg ≠ e.seg)
                ∧ (s.cache.full < t.cache.full ∨ t.cache.full = 65535)))
          ∧ (s.claim.record.state.isPending = true →
              ∀ n, s.claim.record.segs.find? (fun x => (heldSegs b.held).contains x) = some n →
              t.claim.record.segs = []
              ∧ (s.claim.record.segs.head? = some n →
                  t.claim.record.state = .blocked ∧ t.claim.record.waitSeg = some n
                  ∧ t.claim.record.holder = some f.source ∧ t.claim.peerWait = some ⟨b.waitingFor, b.urgency⟩)
              ∧ (s.claim.record.segs.head? ≠ some n → t.claim.record.state = .idle))
          ∧ (∀ n, s.claim.record.state = .contested → s.claim.record.waitSeg = some n → n ∈ heldSegs b.held →
              t.claim.record.state = .blocked ∧ t.claim.record.waitSeg = some n
              ∧ t.claim.record.holder = some f.source ∧ t.claim.peerWait = some ⟨b.waitingFor, b.urgency⟩)
          ∧ (∀ h, s.claim.record.state = .holdoff → s.claim.record.holdoff = some h → h.partner = f.source →
              (h.phase = .waiting → b.waitingFor ≠ h.partnerSeg →
                t.claim.record.state = .idle ∧ t.claim.record.holdoff = none ∧ t.claim.waited = s.claim.waited)
              ∧ (h.phase = .stopping ∨ b.waitingFor = h.partnerSeg → t.claim.record = s.claim.record)))
        ∧ t.claim.held = s.claim.held ∧ t.pos.centre = s.pos.centre ∧ t.lift = s.lift)
    ∧ (∀ segs, f.body = .enquire segs →
      ∃ t, exec .enquireReceived s = .next t ∧ t.line.rx = rest
        ∧ ((∀ n ∈ segs, n ∉ heldSegs s.claim.held) → t.line.tx = s.line.tx)
        ∧ ((∃ n ∈ segs, n ∈ heldSegs s.claim.held) → s.line.tx.length < 24 →
            ∃ e ∈ t.line.tx, e.content = .beacon ∧ e.kind = 1)
        ∧ t.claim = s.claim ∧ t.cache = s.cache ∧ t.control = s.control ∧ t.resp = s.resp ∧ t.notice = s.notice)
    ∧ (∀ segs, f.body = .release segs → CacheSound s.cache →
      ∃ t, exec .releaseReceived s = .next t ∧ t.line.rx = rest
        ∧ (∀ k, Table.find s.cache.ways k = none → Table.find t.cache.ways k = none)
        ∧ (∀ k e, Table.find s.cache.ways k = some e →
            Table.find t.cache.ways k =
              if e.holder = f.source ∧ e.seg ∈ segs then
                (if e.pins = [] then none
                 else some { e with holder := 0, mark := none, status := .none, age := 0, source := some .release })
              else some e)
        ∧ (∀ n, s.claim.record.state = .blocked → s.claim.record.holder = some f.source →
            s.claim.record.waitSeg = some n → n ∈ segs → t.claim.record.state = .idle)
        ∧ t.claim.held = s.claim.held ∧ t.claim.waited = s.claim.waited ∧ t.control = s.control
        ∧ t.line.tx = s.line.tx ∧ t.notice = s.notice)
    ∧ (∀ number, f.body = .withdraw number →
      ∃ t, exec .withdrawReceived s = .next t ∧ t.line.rx = rest ∧ t.cache = s.cache
        ∧ (∀ n, s.claim.record.state = .contested → s.claim.record.rival = some ⟨f.source, n⟩ →
            n = none ∨ n = some number → t.claim.record.state = .idle)
        ∧ (s.claim.record.state ≠ .contested → t.claim = s.claim)
        ∧ (∀ r, s.claim.record.rival = some r → r.station ≠ f.source → t.claim = s.claim)
        ∧ t.claim.waited = s.claim.waited ∧ t.claim.held = s.claim.held ∧ t.control = s.control
        ∧ t.line.tx = s.line.tx ∧ t.notice = s.notice)
    ∧ (∀ payload, f.body = .relay payload →
      ∃ t, exec .relayReceived s = .next t ∧ t.line.rx = rest
        ∧ (RoomFor s.notice .relayReceived 1 →
            t.notice.queue
              = s.notice.queue
                ++ [{ Notice.plain .relayReceived time with
                      station := some f.source, detail := some f.dest, payload := some payload }])
        ∧ t.claim = s.claim ∧ t.cache = s.cache ∧ t.control = s.control ∧ t.line.tx = s.line.tx)

/-- R117: how a holding is recorded and which way is its victim. R118, R119: what a BEACON does to the cache. R124: the pin
table, a placeholder without a victim counting as a refused pin alone (log 29). R125: what removing a tag's pins does. -/
def Obligations.CacheTakesBeaconsAndPins : Prop :=
  (∀ (ways : Table CacheEntry) (set k : Nat) (barred : List Nat), Table.wf ways = true →
    (victim ways set barred = some k ↔ k / 4 = set ∧
      ((Table.find ways k = none ∧ ∀ j, j < k → j / 4 = set → Table.find ways j ≠ none)
      ∨ ((∀ j, j / 4 = set → Table.find ways j ≠ none)
        ∧ ∃ e, Table.find ways k = some e ∧ e.pins = [] ∧ e.status = .held ∧ e.seg ∉ barred
          ∧ ∀ j f, j / 4 = set → Table.find ways j = some f → f.pins = [] → f.status = .held → f.seg ∉ barred →
              f.age < e.age ∨ (f.age = e.age ∧ k ≤ j)))))
  ∧ (∀ (s : State) (seg x : Nat) (mark : Mark) (source : Source) (barred : List Nat), CacheSound s.cache →
    (∀ k e, Table.find s.cache.ways k = some e → e.seg = seg →
      ∃ t, s.writeHolding seg x mark source barred = t
        ∧ Table.find t.cache.ways k
          = some { e with holder := x, mark := some mark, status := .held, age := 0, source := some source }
        ∧ (∀ j, j ≠ k → Table.find t.cache.ways j = Table.find s.cache.ways j)
        ∧ t.cache.full = s.cache.full ∧ t.cache.refused = s.cache.refused
        ∧ (e.holder ≠ 0 → e.holder ≠ x → s.claim.record.state = .blocked → s.claim.record.waitSeg = some seg →
            s.claim.record.holder = some e.holder → t.claim.record.state = .idle)
        ∧ (e.holder = 0 ∨ e.holder = x → t.claim = s.claim))
    ∧ ((∀ w ∈ s.cache.ways, w.2.seg ≠ seg) →
      (∀ k, victim s.cache.ways (seg % 16) barred = some k →
        ∃ ways, s.writeHolding seg x mark source barred = s.setCache { s.cache with ways := ways }
          ∧ Table.find ways k = some ⟨seg, x, some mark, .held, 0, [], some source⟩
          ∧ ∀ j, j ≠ k → Table.find ways j = Table.find s.cache.ways j)
      ∧ (victim s.cache.ways (seg % 16) barred = none →
        s.writeHolding seg x mark source barred
          = s.setCache { s.cache with full := min 65535 (s.cache.full + 1) })))
  ∧ (∀ (s : State) (x : Nat) (listed : List HeldEntry) (skip : List Nat), CacheSound s.cache → x ≠ 0 →
    (heldSegs listed).Nodup → ∃ t, s.cacheBeacon x listed skip = t
      ∧ (∀ w ∈ t.cache.ways, w.2.holder = x → w.2.seg ∈ heldSegs listed)
      ∧ (∀ e ∈ listed, e.seg ∉ skip →
          (∃ w ∈ t.cache.ways, w.2.seg = e.seg ∧ w.2.holder = x ∧ w.2.mark = some e.mark ∧ w.2.status = .held
            ∧ w.2.age = 0 ∧ w.2.source = some .beacon)
          ∨ ((∀ w ∈ s.cache.ways, w.2.seg ≠ e.seg) ∧ (s.cache.full < t.cache.full ∨ t.cache.full = 65535)))
      ∧ (∀ k e, Table.find s.cache.ways k = some e → e.pins ≠ [] → e.holder = x → e.seg ∉ heldSegs listed →
          Table.find t.cache.ways k
            = some { e with holder := 0, mark := none, status := .none, age := 0, source := some .beacon })
      ∧ (∀ k e, Table.find s.cache.ways k = some e → e.pins ≠ [] → e.seg ∈ heldSegs listed → e.seg ∈ skip →
          Table.find t.cache.ways k = some e)
      ∧ (∀ k e, Table.find s.cache.ways k = some e → e.pins ≠ [] ∨ e.status = .stale → e.holder ≠ x →
          e.seg ∉ heldSegs listed → Table.find t.cache.ways k = some e))
  ∧ (∀ (c : PeerCache) (tag seg : Nat), CacheSound c →
    (∀ k e, Table.find c.ways k = some e → e.seg = seg →
      (tag ∈ e.pins → c.pin tag seg = c)
      ∧ (tag ∉ e.pins → e.pins ≠ [] ∨ pinnedIn c.ways (seg % 16) < 3 →
          Table.find (c.pin tag seg).ways k = some { e with pins := e.pins ++ [tag] }
          ∧ (∀ j, j ≠ k → Table.find (c.pin tag seg).ways j = Table.find c.ways j)
          ∧ (c.pin tag seg).refused = c.refused)
      ∧ (e.pins = [] → 3 ≤ pinnedIn c.ways (seg % 16) →
          c.pin tag seg = { c with refused := min 65535 (c.refused + 1) }))
    ∧ ((∀ w ∈ c.ways, w.2.seg ≠ seg) →
      (∀ k, pinnedIn c.ways (seg % 16) < 3 → victim c.ways (seg % 16) [] = some k →
        Table.find (c.pin tag seg).ways k = some ⟨seg, 0, none, .none, 0, [tag], none⟩
        ∧ (∀ j, j ≠ k → Table.find (c.pin tag seg).ways j = Table.find c.ways j)
        ∧ (c.pin tag seg).full = c.full ∧ (c.pin tag seg).refused = c.refused)
      ∧ (3 ≤ pinnedIn c.ways (seg % 16) ∨ victim c.ways (seg % 16) [] = none →
        c.pin tag seg = { c with refused := min 65535 (c.refused + 1) })))
  ∧ ∀ (c : PeerCache) (tag k : Nat) (p : Nat → Bool), Table.wf c.ways = true →
      Table.find (c.unpin tag p).ways k
        = (Table.find c.ways k).bind (fun e =>
            if tag ∈ e.pins ∧ p e.seg = true then
              (if e.pins.filter (fun x => x != tag) = [] ∧ e.status = .none then none
               else some { e with pins := e.pins.filter (fun x => x != tag) })
            else some e)

/-- R86 to R90, R80: a CLAIM is answered by the first step that applies: another edition, a held segment, or the
precedence of the own pending claim; otherwise it is not answered. R90: one of the rival of a CONTESTED wait supplies its
absent claim number, whatever the answer. R72: where the rival's key precedes, the own claim ends with a WITHDRAW, or in
QUEUED_R1 with its frame taken off the queue, or marked removed where it is in flight. -/
def Obligations.ClaimsAreAnswered : Prop :=
  ∀ (s : State) (f : Frame) (time number round urgency waited n0 : Nat) (more : List Nat) (rest : List Received),
    s.line.rx = ⟨f, time⟩ :: rest → f.body = .claim number round urgency waited (n0 :: more) →
    ∃ t, exec .claimReceived s = .next t ∧ t.line.rx = rest ∧ t.claim.held = s.claim.held ∧ t.cache = s.cache
      ∧ t.control = s.control
      ∧ (f.edition ≠ s.pos.edition → s.line.tx.length < 24 →
          (∃ e ∈ t.line.tx, e.dest = f.source
            ∧ e.content
                = .fixed (.object number n0 .edition s.claim.record.waitingFor s.reportedUrgency))
          ∧ f.source ∈ t.resp.editionMarks)
      ∧ (∀ n m, f.edition = s.pos.edition →
          (n0 :: more).find? (fun x => (heldSegs s.claim.held).contains x) = some n →
          markOf s.claim.held n = some m → s.line.tx.length < 24 →
          (∃ e ∈ t.line.tx, e.dest = f.source
            ∧ e.content
                = .fixed (.object number n (if m = .reserved then .heldReserved else .heldOccupied)
                    s.claim.record.waitingFor s.reportedUrgency))
          ∧ t.claim.record.state = s.claim.record.state)
      ∧ (s.claim.record.state = .contested → s.claim.record.rival = some ⟨f.source, none⟩ →
          t.claim = { s.claim with record := { s.claim.record with rival := some ⟨f.source, some number⟩ } })
      ∧ (s.claim.record.state.isPending = false →
          s.claim.record.state ≠ .contested ∨ s.claim.record.rival ≠ some ⟨f.source, none⟩ → t.claim = s.claim)
      ∧ (f.edition = s.pos.edition → (∀ n ∈ n0 :: more, n ∉ heldSegs s.claim.held) →
          (s.claim.record.state.isPending = false → t.line.tx = s.line.tx)
          ∧ ((∀ n ∈ n0 :: more, n ∉ s.claim.record.segs) →
              t.line.tx = s.line.tx ∧ t.claim.record.state = s.claim.record.state)
          ∧ (∀ theirs ours, s.claim.record.state.isPending = true →
              (n0 :: more).find? (fun x => s.claim.record.segs.contains x) = some theirs →
              s.claim.record.segs.find? (fun x => (n0 :: more).contains x) = some ours →
              (urgency < s.claim.record.urgency
                ∨ (urgency = s.claim.record.urgency ∧
                    (waited < s.claim.record.waited
                      ∨ (waited = s.claim.record.waited ∧ s.control.number < f.source))) →
                t.claim = s.claim
                ∧ (s.line.tx.length < 24 → ∃ e ∈ t.line.tx, e.dest = f.source
                    ∧ e.content = .fixed (.object number theirs .precedence 0 s.reportedUrgency)))
              ∧ (¬(urgency < s.claim.record.urgency
                  ∨ (urgency = s.claim.record.urgency ∧
                      (waited < s.claim.record.waited
                        ∨ (waited = s.claim.record.waited ∧ s.control.number < f.source)))) →
                t.claim.record.state = .contested ∧ t.claim.record.waitSeg = some ours
                ∧ t.claim.record.rival = some ⟨f.source, some number⟩
                ∧ t.claim.record.contestTimer = some (2 * s.params.window + 200) ∧ t.claim.record.segs = []
                ∧ (s.claim.record.state = .queuedR1 ∨ s.claim.record.state = .queuedR2 →
                    (∀ e ∈ t.line.tx, e.kind = 2 → e.inFlight = true ∧ e.removed = true)
                    ∧ t.claim.removal
                      = if s.line.tx.any (fun e => e.kind == 2 && e.inFlight) then
                          some ⟨s.claim.record.number, decide (s.claim.record.state = .queuedR1)⟩
                        else s.claim.removal)
                ∧ (s.claim.record.state = .queuedR1 →
                    t.line.tx.filter (fun e => e.kind != 2) = s.line.tx.filter (fun e => e.kind != 2))
                ∧ (s.claim.record.state ≠ .queuedR1 → s.line.tx.length < 24 →
                    t.line.tx.filter (fun e => e.kind != 2)
                      = s.line.tx.filter (fun e => e.kind != 2)
                        ++ [⟨255, .fixed (.withdraw s.claim.record.number), 0, false, false⟩])
                ∧ (s.claim.record.state = .windowR1 ∨ s.claim.record.state = .windowR2 →
                    t.claim.removal = s.claim.removal))))

/-- R75 to R79: an OBJECT matched to the pending claim ends it, by its reason; a late one that says HELD takes a
RESERVED segment and every later one off the held list and leaves those before it, is a hold conflict where the segment is
OCCUPIED, its pair joining the set of R95 once, and leaves the held list where the segment is not on it (R83: a CONTESTED
wait on it becomes BLOCKED); a HELD one goes to the cache but where the segment is OCCUPIED (R121); a late EDITION marks
the objector and is reported once. -/
def Obligations.ObjectionsEndClaims : Prop :=
  ∀ (s : State) (f : Frame) (time number seg w u : Nat) (why : Reason) (rest : List Received),
    s.line.rx = ⟨f, time⟩ :: rest → f.body = .object number seg why w u →
    ∃ t, exec .objectReceived s = .next t ∧ t.line.rx = rest
      ∧ Table.find t.claim.reports f.source = some ⟨w, u⟩ ∧ t.lift = s.lift
      ∧ (s.claim.record.matched number seg = true →
          t.claim.held = s.claim.held ∧ t.claim.record.segs = [] ∧ t.claim.record.windowTimer = none
          ∧ (s.line.tx.length < 24 →
              ∃ e ∈ t.line.tx, e.dest = 255 ∧ e.content = .fixed (.withdraw s.claim.record.number))
          ∧ (why = .heldReserved ∨ why = .heldOccupied →
              (s.claim.record.segs.head? = some seg →
                t.claim.record.state = .blocked ∧ t.claim.record.waitSeg = some seg
                ∧ t.claim.record.holder = some f.source ∧ t.claim.peerWait = some ⟨w, u⟩)
              ∧ (s.claim.record.segs.head? ≠ some seg → t.claim.record.state = .idle)
              ∧ (CacheSound s.cache →
                  (∃ e ∈ t.cache.ways, e.2.seg = seg ∧ e.2.holder = f.source ∧ e.2.status = .held ∧ e.2.age = 0
                    ∧ e.2.mark = some (if why = .heldReserved then .reserved else .occupied)
                    ∧ e.2.source = some .object)
                  ∨ ((∀ e ∈ s.cache.ways, e.2.seg ≠ seg) ∧ t.cache.full = min 65535 (s.cache.full + 1))))
          ∧ (why = .precedence →
              t.claim.record.state = .contested ∧ t.claim.record.waitSeg = some seg
              ∧ t.claim.record.rival = some ⟨f.source, none⟩
              ∧ t.claim.record.contestTimer = some (2 * s.params.window + 200) ∧ t.cache = s.cache)
          ∧ (why = .edition →
              t.claim.record.state = .idle ∧ t.claim.retryTimer = some s.params.staleness ∧ t.cache = s.cache))
      ∧ (s.claim.record.matched number seg = false →
          (why = .heldReserved ∨ why = .heldOccupied →
            (markOf s.claim.held seg = some .reserved →
              (∀ e ∈ t.claim.held, e ∈ s.claim.held)
              ∧ (∀ n ∈ seg :: afterSeg (heldSegs s.claim.held) seg, n ∉ heldSegs t.claim.held)
              ∧ (∀ before e after, s.claim.held = before ++ e :: after → e.seg = seg →
                  (heldSegs s.claim.held).Nodup →
                  t.claim.held = before
                  ∧ (s.line.tx.length < 24 →
                      ∃ x ∈ t.line.tx, x.dest = 255 ∧ x.content = .fixed (.release (heldSegs (e :: after)))))
              ∧ (s.claim.record.state.isPending = true → t.claim.record.state = .idle)
              ∧ (CacheSound s.cache →
                  (∃ e ∈ t.cache.ways, e.2.seg = seg ∧ e.2.holder = f.source ∧ e.2.status = .held ∧ e.2.age = 0
                    ∧ e.2.mark = some (if why = .heldReserved then .reserved else .occupied)
                    ∧ e.2.source = some .object)
                  ∨ ((∀ e ∈ s.cache.ways, e.2.seg ≠ seg) ∧ t.cache.full = min 65535 (s.cache.full + 1))))
            ∧ (markOf s.claim.held seg = none →
              t.claim.held = s.claim.held ∧ t.control = s.control ∧ t.notice = s.notice ∧ t.line.tx = s.line.tx
              ∧ (CacheSound s.cache →
                  (∃ e ∈ t.cache.ways, e.2.seg = seg ∧ e.2.holder = f.source ∧ e.2.status = .held ∧ e.2.age = 0
                    ∧ e.2.mark = some (if why = .heldReserved then .reserved else .occupied)
                    ∧ e.2.source = some .object)
                  ∨ ((∀ e ∈ s.cache.ways, e.2.seg ≠ seg)
                    ∧ t.cache = { s.cache with full := min 65535 (s.cache.full + 1) }))
              ∧ (s.claim.record.waitSeg ≠ some seg → t.claim.record = s.claim.record)
              ∧ (s.claim.record.state = .contested → s.claim.record.waitSeg = some seg →
                  t.claim.record.state = .blocked ∧ t.claim.record.waitSeg = some seg
                  ∧ t.claim.record.holder = some f.source ∧ t.claim.record.contestTimer = none
                  ∧ t.claim.peerWait = some ⟨w, u⟩))
            ∧ (markOf s.claim.held seg = some .occupied → s.resp.hasPair seg f.source = false →
              s.control.state = .joining ∨ s.control.state = .running →
              t.claim.held = s.claim.held ∧ t.control.state = .halted ∧ Cause.holdConflict ∈ t.control.causes
              ∧ (s.notice.fault = none → ∃ r, t.notice.fault = some r ∧ r.kind = .holdConflict
                  ∧ r.station = some f.source ∧ r.seg = some seg))
            ∧ (markOf s.claim.held seg = some .occupied → s.resp.hasPair seg f.source = false →
              t.claim.held = s.claim.held
              ∧ t.resp
                = (if s.resp.conflicts.length < 32 then
                    { s.resp with conflicts := s.resp.conflicts ++ [⟨seg, f.source⟩] }
                  else { s.resp with overflow := true })
              ∧ (RoomFor s.notice .holdConflict 1 →
                  { Notice.plain .holdConflict time with seg := some seg, station := some f.source } ∈ t.notice.queue)
              ∧ (s.orders.cancelMark = none → t.cache = s.cache))
            ∧ (markOf s.claim.held seg = some .occupied → s.resp.hasPair seg f.source = true →
              t.claim.held = s.claim.held ∧ t.claim.record = s.claim.record ∧ t.resp = s.resp ∧ t.notice = s.notice
              ∧ t.control = s.control ∧ t.cache = s.cache ∧ t.line.tx = s.line.tx))
          ∧ (why = .precedence → t.claim.record = s.claim.record ∧ t.line.tx = s.line.tx ∧ t.control = s.control
              ∧ t.cache = s.cache ∧ t.notice = s.notice)
          ∧ (why = .edition →
              t.claim.record = s.claim.record ∧ t.claim.retryTimer = s.claim.retryTimer
              ∧ t.claim.held = s.claim.held ∧ t.line.tx = s.line.tx ∧ t.control = s.control ∧ t.cache = s.cache
              ∧ f.source ∈ t.resp.editionMarks
              ∧ (f.source ∈ s.resp.editionMarks → t.resp = s.resp ∧ t.notice = s.notice)
              ∧ (f.source ∉ s.resp.editionMarks → RoomFor s.notice .editionMismatch 1 →
                  t.notice.queue
                    = s.notice.queue
                      ++ [{ Notice.plain .editionMismatch time with
                            station := some f.source, detail := some f.edition }])))

/-- R41: a group code matches a selector when it agrees wherever the mask bit is 0. R40: which destinations a station
recognises, and what becomes of a GOOD frame by it: to no station, dropped and counted; not recognised, dropped and not
counted; recognised, offered to the receive buffer. -/
def Obligations.SelectorMatchesWhereTheMaskIsClear : Prop :=
  (∀ (g : Selector) (code : Byte),
    g.matches code = true ↔ ∀ i < 8, g.mask.getLsbD i = false → code.getLsbD i = g.value.getLsbD i)
  ∧ (∀ code : Byte, (Selector.mk 0 0).matches code = true ↔ code = 0)
  ∧ (∀ code : Byte, (Selector.mk 160 15).matches code = true ↔ 160 ≤ code.toNat ∧ code.toNat ≤ 175)
  ∧ (∀ code : Byte, (Selector.mk 200 0).matches code = true ↔ code = 200)
  ∧ (∀ (k : Control) (d : Nat), 128 ≤ d → d ≤ 254 →
      (k.recognises d = true ↔
        k.group1.matches (BitVec.ofNat 8 d) = true ∨ k.group2.matches (BitVec.ofNat 8 d) = true))
  ∧ (∀ k : Control, k.recognises 255 = true)
  ∧ (∀ k : Control, k.recognises 0 = false)
  ∧ (∀ (k : Control) (d : Nat), 1 ≤ d → d ≤ 60 → (k.recognises d = true ↔ d = k.number))
  ∧ (∀ (k : Control) (d : Nat), 61 ≤ d → d ≤ 127 → k.recognises d = false)
  ∧ (∀ s t : State, exec .powerOnReset s = .next t → t.control.group1 = ⟨0, 0⟩ ∧ t.control.group2 = ⟨0, 0⟩)
  ∧ (∀ (c : Instr) (s t : State), c ≠ .powerOnReset → (∀ args, c ≠ .setStation args) → exec c s = .next t →
      t.control.group1 = s.control.group1 ∧ t.control.group2 = s.control.group2)
  ∧ (∀ (s u : State) (n v1 m1 v2 m2 : Byte), s.executing 1 [n, v1, m1, v2, m2] = some u → u.control.state = .setup →
      1 ≤ n.toNat → n.toNat ≤ 60 →
      ∃ t, exec (.setStation [n, v1, m1, v2, m2]) s = .next t ∧ t.control.group1 = ⟨v1, m1⟩
        ∧ t.control.group2 = ⟨v2, m2⟩)
  ∧ ∀ (s : State) (f : Frame), s.line.receiver = .hunt 7 → FrameFits f → f.source ≠ s.control.number →
      s.line.transmitter = .idle ∨ (∃ n, s.line.transmitter = .backoff n) →
      (f.dest = 0 →
        exec (.frameClosed f.line) s
          = .next (s.setLine
              { s.line with
                receiver := .frame 0 []
                counters := { s.line.counters with noStation := min 65535 (s.line.counters.noStation + 1) } }))
      ∧ (f.dest ≠ 0 → s.control.recognises f.dest = false →
        exec (.frameClosed f.line) s = .next (s.setLine { s.line with receiver := .frame 0 [] }))
      ∧ (s.control.recognises f.dest = true →
        exec (.frameClosed f.line) s
          = .next ((s.setLine { s.line with receiver := .frame 0 [] }).bufferFrame s.notice.now f)
        ∧ (f.body.kind ≠ 3 → f.body.kind ≠ 7 → f.dest = 255) ∧ (f.body.kind = 3 → f.dest = s.control.number))

/-- R44, R49, R53: a transmission takes the oldest entry of the highest class, and a BEACON's content is formed now, field
by field of R53. -/
def Obligations.TransmissionStartsWithTheHighestClass : Prop :=
  ∀ s : State, s.line.transmitter = .idle → s.line.tx ≠ [] →
    ∃ t i e, exec .transmissionStart s = .next t ∧ s.line.tx[i]? = some e
      ∧ (∀ j f, s.line.tx[j]? = some f → e.class < f.class ∨ (e.class = f.class ∧ i ≤ j))
      ∧ t.line = { s.line with
          tx := s.line.tx.set i { e with inFlight := true }
          transmitter := .sending (s.frameOf e) (s.frameOf e).line
          abortBits := [] }
      ∧ (s.frameOf e).dest = e.dest ∧ (s.frameOf e).source = s.control.number
      ∧ (s.frameOf e).edition = s.pos.edition
      ∧ (e.content = .beacon →
          ∃ b, (s.frameOf e).body = .beacon b ∧ b.held = s.claim.held ∧ b.state = s.control.state
            ∧ b.speed = s.motion.measured
            ∧ (∀ c, s.pos.centre = some c → b.centreSeg = c.seg ∧ b.offset = c.offset / 1000 ∧ b.dir = c.dir)
            ∧ (∀ o, s.orders.list.find? (fun o => o.state == .active || o.state == .finishing) = some o →
                b.urgency = o.urgency)
            ∧ ((∀ o ∈ s.orders.list, o.state ≠ .active ∧ o.state ≠ .finishing) → b.urgency = 0)
            ∧ (∀ n, s.claim.record.state = .blocked ∨ s.claim.record.state = .contested →
                s.claim.record.waitSeg = some n → b.waitingFor = n)
            ∧ (s.claim.record.state ≠ .blocked → s.claim.record.state ≠ .contested → b.waitingFor = 0))
      ∧ (∀ b, e.content = .fixed b → (s.frameOf e).body = b)
      ∧ t = s.setLine t.line

/-- R48, R49, R51, R69, R70, R72: a completed transmission leaves the queue; a CLAIM starts its window, a removed one owes
a WITHDRAW. R35, R50, R51, R74: a collision sends the abort pattern, counts an attempt and enters backoff; the tenth
discards the frame: its entry leaves the queue, a CLAIM of either round ends, one of round 2 with a WITHDRAW, a RELAY is
reported, and so is the third discard of a run; the end of the backoff leaves the transmitter idle. A COLLISION at a bit sent
as 0, or beyond the frame, changes nothing, and the receiver takes up what was read back, the bits sent before the one read
as 0 and that 0 (R39; the model's choices, log 8). That the station field of RELAY_DISCARDED holds every destination, those
outside the 1..60 of R186 too, is the model's choice (log 40). -/
def Obligations.TransmissionsCompleteOrCollide : Prop :=
  (∀ (s : State) (f : Frame) (bits : List Bool) (e : TxEntry), s.line.transmitter = .sending f bits →
    s.line.tx.find? TxEntry.inFlight = some e →
    ∃ t, exec .transmissionComplete s = .next t ∧ t.line.transmitter = .idle ∧ t.line.discards = 0
      ∧ t.line.degraded = false
      ∧ t.line.counters.framesSent = min 65535 (s.line.counters.framesSent + 1)
      ∧ (e.kind ≠ 2 ∨ e.removed = false ∨ s.claim.removal = none →
          t.line.tx = s.line.tx.filter (fun x => !x.inFlight) ∧ t.notice = s.notice)
      ∧ (e.kind ≠ 2 → t.claim = s.claim)
      ∧ (e.kind = 2 → e.removed = false →
          (s.claim.record.state = .queuedR1 →
            t.claim = { s.claim with
              record := { s.claim.record with state := .windowR1, windowTimer := some s.params.window } })
          ∧ (s.claim.record.state = .queuedR2 →
            t.claim = { s.claim with
              record := { s.claim.record with state := .windowR2, windowTimer := some s.params.window } })
          ∧ (s.claim.record.state ≠ .queuedR1 → s.claim.record.state ≠ .queuedR2 → t.claim = s.claim))
      ∧ (e.kind = 2 → e.removed = true → s.claim.removal = none → t.claim = s.claim)
      ∧ (∀ r, e.kind = 2 → e.removed = true → s.claim.removal = some r → s.line.tx.length ≤ 24 →
          t.claim = { s.claim with removal := none }
          ∧ t.line.tx
            = s.line.tx.filter (fun x => !x.inFlight)
              ++ (if r.owed then [⟨255, .fixed (.withdraw r.number), 0, false, false⟩] else []))
      ∧ t.control = s.control ∧ t.motion = s.motion ∧ t.pos = s.pos ∧ t.orders = s.orders ∧ t.cache = s.cache)
  ∧ ((∀ (s : State) (bit : Nat) (f : Frame) (bits : List Bool) (e : TxEntry),
    s.line.transmitter = .sending f bits → s.line.tx.find? TxEntry.inFlight = some e →
    (bits[bit]? ≠ some true → exec (.collision bit) s = .next s)
    ∧ (bits[bit]? = some true →
      ∃ t, exec (.collision bit) s = .next t
        ∧ t.line.abortBits = List.replicate 8 true
        ∧ t.line.transmitter = .backoff ((s.control.number + 7 * (e.attempts + 1)) % 16 + 1)
        ∧ t.line.counters.collisions = min 65535 (s.line.counters.collisions + 1)
        ∧ (e.attempts + 1 < 10 → e.removed = false →
            t.line.tx = s.line.tx.map
              (fun x => if x.inFlight then { x with attempts := e.attempts + 1, inFlight := false } else x)
            ∧ t.line.discards = s.line.discards ∧ t.claim = s.claim ∧ t.notice = s.notice)
        ∧ (e.attempts + 1 < 10 → e.removed = true →
            t.line.tx = s.line.tx.filter (fun x => !x.inFlight) ∧ t.claim = { s.claim with removal := none })
        ∧ t.line.receiver = (Receiver.fresh.takeAll (bits.take bit ++ [false])).1
        ∧ (10 ≤ e.attempts + 1 →
            (¬(e.kind = 2 ∧ e.removed = false ∧ s.claim.record.state = .queuedR2) →
              t.line.tx = s.line.tx.filter (fun x => !x.inFlight))
            ∧ (e.kind = 2 → e.removed = false → s.claim.record.state = .queuedR2 → s.line.tx.length ≤ 24 →
              t.line.tx
                = s.line.tx.filter (fun x => !x.inFlight)
                  ++ [⟨255, .fixed (.withdraw s.claim.record.number), 0, false, false⟩])
            ∧ t.line.discards = min 255 (s.line.discards + 1)
            ∧ t.line.counters.lineFail = min 65535 (s.line.counters.lineFail + 1)
            ∧ (e.removed = true → t.claim = { s.claim with removal := none })
            ∧ (e.removed = false →
                e.kind ≠ 2 ∨ (s.claim.record.state ≠ .queuedR1 ∧ s.claim.record.state ≠ .queuedR2) →
                t.claim = s.claim)
            ∧ (e.kind = 2 → e.removed = false → s.claim.record.state = .queuedR1 ∨ s.claim.record.state = .queuedR2 →
                t.claim.record.state = .idle ∧ t.claim.record.segs = [] ∧ t.claim.record.number = s.claim.record.number
                ∧ t.claim.waited = s.claim.waited ∧ t.claim.waitedSeg = s.claim.waitedSeg
                ∧ t.claim.held = s.claim.held ∧ t.claim.removal = s.claim.removal)
            ∧ t.line.degraded = (s.line.degraded || decide (2 ≤ s.line.discards))
            ∧ (s.line.tx.length ≤ 24 → RoomFor s.notice .relayDiscarded 2 → RoomFor s.notice .lineDegraded 2 →
                t.notice.queue
                  = s.notice.queue
                    ++ (if e.kind = 7 ∧ e.removed = false then
                          [{ Notice.plain .relayDiscarded s.notice.now with station := some e.dest }]
                        else [])
                    ++ (if s.line.degraded = false ∧ 2 ≤ s.line.discards then
                          [{ Notice.plain .lineDegraded s.notice.now with
                              detail := some (min 65535 (s.line.counters.lineFail + 1)) }]
                        else [])))
        ∧ t.control = s.control ∧ t.pos = s.pos ∧ t.orders = s.orders ∧ t.cache = s.cache))
  ∧ (∀ (s : State) (n : Nat), s.line.transmitter = .backoff n →
      exec .backoffEnd s = .next (s.setLine { s.line with transmitter := .idle })))

end
end

