-- ==== Sys2Proof/Laws/State.lean ====
section
/-! SUPPORT. What replacing one block does to each block: one lemma per field per update. -/

namespace Sys2Proof.Machine

/-! ## State.setPending -/

@[simp] theorem State.setPending_pending (s : State) (b) : (s.setPending b).pending = b := rfl
@[simp] theorem State.setPending_phase (s : State) (b) : (s.setPending b).phase = s.phase := rfl
@[simp] theorem State.setPending_pins (s : State) (b) : (s.setPending b).pins = s.pins := rfl
@[simp] theorem State.setPending_control (s : State) (b) : (s.setPending b).control = s.control := rfl
@[simp] theorem State.setPending_params (s : State) (b) : (s.setPending b).params = s.params := rfl
@[simp] theorem State.setPending_pos (s : State) (b) : (s.setPending b).pos = s.pos := rfl
@[simp] theorem State.setPending_line (s : State) (b) : (s.setPending b).line = s.line := rfl
@[simp] theorem State.setPending_claim (s : State) (b) : (s.setPending b).claim = s.claim := rfl
@[simp] theorem State.setPending_resp (s : State) (b) : (s.setPending b).resp = s.resp := rfl
@[simp] theorem State.setPending_cache (s : State) (b) : (s.setPending b).cache = s.cache := rfl
@[simp] theorem State.setPending_motion (s : State) (b) : (s.setPending b).motion = s.motion := rfl
@[simp] theorem State.setPending_orders (s : State) (b) : (s.setPending b).orders = s.orders := rfl
@[simp] theorem State.setPending_lift (s : State) (b) : (s.setPending b).lift = s.lift := rfl
@[simp] theorem State.setPending_port (s : State) (b) : (s.setPending b).port = s.port := rfl
@[simp] theorem State.setPending_notice (s : State) (b) : (s.setPending b).notice = s.notice := rfl
@[simp] theorem State.setPending_self (s : State) : s.setPending s.pending = s := rfl

/-! ## State.setPhase -/

@[simp] theorem State.setPhase_pending (s : State) (b) : (s.setPhase b).pending = s.pending := rfl
@[simp] theorem State.setPhase_phase (s : State) (b) : (s.setPhase b).phase = b := rfl
@[simp] theorem State.setPhase_pins (s : State) (b) : (s.setPhase b).pins = s.pins := rfl
@[simp] theorem State.setPhase_control (s : State) (b) : (s.setPhase b).control = s.control := rfl
@[simp] theorem State.setPhase_params (s : State) (b) : (s.setPhase b).params = s.params := rfl
@[simp] theorem State.setPhase_pos (s : State) (b) : (s.setPhase b).pos = s.pos := rfl
@[simp] theorem State.setPhase_line (s : State) (b) : (s.setPhase b).line = s.line := rfl
@[simp] theorem State.setPhase_claim (s : State) (b) : (s.setPhase b).claim = s.claim := rfl
@[simp] theorem State.setPhase_resp (s : State) (b) : (s.setPhase b).resp = s.resp := rfl
@[simp] theorem State.setPhase_cache (s : State) (b) : (s.setPhase b).cache = s.cache := rfl
@[simp] theorem State.setPhase_motion (s : State) (b) : (s.setPhase b).motion = s.motion := rfl
@[simp] theorem State.setPhase_orders (s : State) (b) : (s.setPhase b).orders = s.orders := rfl
@[simp] theorem State.setPhase_lift (s : State) (b) : (s.setPhase b).lift = s.lift := rfl
@[simp] theorem State.setPhase_port (s : State) (b) : (s.setPhase b).port = s.port := rfl
@[simp] theorem State.setPhase_notice (s : State) (b) : (s.setPhase b).notice = s.notice := rfl
@[simp] theorem State.setPhase_self (s : State) : s.setPhase s.phase = s := rfl

/-! ## State.setPins -/

@[simp] theorem State.setPins_pending (s : State) (b) : (s.setPins b).pending = s.pending := rfl
@[simp] theorem State.setPins_phase (s : State) (b) : (s.setPins b).phase = s.phase := rfl
@[simp] theorem State.setPins_pins (s : State) (b) : (s.setPins b).pins = b := rfl
@[simp] theorem State.setPins_control (s : State) (b) : (s.setPins b).control = s.control := rfl
@[simp] theorem State.setPins_params (s : State) (b) : (s.setPins b).params = s.params := rfl
@[simp] theorem State.setPins_pos (s : State) (b) : (s.setPins b).pos = s.pos := rfl
@[simp] theorem State.setPins_line (s : State) (b) : (s.setPins b).line = s.line := rfl
@[simp] theorem State.setPins_claim (s : State) (b) : (s.setPins b).claim = s.claim := rfl
@[simp] theorem State.setPins_resp (s : State) (b) : (s.setPins b).resp = s.resp := rfl
@[simp] theorem State.setPins_cache (s : State) (b) : (s.setPins b).cache = s.cache := rfl
@[simp] theorem State.setPins_motion (s : State) (b) : (s.setPins b).motion = s.motion := rfl
@[simp] theorem State.setPins_orders (s : State) (b) : (s.setPins b).orders = s.orders := rfl
@[simp] theorem State.setPins_lift (s : State) (b) : (s.setPins b).lift = s.lift := rfl
@[simp] theorem State.setPins_port (s : State) (b) : (s.setPins b).port = s.port := rfl
@[simp] theorem State.setPins_notice (s : State) (b) : (s.setPins b).notice = s.notice := rfl
@[simp] theorem State.setPins_self (s : State) : s.setPins s.pins = s := rfl

/-! ## State.setControl -/

@[simp] theorem State.setControl_pending (s : State) (b) : (s.setControl b).pending = s.pending := rfl
@[simp] theorem State.setControl_phase (s : State) (b) : (s.setControl b).phase = s.phase := rfl
@[simp] theorem State.setControl_pins (s : State) (b) : (s.setControl b).pins = s.pins := rfl
@[simp] theorem State.setControl_control (s : State) (b) : (s.setControl b).control = b := rfl
@[simp] theorem State.setControl_params (s : State) (b) : (s.setControl b).params = s.params := rfl
@[simp] theorem State.setControl_pos (s : State) (b) : (s.setControl b).pos = s.pos := rfl
@[simp] theorem State.setControl_line (s : State) (b) : (s.setControl b).line = s.line := rfl
@[simp] theorem State.setControl_claim (s : State) (b) : (s.setControl b).claim = s.claim := rfl
@[simp] theorem State.setControl_resp (s : State) (b) : (s.setControl b).resp = s.resp := rfl
@[simp] theorem State.setControl_cache (s : State) (b) : (s.setControl b).cache = s.cache := rfl
@[simp] theorem State.setControl_motion (s : State) (b) : (s.setControl b).motion = s.motion := rfl
@[simp] theorem State.setControl_orders (s : State) (b) : (s.setControl b).orders = s.orders := rfl
@[simp] theorem State.setControl_lift (s : State) (b) : (s.setControl b).lift = s.lift := rfl
@[simp] theorem State.setControl_port (s : State) (b) : (s.setControl b).port = s.port := rfl
@[simp] theorem State.setControl_notice (s : State) (b) : (s.setControl b).notice = s.notice := rfl
@[simp] theorem State.setControl_self (s : State) : s.setControl s.control = s := rfl

/-! ## State.setParams -/

@[simp] theorem State.setParams_pending (s : State) (b) : (s.setParams b).pending = s.pending := rfl
@[simp] theorem State.setParams_phase (s : State) (b) : (s.setParams b).phase = s.phase := rfl
@[simp] theorem State.setParams_pins (s : State) (b) : (s.setParams b).pins = s.pins := rfl
@[simp] theorem State.setParams_control (s : State) (b) : (s.setParams b).control = s.control := rfl
@[simp] theorem State.setParams_params (s : State) (b) : (s.setParams b).params = b := rfl
@[simp] theorem State.setParams_pos (s : State) (b) : (s.setParams b).pos = s.pos := rfl
@[simp] theorem State.setParams_line (s : State) (b) : (s.setParams b).line = s.line := rfl
@[simp] theorem State.setParams_claim (s : State) (b) : (s.setParams b).claim = s.claim := rfl
@[simp] theorem State.setParams_resp (s : State) (b) : (s.setParams b).resp = s.resp := rfl
@[simp] theorem State.setParams_cache (s : State) (b) : (s.setParams b).cache = s.cache := rfl
@[simp] theorem State.setParams_motion (s : State) (b) : (s.setParams b).motion = s.motion := rfl
@[simp] theorem State.setParams_orders (s : State) (b) : (s.setParams b).orders = s.orders := rfl
@[simp] theorem State.setParams_lift (s : State) (b) : (s.setParams b).lift = s.lift := rfl
@[simp] theorem State.setParams_port (s : State) (b) : (s.setParams b).port = s.port := rfl
@[simp] theorem State.setParams_notice (s : State) (b) : (s.setParams b).notice = s.notice := rfl
@[simp] theorem State.setParams_self (s : State) : s.setParams s.params = s := rfl

/-! ## State.setPos -/

@[simp] theorem State.setPos_pending (s : State) (b) : (s.setPos b).pending = s.pending := rfl
@[simp] theorem State.setPos_phase (s : State) (b) : (s.setPos b).phase = s.phase := rfl
@[simp] theorem State.setPos_pins (s : State) (b) : (s.setPos b).pins = s.pins := rfl
@[simp] theorem State.setPos_control (s : State) (b) : (s.setPos b).control = s.control := rfl
@[simp] theorem State.setPos_params (s : State) (b) : (s.setPos b).params = s.params := rfl
@[simp] theorem State.setPos_pos (s : State) (b) : (s.setPos b).pos = b := rfl
@[simp] theorem State.setPos_line (s : State) (b) : (s.setPos b).line = s.line := rfl
@[simp] theorem State.setPos_claim (s : State) (b) : (s.setPos b).claim = s.claim := rfl
@[simp] theorem State.setPos_resp (s : State) (b) : (s.setPos b).resp = s.resp := rfl
@[simp] theorem State.setPos_cache (s : State) (b) : (s.setPos b).cache = s.cache := rfl
@[simp] theorem State.setPos_motion (s : State) (b) : (s.setPos b).motion = s.motion := rfl
@[simp] theorem State.setPos_orders (s : State) (b) : (s.setPos b).orders = s.orders := rfl
@[simp] theorem State.setPos_lift (s : State) (b) : (s.setPos b).lift = s.lift := rfl
@[simp] theorem State.setPos_port (s : State) (b) : (s.setPos b).port = s.port := rfl
@[simp] theorem State.setPos_notice (s : State) (b) : (s.setPos b).notice = s.notice := rfl
@[simp] theorem State.setPos_self (s : State) : s.setPos s.pos = s := rfl

/-! ## State.setLine -/

@[simp] theorem State.setLine_pending (s : State) (b) : (s.setLine b).pending = s.pending := rfl
@[simp] theorem State.setLine_phase (s : State) (b) : (s.setLine b).phase = s.phase := rfl
@[simp] theorem State.setLine_pins (s : State) (b) : (s.setLine b).pins = s.pins := rfl
@[simp] theorem State.setLine_control (s : State) (b) : (s.setLine b).control = s.control := rfl
@[simp] theorem State.setLine_params (s : State) (b) : (s.setLine b).params = s.params := rfl
@[simp] theorem State.setLine_pos (s : State) (b) : (s.setLine b).pos = s.pos := rfl
@[simp] theorem State.setLine_line (s : State) (b) : (s.setLine b).line = b := rfl
@[simp] theorem State.setLine_claim (s : State) (b) : (s.setLine b).claim = s.claim := rfl
@[simp] theorem State.setLine_resp (s : State) (b) : (s.setLine b).resp = s.resp := rfl
@[simp] theorem State.setLine_cache (s : State) (b) : (s.setLine b).cache = s.cache := rfl
@[simp] theorem State.setLine_motion (s : State) (b) : (s.setLine b).motion = s.motion := rfl
@[simp] theorem State.setLine_orders (s : State) (b) : (s.setLine b).orders = s.orders := rfl
@[simp] theorem State.setLine_lift (s : State) (b) : (s.setLine b).lift = s.lift := rfl
@[simp] theorem State.setLine_port (s : State) (b) : (s.setLine b).port = s.port := rfl
@[simp] theorem State.setLine_notice (s : State) (b) : (s.setLine b).notice = s.notice := rfl
@[simp] theorem State.setLine_self (s : State) : s.setLine s.line = s := rfl

/-! ## State.setClaim -/

@[simp] theorem State.setClaim_pending (s : State) (b) : (s.setClaim b).pending = s.pending := rfl
@[simp] theorem State.setClaim_phase (s : State) (b) : (s.setClaim b).phase = s.phase := rfl
@[simp] theorem State.setClaim_pins (s : State) (b) : (s.setClaim b).pins = s.pins := rfl
@[simp] theorem State.setClaim_control (s : State) (b) : (s.setClaim b).control = s.control := rfl
@[simp] theorem State.setClaim_params (s : State) (b) : (s.setClaim b).params = s.params := rfl
@[simp] theorem State.setClaim_pos (s : State) (b) : (s.setClaim b).pos = s.pos := rfl
@[simp] theorem State.setClaim_line (s : State) (b) : (s.setClaim b).line = s.line := rfl
@[simp] theorem State.setClaim_claim (s : State) (b) : (s.setClaim b).claim = b := rfl
@[simp] theorem State.setClaim_resp (s : State) (b) : (s.setClaim b).resp = s.resp := rfl
@[simp] theorem State.setClaim_cache (s : State) (b) : (s.setClaim b).cache = s.cache := rfl
@[simp] theorem State.setClaim_motion (s : State) (b) : (s.setClaim b).motion = s.motion := rfl
@[simp] theorem State.setClaim_orders (s : State) (b) : (s.setClaim b).orders = s.orders := rfl
@[simp] theorem State.setClaim_lift (s : State) (b) : (s.setClaim b).lift = s.lift := rfl
@[simp] theorem State.setClaim_port (s : State) (b) : (s.setClaim b).port = s.port := rfl
@[simp] theorem State.setClaim_notice (s : State) (b) : (s.setClaim b).notice = s.notice := rfl
@[simp] theorem State.setClaim_self (s : State) : s.setClaim s.claim = s := rfl

/-! ## State.setResp -/

@[simp] theorem State.setResp_pending (s : State) (b) : (s.setResp b).pending = s.pending := rfl
@[simp] theorem State.setResp_phase (s : State) (b) : (s.setResp b).phase = s.phase := rfl
@[simp] theorem State.setResp_pins (s : State) (b) : (s.setResp b).pins = s.pins := rfl
@[simp] theorem State.setResp_control (s : State) (b) : (s.setResp b).control = s.control := rfl
@[simp] theorem State.setResp_params (s : State) (b) : (s.setResp b).params = s.params := rfl
@[simp] theorem State.setResp_pos (s : State) (b) : (s.setResp b).pos = s.pos := rfl
@[simp] theorem State.setResp_line (s : State) (b) : (s.setResp b).line = s.line := rfl
@[simp] theorem State.setResp_claim (s : State) (b) : (s.setResp b).claim = s.claim := rfl
@[simp] theorem State.setResp_resp (s : State) (b) : (s.setResp b).resp = b := rfl
@[simp] theorem State.setResp_cache (s : State) (b) : (s.setResp b).cache = s.cache := rfl
@[simp] theorem State.setResp_motion (s : State) (b) : (s.setResp b).motion = s.motion := rfl
@[simp] theorem State.setResp_orders (s : State) (b) : (s.setResp b).orders = s.orders := rfl
@[simp] theorem State.setResp_lift (s : State) (b) : (s.setResp b).lift = s.lift := rfl
@[simp] theorem State.setResp_port (s : State) (b) : (s.setResp b).port = s.port := rfl
@[simp] theorem State.setResp_notice (s : State) (b) : (s.setResp b).notice = s.notice := rfl
@[simp] theorem State.setResp_self (s : State) : s.setResp s.resp = s := rfl

/-! ## State.setCache -/

@[simp] theorem State.setCache_pending (s : State) (b) : (s.setCache b).pending = s.pending := rfl
@[simp] theorem State.setCache_phase (s : State) (b) : (s.setCache b).phase = s.phase := rfl
@[simp] theorem State.setCache_pins (s : State) (b) : (s.setCache b).pins = s.pins := rfl
@[simp] theorem State.setCache_control (s : State) (b) : (s.setCache b).control = s.control := rfl
@[simp] theorem State.setCache_params (s : State) (b) : (s.setCache b).params = s.params := rfl
@[simp] theorem State.setCache_pos (s : State) (b) : (s.setCache b).pos = s.pos := rfl
@[simp] theorem State.setCache_line (s : State) (b) : (s.setCache b).line = s.line := rfl
@[simp] theorem State.setCache_claim (s : State) (b) : (s.setCache b).claim = s.claim := rfl
@[simp] theorem State.setCache_resp (s : State) (b) : (s.setCache b).resp = s.resp := rfl
@[simp] theorem State.setCache_cache (s : State) (b) : (s.setCache b).cache = b := rfl
@[simp] theorem State.setCache_motion (s : State) (b) : (s.setCache b).motion = s.motion := rfl
@[simp] theorem State.setCache_orders (s : State) (b) : (s.setCache b).orders = s.orders := rfl
@[simp] theorem State.setCache_lift (s : State) (b) : (s.setCache b).lift = s.lift := rfl
@[simp] theorem State.setCache_port (s : State) (b) : (s.setCache b).port = s.port := rfl
@[simp] theorem State.setCache_notice (s : State) (b) : (s.setCache b).notice = s.notice := rfl
@[simp] theorem State.setCache_self (s : State) : s.setCache s.cache = s := rfl

/-! ## State.setMotion -/

@[simp] theorem State.setMotion_pending (s : State) (b) : (s.setMotion b).pending = s.pending := rfl
@[simp] theorem State.setMotion_phase (s : State) (b) : (s.setMotion b).phase = s.phase := rfl
@[simp] theorem State.setMotion_pins (s : State) (b) : (s.setMotion b).pins = s.pins := rfl
@[simp] theorem State.setMotion_control (s : State) (b) : (s.setMotion b).control = s.control := rfl
@[simp] theorem State.setMotion_params (s : State) (b) : (s.setMotion b).params = s.params := rfl
@[simp] theorem State.setMotion_pos (s : State) (b) : (s.setMotion b).pos = s.pos := rfl
@[simp] theorem State.setMotion_line (s : State) (b) : (s.setMotion b).line = s.line := rfl
@[simp] theorem State.setMotion_claim (s : State) (b) : (s.setMotion b).claim = s.claim := rfl
@[simp] theorem State.setMotion_resp (s : State) (b) : (s.setMotion b).resp = s.resp := rfl
@[simp] theorem State.setMotion_cache (s : State) (b) : (s.setMotion b).cache = s.cache := rfl
@[simp] theorem State.setMotion_motion (s : State) (b) : (s.setMotion b).motion = b := rfl
@[simp] theorem State.setMotion_orders (s : State) (b) : (s.setMotion b).orders = s.orders := rfl
@[simp] theorem State.setMotion_lift (s : State) (b) : (s.setMotion b).lift = s.lift := rfl
@[simp] theorem State.setMotion_port (s : State) (b) : (s.setMotion b).port = s.port := rfl
@[simp] theorem State.setMotion_notice (s : State) (b) : (s.setMotion b).notice = s.notice := rfl
@[simp] theorem State.setMotion_self (s : State) : s.setMotion s.motion = s := rfl

/-! ## State.setOrders -/

@[simp] theorem State.setOrders_pending (s : State) (b) : (s.setOrders b).pending = s.pending := rfl
@[simp] theorem State.setOrders_phase (s : State) (b) : (s.setOrders b).phase = s.phase := rfl
@[simp] theorem State.setOrders_pins (s : State) (b) : (s.setOrders b).pins = s.pins := rfl
@[simp] theorem State.setOrders_control (s : State) (b) : (s.setOrders b).control = s.control := rfl
@[simp] theorem State.setOrders_params (s : State) (b) : (s.setOrders b).params = s.params := rfl
@[simp] theorem State.setOrders_pos (s : State) (b) : (s.setOrders b).pos = s.pos := rfl
@[simp] theorem State.setOrders_line (s : State) (b) : (s.setOrders b).line = s.line := rfl
@[simp] theorem State.setOrders_claim (s : State) (b) : (s.setOrders b).claim = s.claim := rfl
@[simp] theorem State.setOrders_resp (s : State) (b) : (s.setOrders b).resp = s.resp := rfl
@[simp] theorem State.setOrders_cache (s : State) (b) : (s.setOrders b).cache = s.cache := rfl
@[simp] theorem State.setOrders_motion (s : State) (b) : (s.setOrders b).motion = s.motion := rfl
@[simp] theorem State.setOrders_orders (s : State) (b) : (s.setOrders b).orders = b := rfl
@[simp] theorem State.setOrders_lift (s : State) (b) : (s.setOrders b).lift = s.lift := rfl
@[simp] theorem State.setOrders_port (s : State) (b) : (s.setOrders b).port = s.port := rfl
@[simp] theorem State.setOrders_notice (s : State) (b) : (s.setOrders b).notice = s.notice := rfl
@[simp] theorem State.setOrders_self (s : State) : s.setOrders s.orders = s := rfl

/-! ## State.setLift -/

@[simp] theorem State.setLift_pending (s : State) (b) : (s.setLift b).pending = s.pending := rfl
@[simp] theorem State.setLift_phase (s : State) (b) : (s.setLift b).phase = s.phase := rfl
@[simp] theorem State.setLift_pins (s : State) (b) : (s.setLift b).pins = s.pins := rfl
@[simp] theorem State.setLift_control (s : State) (b) : (s.setLift b).control = s.control := rfl
@[simp] theorem State.setLift_params (s : State) (b) : (s.setLift b).params = s.params := rfl
@[simp] theorem State.setLift_pos (s : State) (b) : (s.setLift b).pos = s.pos := rfl
@[simp] theorem State.setLift_line (s : State) (b) : (s.setLift b).line = s.line := rfl
@[simp] theorem State.setLift_claim (s : State) (b) : (s.setLift b).claim = s.claim := rfl
@[simp] theorem State.setLift_resp (s : State) (b) : (s.setLift b).resp = s.resp := rfl
@[simp] theorem State.setLift_cache (s : State) (b) : (s.setLift b).cache = s.cache := rfl
@[simp] theorem State.setLift_motion (s : State) (b) : (s.setLift b).motion = s.motion := rfl
@[simp] theorem State.setLift_orders (s : State) (b) : (s.setLift b).orders = s.orders := rfl
@[simp] theorem State.setLift_lift (s : State) (b) : (s.setLift b).lift = b := rfl
@[simp] theorem State.setLift_port (s : State) (b) : (s.setLift b).port = s.port := rfl
@[simp] theorem State.setLift_notice (s : State) (b) : (s.setLift b).notice = s.notice := rfl
@[simp] theorem State.setLift_self (s : State) : s.setLift s.lift = s := rfl

/-! ## State.setPort -/

@[simp] theorem State.setPort_pending (s : State) (b) : (s.setPort b).pending = s.pending := rfl
@[simp] theorem State.setPort_phase (s : State) (b) : (s.setPort b).phase = s.phase := rfl
@[simp] theorem State.setPort_pins (s : State) (b) : (s.setPort b).pins = s.pins := rfl
@[simp] theorem State.setPort_control (s : State) (b) : (s.setPort b).control = s.control := rfl
@[simp] theorem State.setPort_params (s : State) (b) : (s.setPort b).params = s.params := rfl
@[simp] theorem State.setPort_pos (s : State) (b) : (s.setPort b).pos = s.pos := rfl
@[simp] theorem State.setPort_line (s : State) (b) : (s.setPort b).line = s.line := rfl
@[simp] theorem State.setPort_claim (s : State) (b) : (s.setPort b).claim = s.claim := rfl
@[simp] theorem State.setPort_resp (s : State) (b) : (s.setPort b).resp = s.resp := rfl
@[simp] theorem State.setPort_cache (s : State) (b) : (s.setPort b).cache = s.cache := rfl
@[simp] theorem State.setPort_motion (s : State) (b) : (s.setPort b).motion = s.motion := rfl
@[simp] theorem State.setPort_orders (s : State) (b) : (s.setPort b).orders = s.orders := rfl
@[simp] theorem State.setPort_lift (s : State) (b) : (s.setPort b).lift = s.lift := rfl
@[simp] theorem State.setPort_port (s : State) (b) : (s.setPort b).port = b := rfl
@[simp] theorem State.setPort_notice (s : State) (b) : (s.setPort b).notice = s.notice := rfl
@[simp] theorem State.setPort_self (s : State) : s.setPort s.port = s := rfl

/-! ## State.setNotice -/

@[simp] theorem State.setNotice_pending (s : State) (b) : (s.setNotice b).pending = s.pending := rfl
@[simp] theorem State.setNotice_phase (s : State) (b) : (s.setNotice b).phase = s.phase := rfl
@[simp] theorem State.setNotice_pins (s : State) (b) : (s.setNotice b).pins = s.pins := rfl
@[simp] theorem State.setNotice_control (s : State) (b) : (s.setNotice b).control = s.control := rfl
@[simp] theorem State.setNotice_params (s : State) (b) : (s.setNotice b).params = s.params := rfl
@[simp] theorem State.setNotice_pos (s : State) (b) : (s.setNotice b).pos = s.pos := rfl
@[simp] theorem State.setNotice_line (s : State) (b) : (s.setNotice b).line = s.line := rfl
@[simp] theorem State.setNotice_claim (s : State) (b) : (s.setNotice b).claim = s.claim := rfl
@[simp] theorem State.setNotice_resp (s : State) (b) : (s.setNotice b).resp = s.resp := rfl
@[simp] theorem State.setNotice_cache (s : State) (b) : (s.setNotice b).cache = s.cache := rfl
@[simp] theorem State.setNotice_motion (s : State) (b) : (s.setNotice b).motion = s.motion := rfl
@[simp] theorem State.setNotice_orders (s : State) (b) : (s.setNotice b).orders = s.orders := rfl
@[simp] theorem State.setNotice_lift (s : State) (b) : (s.setNotice b).lift = s.lift := rfl
@[simp] theorem State.setNotice_port (s : State) (b) : (s.setNotice b).port = s.port := rfl
@[simp] theorem State.setNotice_notice (s : State) (b) : (s.setNotice b).notice = b := rfl
@[simp] theorem State.setNotice_self (s : State) : s.setNotice s.notice = s := rfl

/-! ## State.setRecord -/

@[simp] theorem State.setRecord_claim (s : State) (r) : (s.setRecord r).claim = { s.claim with record := r } := rfl
@[simp] theorem State.setRecord_pending (s : State) (r) : (s.setRecord r).pending = s.pending := rfl
@[simp] theorem State.setRecord_phase (s : State) (r) : (s.setRecord r).phase = s.phase := rfl
@[simp] theorem State.setRecord_pins (s : State) (r) : (s.setRecord r).pins = s.pins := rfl
@[simp] theorem State.setRecord_control (s : State) (r) : (s.setRecord r).control = s.control := rfl
@[simp] theorem State.setRecord_params (s : State) (r) : (s.setRecord r).params = s.params := rfl
@[simp] theorem State.setRecord_pos (s : State) (r) : (s.setRecord r).pos = s.pos := rfl
@[simp] theorem State.setRecord_line (s : State) (r) : (s.setRecord r).line = s.line := rfl
@[simp] theorem State.setRecord_resp (s : State) (r) : (s.setRecord r).resp = s.resp := rfl
@[simp] theorem State.setRecord_cache (s : State) (r) : (s.setRecord r).cache = s.cache := rfl
@[simp] theorem State.setRecord_motion (s : State) (r) : (s.setRecord r).motion = s.motion := rfl
@[simp] theorem State.setRecord_orders (s : State) (r) : (s.setRecord r).orders = s.orders := rfl
@[simp] theorem State.setRecord_lift (s : State) (r) : (s.setRecord r).lift = s.lift := rfl
@[simp] theorem State.setRecord_port (s : State) (r) : (s.setRecord r).port = s.port := rfl
@[simp] theorem State.setRecord_notice (s : State) (r) : (s.setRecord r).notice = s.notice := rfl

end Sys2Proof.Machine
end

