-- ==== Sys2Proof/Laws/Frame.lean ====
section
/-! SUPPORT. The frame of every shared operation: the blocks it leaves as they are, whatever it does to the others. A
proof about a command cites these in place of unfolding the operation. -/

namespace Sys2Proof.Machine

/-- What each step of a fold keeps, the fold keeps. -/
theorem foldl_keeps {α β : Type} (g : State → β) (f : State → α → State) (h : ∀ s x, g (f s x) = g s) (l : List α) :
    ∀ s, g (l.foldl f s) = g s := by
  induction l with
  | nil => intro s; rfl
  | cons x l ih => intro s; rw [List.foldl_cons, ih, h]

@[simp] theorem State.raise_frame (s : State) (n : Notice) :
    (s.raise n).pending = s.pending ∧ (s.raise n).phase = s.phase ∧ (s.raise n).pins = s.pins ∧
      (s.raise n).control = s.control ∧ (s.raise n).params = s.params ∧ (s.raise n).pos = s.pos ∧
      (s.raise n).line = s.line ∧ (s.raise n).claim = s.claim ∧ (s.raise n).resp = s.resp ∧
      (s.raise n).cache = s.cache ∧ (s.raise n).motion = s.motion ∧ (s.raise n).orders = s.orders ∧
      (s.raise n).lift = s.lift ∧ (s.raise n).port = s.port := by
  simp [State.raise]

@[simp] theorem State.offerFault_frame (s : State) (f : FaultOffer) :
    (s.offerFault f).pending = s.pending ∧ (s.offerFault f).phase = s.phase ∧ (s.offerFault f).pins = s.pins ∧
      (s.offerFault f).control = s.control ∧ (s.offerFault f).params = s.params ∧ (s.offerFault f).pos = s.pos ∧
      (s.offerFault f).line = s.line ∧ (s.offerFault f).claim = s.claim ∧ (s.offerFault f).resp = s.resp ∧
      (s.offerFault f).cache = s.cache ∧ (s.offerFault f).motion = s.motion ∧ (s.offerFault f).orders = s.orders ∧
      (s.offerFault f).lift = s.lift ∧ (s.offerFault f).port = s.port := by
  unfold State.offerFault; split <;> simp

@[simp] theorem State.dropCause_frame (s : State) (x : Cause) :
    (s.dropCause x).pending = s.pending ∧ (s.dropCause x).phase = s.phase ∧ (s.dropCause x).pins = s.pins ∧
      (s.dropCause x).params = s.params ∧ (s.dropCause x).pos = s.pos ∧ (s.dropCause x).line = s.line ∧
      (s.dropCause x).claim = s.claim ∧ (s.dropCause x).resp = s.resp ∧ (s.dropCause x).cache = s.cache ∧
      (s.dropCause x).motion = s.motion ∧ (s.dropCause x).orders = s.orders ∧ (s.dropCause x).lift = s.lift ∧
      (s.dropCause x).port = s.port ∧ (s.dropCause x).notice = s.notice := by
  simp [State.dropCause]

@[simp] theorem State.addCause_frame (s : State) (x : Cause) :
    (s.addCause x).pending = s.pending ∧ (s.addCause x).phase = s.phase ∧ (s.addCause x).pins = s.pins ∧
      (s.addCause x).params = s.params ∧ (s.addCause x).pos = s.pos ∧ (s.addCause x).line = s.line ∧
      (s.addCause x).claim = s.claim ∧ (s.addCause x).resp = s.resp ∧ (s.addCause x).cache = s.cache ∧
      (s.addCause x).motion = s.motion ∧ (s.addCause x).orders = s.orders ∧ (s.addCause x).lift = s.lift ∧
      (s.addCause x).port = s.port ∧ (s.addCause x).notice = s.notice := by
  simp [State.addCause]

@[simp] theorem State.askStop_frame (s : State) (m : StopMember) :
    (s.askStop m).pending = s.pending ∧ (s.askStop m).phase = s.phase ∧ (s.askStop m).pins = s.pins ∧
      (s.askStop m).control = s.control ∧ (s.askStop m).params = s.params ∧ (s.askStop m).pos = s.pos ∧
      (s.askStop m).line = s.line ∧ (s.askStop m).claim = s.claim ∧ (s.askStop m).resp = s.resp ∧
      (s.askStop m).cache = s.cache ∧ (s.askStop m).orders = s.orders ∧ (s.askStop m).lift = s.lift ∧
      (s.askStop m).port = s.port ∧ (s.askStop m).notice = s.notice := by
  simp [State.askStop]

@[simp] theorem State.withdrawStop_frame (s : State) (m : StopMember) :
    (s.withdrawStop m).pending = s.pending ∧ (s.withdrawStop m).phase = s.phase ∧
      (s.withdrawStop m).pins = s.pins ∧ (s.withdrawStop m).control = s.control ∧
      (s.withdrawStop m).params = s.params ∧ (s.withdrawStop m).pos = s.pos ∧ (s.withdrawStop m).line = s.line ∧
      (s.withdrawStop m).claim = s.claim ∧ (s.withdrawStop m).resp = s.resp ∧ (s.withdrawStop m).cache = s.cache ∧
      (s.withdrawStop m).orders = s.orders ∧ (s.withdrawStop m).lift = s.lift ∧ (s.withdrawStop m).port = s.port ∧
      (s.withdrawStop m).notice = s.notice := by
  simp [State.withdrawStop]

@[simp] theorem State.placeReply_frame (s : State) (r : Reply) :
    (s.placeReply r).pending = s.pending ∧ (s.placeReply r).phase = s.phase ∧ (s.placeReply r).pins = s.pins ∧
      (s.placeReply r).control = s.control ∧ (s.placeReply r).params = s.params ∧ (s.placeReply r).pos = s.pos ∧
      (s.placeReply r).line = s.line ∧ (s.placeReply r).claim = s.claim ∧ (s.placeReply r).resp = s.resp ∧
      (s.placeReply r).cache = s.cache ∧ (s.placeReply r).motion = s.motion ∧ (s.placeReply r).orders = s.orders ∧
      (s.placeReply r).lift = s.lift ∧ (s.placeReply r).notice = s.notice := by
  simp [State.placeReply]

@[simp] theorem State.chooseExpected_frame (s : State) :
    (s.chooseExpected).pending = s.pending ∧ (s.chooseExpected).phase = s.phase ∧
      (s.chooseExpected).pins = s.pins ∧ (s.chooseExpected).control = s.control ∧
      (s.chooseExpected).params = s.params ∧ (s.chooseExpected).line = s.line ∧
      (s.chooseExpected).claim = s.claim ∧ (s.chooseExpected).resp = s.resp ∧ (s.chooseExpected).cache = s.cache ∧
      (s.chooseExpected).motion = s.motion ∧ (s.chooseExpected).orders = s.orders ∧
      (s.chooseExpected).lift = s.lift ∧ (s.chooseExpected).port = s.port ∧ (s.chooseExpected).notice = s.notice := by
  simp [State.chooseExpected]

/-! ## Lane -/

@[simp] theorem State.enqueue_frame (s : State) (d : Nat) (x : TxContent) :
    (s.enqueue d x).pending = s.pending ∧ (s.enqueue d x).phase = s.phase ∧ (s.enqueue d x).pins = s.pins ∧
      (s.enqueue d x).control = s.control ∧ (s.enqueue d x).params = s.params ∧ (s.enqueue d x).pos = s.pos ∧
      (s.enqueue d x).claim = s.claim ∧ (s.enqueue d x).resp = s.resp ∧ (s.enqueue d x).cache = s.cache ∧
      (s.enqueue d x).motion = s.motion ∧ (s.enqueue d x).orders = s.orders ∧ (s.enqueue d x).lift = s.lift ∧
      (s.enqueue d x).port = s.port ∧ (s.enqueue d x).notice = s.notice := by
  simp [State.enqueue]

@[simp] theorem State.dropFrame_frame (s : State) :
    (s.dropFrame).pending = s.pending ∧ (s.dropFrame).phase = s.phase ∧ (s.dropFrame).pins = s.pins ∧
      (s.dropFrame).control = s.control ∧ (s.dropFrame).params = s.params ∧ (s.dropFrame).pos = s.pos ∧
      (s.dropFrame).claim = s.claim ∧ (s.dropFrame).resp = s.resp ∧ (s.dropFrame).cache = s.cache ∧
      (s.dropFrame).motion = s.motion ∧ (s.dropFrame).orders = s.orders ∧ (s.dropFrame).lift = s.lift ∧
      (s.dropFrame).port = s.port ∧ (s.dropFrame).notice = s.notice := by
  simp [State.dropFrame]

@[simp] theorem State.relayDiscarded_frame (s : State) (t d : Nat) :
    (s.relayDiscarded t d).pending = s.pending ∧ (s.relayDiscarded t d).phase = s.phase ∧
      (s.relayDiscarded t d).pins = s.pins ∧ (s.relayDiscarded t d).control = s.control ∧
      (s.relayDiscarded t d).params = s.params ∧ (s.relayDiscarded t d).pos = s.pos ∧
      (s.relayDiscarded t d).line = s.line ∧ (s.relayDiscarded t d).claim = s.claim ∧
      (s.relayDiscarded t d).resp = s.resp ∧ (s.relayDiscarded t d).cache = s.cache ∧
      (s.relayDiscarded t d).motion = s.motion ∧ (s.relayDiscarded t d).orders = s.orders ∧
      (s.relayDiscarded t d).lift = s.lift ∧ (s.relayDiscarded t d).port = s.port := by
  simp [State.relayDiscarded]

@[simp] theorem State.displace_frame (s : State) (t k : Nat) (e : TxEntry) :
    (s.displace t k e).pending = s.pending ∧ (s.displace t k e).phase = s.phase ∧
      (s.displace t k e).pins = s.pins ∧ (s.displace t k e).control = s.control ∧
      (s.displace t k e).params = s.params ∧ (s.displace t k e).pos = s.pos ∧ (s.displace t k e).claim = s.claim ∧
      (s.displace t k e).resp = s.resp ∧ (s.displace t k e).cache = s.cache ∧
      (s.displace t k e).motion = s.motion ∧ (s.displace t k e).orders = s.orders ∧
      (s.displace t k e).lift = s.lift ∧ (s.displace t k e).port = s.port := by
  unfold State.displace; split <;> simp

@[simp] theorem State.offer_frame (s : State) (t d : Nat) (x : TxContent) :
    (s.offer t d x).1.pending = s.pending ∧ (s.offer t d x).1.phase = s.phase ∧ (s.offer t d x).1.pins = s.pins ∧
      (s.offer t d x).1.control = s.control ∧ (s.offer t d x).1.params = s.params ∧ (s.offer t d x).1.pos = s.pos ∧
      (s.offer t d x).1.claim = s.claim ∧ (s.offer t d x).1.resp = s.resp ∧ (s.offer t d x).1.cache = s.cache ∧
      (s.offer t d x).1.motion = s.motion ∧ (s.offer t d x).1.orders = s.orders ∧ (s.offer t d x).1.lift = s.lift ∧
      (s.offer t d x).1.port = s.port := by
  unfold State.offer; (repeat' split) <;> simp

@[simp] theorem State.send_frame (s : State) (t d : Nat) (x : Body) :
    (s.send t d x).pending = s.pending ∧ (s.send t d x).phase = s.phase ∧ (s.send t d x).pins = s.pins ∧
      (s.send t d x).control = s.control ∧ (s.send t d x).params = s.params ∧ (s.send t d x).pos = s.pos ∧
      (s.send t d x).claim = s.claim ∧ (s.send t d x).resp = s.resp ∧ (s.send t d x).cache = s.cache ∧
      (s.send t d x).motion = s.motion ∧ (s.send t d x).orders = s.orders ∧ (s.send t d x).lift = s.lift ∧
      (s.send t d x).port = s.port := by
  simp [State.send]

@[simp] theorem State.offerBeacon_frame (s : State) (t : Nat) :
    (s.offerBeacon t).pending = s.pending ∧ (s.offerBeacon t).phase = s.phase ∧ (s.offerBeacon t).pins = s.pins ∧
      (s.offerBeacon t).control = s.control ∧ (s.offerBeacon t).params = s.params ∧ (s.offerBeacon t).pos = s.pos ∧
      (s.offerBeacon t).claim = s.claim ∧ (s.offerBeacon t).resp = s.resp ∧ (s.offerBeacon t).cache = s.cache ∧
      (s.offerBeacon t).motion = s.motion ∧ (s.offerBeacon t).orders = s.orders ∧ (s.offerBeacon t).lift = s.lift ∧
      (s.offerBeacon t).port = s.port := by
  simp [State.offerBeacon]

/-! ## Claim -/

@[simp] theorem State.toIdle_frame (s : State) :
    (s.toIdle).pending = s.pending ∧ (s.toIdle).phase = s.phase ∧ (s.toIdle).pins = s.pins ∧
      (s.toIdle).control = s.control ∧ (s.toIdle).params = s.params ∧ (s.toIdle).pos = s.pos ∧
      (s.toIdle).line = s.line ∧ (s.toIdle).resp = s.resp ∧ (s.toIdle).cache = s.cache ∧
      (s.toIdle).orders = s.orders ∧ (s.toIdle).lift = s.lift ∧ (s.toIdle).port = s.port ∧
      (s.toIdle).notice = s.notice := by
  unfold State.toIdle; split <;> simp

@[simp] theorem State.enterBlocked_frame (s : State) (n x : Nat) :
    (s.enterBlocked n x).pending = s.pending ∧ (s.enterBlocked n x).phase = s.phase ∧
      (s.enterBlocked n x).pins = s.pins ∧ (s.enterBlocked n x).control = s.control ∧
      (s.enterBlocked n x).params = s.params ∧ (s.enterBlocked n x).pos = s.pos ∧
      (s.enterBlocked n x).line = s.line ∧ (s.enterBlocked n x).resp = s.resp ∧
      (s.enterBlocked n x).cache = s.cache ∧ (s.enterBlocked n x).motion = s.motion ∧
      (s.enterBlocked n x).orders = s.orders ∧ (s.enterBlocked n x).lift = s.lift ∧
      (s.enterBlocked n x).port = s.port ∧ (s.enterBlocked n x).notice = s.notice := by
  simp [State.enterBlocked]

@[simp] theorem State.enterContested_frame (s : State) (n : Nat) (r : Rival) :
    (s.enterContested n r).pending = s.pending ∧ (s.enterContested n r).phase = s.phase ∧
      (s.enterContested n r).pins = s.pins ∧ (s.enterContested n r).control = s.control ∧
      (s.enterContested n r).params = s.params ∧ (s.enterContested n r).pos = s.pos ∧
      (s.enterContested n r).line = s.line ∧ (s.enterContested n r).resp = s.resp ∧
      (s.enterContested n r).cache = s.cache ∧ (s.enterContested n r).motion = s.motion ∧
      (s.enterContested n r).orders = s.orders ∧ (s.enterContested n r).lift = s.lift ∧
      (s.enterContested n r).port = s.port ∧ (s.enterContested n r).notice = s.notice := by
  simp [State.enterContested]

@[simp] theorem State.sendWithdraw_frame (s : State) (t n : Nat) :
    (s.sendWithdraw t n).pending = s.pending ∧ (s.sendWithdraw t n).phase = s.phase ∧
      (s.sendWithdraw t n).pins = s.pins ∧ (s.sendWithdraw t n).control = s.control ∧
      (s.sendWithdraw t n).params = s.params ∧ (s.sendWithdraw t n).pos = s.pos ∧
      (s.sendWithdraw t n).claim = s.claim ∧ (s.sendWithdraw t n).resp = s.resp ∧
      (s.sendWithdraw t n).cache = s.cache ∧ (s.sendWithdraw t n).motion = s.motion ∧
      (s.sendWithdraw t n).orders = s.orders ∧ (s.sendWithdraw t n).lift = s.lift ∧
      (s.sendWithdraw t n).port = s.port := by
  simp [State.sendWithdraw]

@[simp] theorem State.askRemoval_frame (s : State) (o : Bool) :
    (s.askRemoval o).pending = s.pending ∧ (s.askRemoval o).phase = s.phase ∧ (s.askRemoval o).pins = s.pins ∧
      (s.askRemoval o).control = s.control ∧ (s.askRemoval o).params = s.params ∧ (s.askRemoval o).pos = s.pos ∧
      (s.askRemoval o).resp = s.resp ∧ (s.askRemoval o).cache = s.cache ∧ (s.askRemoval o).motion = s.motion ∧
      (s.askRemoval o).orders = s.orders ∧ (s.askRemoval o).lift = s.lift ∧ (s.askRemoval o).port = s.port ∧
      (s.askRemoval o).notice = s.notice := by
  unfold State.askRemoval; split <;> simp

@[simp] theorem State.endClaim_frame (s : State) (t : Nat) :
    (s.endClaim t).pending = s.pending ∧ (s.endClaim t).phase = s.phase ∧ (s.endClaim t).pins = s.pins ∧
      (s.endClaim t).control = s.control ∧ (s.endClaim t).params = s.params ∧ (s.endClaim t).pos = s.pos ∧
      (s.endClaim t).resp = s.resp ∧ (s.endClaim t).cache = s.cache ∧ (s.endClaim t).orders = s.orders ∧
      (s.endClaim t).lift = s.lift ∧ (s.endClaim t).port = s.port := by
  unfold State.endClaim; split <;> simp

@[simp] theorem State.abandonClaim_frame (s : State) (t : Nat) :
    (s.abandonClaim t).pending = s.pending ∧ (s.abandonClaim t).phase = s.phase ∧
      (s.abandonClaim t).pins = s.pins ∧ (s.abandonClaim t).control = s.control ∧
      (s.abandonClaim t).params = s.params ∧ (s.abandonClaim t).pos = s.pos ∧ (s.abandonClaim t).resp = s.resp ∧
      (s.abandonClaim t).cache = s.cache ∧ (s.abandonClaim t).orders = s.orders ∧
      (s.abandonClaim t).lift = s.lift ∧ (s.abandonClaim t).port = s.port := by
  simp [State.abandonClaim]

@[simp] theorem State.claimUndelivered_frame (s : State) (t : Nat) :
    (s.claimUndelivered t).pending = s.pending ∧ (s.claimUndelivered t).phase = s.phase ∧
      (s.claimUndelivered t).pins = s.pins ∧ (s.claimUndelivered t).control = s.control ∧
      (s.claimUndelivered t).params = s.params ∧ (s.claimUndelivered t).pos = s.pos ∧
      (s.claimUndelivered t).resp = s.resp ∧ (s.claimUndelivered t).cache = s.cache ∧
      (s.claimUndelivered t).orders = s.orders ∧ (s.claimUndelivered t).lift = s.lift ∧
      (s.claimUndelivered t).port = s.port := by
  unfold State.claimUndelivered; split <;> simp

@[simp] theorem State.offerClaim_frame (s : State) (t : Nat) :
    (s.offerClaim t).pending = s.pending ∧ (s.offerClaim t).phase = s.phase ∧ (s.offerClaim t).pins = s.pins ∧
      (s.offerClaim t).control = s.control ∧ (s.offerClaim t).params = s.params ∧ (s.offerClaim t).pos = s.pos ∧
      (s.offerClaim t).resp = s.resp ∧ (s.offerClaim t).cache = s.cache ∧ (s.offerClaim t).orders = s.orders ∧
      (s.offerClaim t).lift = s.lift ∧ (s.offerClaim t).port = s.port := by
  simp only [State.offerClaim]; split <;> simp

@[simp] theorem State.fileReport_frame (s : State) (x : Nat) (r : PeerReport) :
    (s.fileReport x r).pending = s.pending ∧ (s.fileReport x r).phase = s.phase ∧
      (s.fileReport x r).pins = s.pins ∧ (s.fileReport x r).control = s.control ∧
      (s.fileReport x r).params = s.params ∧ (s.fileReport x r).pos = s.pos ∧ (s.fileReport x r).line = s.line ∧
      (s.fileReport x r).resp = s.resp ∧ (s.fileReport x r).cache = s.cache ∧
      (s.fileReport x r).motion = s.motion ∧ (s.fileReport x r).orders = s.orders ∧
      (s.fileReport x r).lift = s.lift ∧ (s.fileReport x r).port = s.port ∧ (s.fileReport x r).notice = s.notice := by
  simp [State.fileReport]

@[simp] theorem State.cacheReport_frame (s : State) (n x : Nat) :
    (s.cacheReport n x).pending = s.pending ∧ (s.cacheReport n x).phase = s.phase ∧
      (s.cacheReport n x).pins = s.pins ∧ (s.cacheReport n x).control = s.control ∧
      (s.cacheReport n x).params = s.params ∧ (s.cacheReport n x).pos = s.pos ∧ (s.cacheReport n x).line = s.line ∧
      (s.cacheReport n x).resp = s.resp ∧ (s.cacheReport n x).cache = s.cache ∧
      (s.cacheReport n x).orders = s.orders ∧ (s.cacheReport n x).lift = s.lift ∧
      (s.cacheReport n x).port = s.port ∧ (s.cacheReport n x).notice = s.notice := by
  unfold State.cacheReport; split <;> simp

@[simp] theorem State.cacheReportAny_frame (s : State) (n : Nat) :
    (s.cacheReportAny n).pending = s.pending ∧ (s.cacheReportAny n).phase = s.phase ∧
      (s.cacheReportAny n).pins = s.pins ∧ (s.cacheReportAny n).control = s.control ∧
      (s.cacheReportAny n).params = s.params ∧ (s.cacheReportAny n).pos = s.pos ∧
      (s.cacheReportAny n).line = s.line ∧ (s.cacheReportAny n).resp = s.resp ∧
      (s.cacheReportAny n).cache = s.cache ∧ (s.cacheReportAny n).orders = s.orders ∧
      (s.cacheReportAny n).lift = s.lift ∧ (s.cacheReportAny n).port = s.port ∧
      (s.cacheReportAny n).notice = s.notice := by
  unfold State.cacheReportAny; split <;> simp

@[simp] theorem State.giveBack_frame (s : State) (t : Nat) (l : List Nat) :
    (s.giveBack t l).pending = s.pending ∧ (s.giveBack t l).phase = s.phase ∧ (s.giveBack t l).pins = s.pins ∧
      (s.giveBack t l).control = s.control ∧ (s.giveBack t l).params = s.params ∧ (s.giveBack t l).pos = s.pos ∧
      (s.giveBack t l).resp = s.resp ∧ (s.giveBack t l).cache = s.cache ∧ (s.giveBack t l).motion = s.motion ∧
      (s.giveBack t l).orders = s.orders ∧ (s.giveBack t l).lift = s.lift ∧ (s.giveBack t l).port = s.port := by
  unfold State.giveBack; split <;> simp

@[simp] theorem State.releaseReserved_frame (s : State) (t : Nat) :
    (s.releaseReserved t).pending = s.pending ∧ (s.releaseReserved t).phase = s.phase ∧
      (s.releaseReserved t).pins = s.pins ∧ (s.releaseReserved t).control = s.control ∧
      (s.releaseReserved t).params = s.params ∧ (s.releaseReserved t).resp = s.resp ∧
      (s.releaseReserved t).cache = s.cache ∧ (s.releaseReserved t).motion = s.motion ∧
      (s.releaseReserved t).orders = s.orders ∧ (s.releaseReserved t).lift = s.lift ∧
      (s.releaseReserved t).port = s.port := by
  unfold State.releaseReserved; split <;> simp

/-! ## Cache -/

@[simp] theorem State.setWays_frame (s : State) (w : Table CacheEntry) :
    (s.setWays w).pending = s.pending ∧ (s.setWays w).phase = s.phase ∧ (s.setWays w).pins = s.pins ∧
      (s.setWays w).control = s.control ∧ (s.setWays w).params = s.params ∧ (s.setWays w).pos = s.pos ∧
      (s.setWays w).line = s.line ∧ (s.setWays w).claim = s.claim ∧ (s.setWays w).resp = s.resp ∧
      (s.setWays w).motion = s.motion ∧ (s.setWays w).orders = s.orders ∧ (s.setWays w).lift = s.lift ∧
      (s.setWays w).port = s.port ∧ (s.setWays w).notice = s.notice := by
  simp [State.setWays]

@[simp] theorem State.writeHolding_frame (s : State) (n x : Nat) (m : Mark) (k : Source) (l : List Nat) :
    (s.writeHolding n x m k l).pending = s.pending ∧ (s.writeHolding n x m k l).phase = s.phase ∧
      (s.writeHolding n x m k l).pins = s.pins ∧ (s.writeHolding n x m k l).control = s.control ∧
      (s.writeHolding n x m k l).params = s.params ∧ (s.writeHolding n x m k l).pos = s.pos ∧
      (s.writeHolding n x m k l).line = s.line ∧ (s.writeHolding n x m k l).resp = s.resp ∧
      (s.writeHolding n x m k l).orders = s.orders ∧ (s.writeHolding n x m k l).lift = s.lift ∧
      (s.writeHolding n x m k l).port = s.port ∧ (s.writeHolding n x m k l).notice = s.notice := by
  unfold State.writeHolding; (repeat' split) <;> simp

@[simp] theorem State.freeWay_frame (s : State) (k : Option Source) (n : Nat) :
    (s.freeWay k n).pending = s.pending ∧ (s.freeWay k n).phase = s.phase ∧ (s.freeWay k n).pins = s.pins ∧
      (s.freeWay k n).control = s.control ∧ (s.freeWay k n).params = s.params ∧ (s.freeWay k n).pos = s.pos ∧
      (s.freeWay k n).line = s.line ∧ (s.freeWay k n).resp = s.resp ∧ (s.freeWay k n).orders = s.orders ∧
      (s.freeWay k n).lift = s.lift ∧ (s.freeWay k n).port = s.port ∧ (s.freeWay k n).notice = s.notice := by
  unfold State.freeWay; split <;> simp

@[simp] theorem State.sweep_frame (s : State) (x : Nat) (l : List Nat) :
    (s.sweep x l).pending = s.pending ∧ (s.sweep x l).phase = s.phase ∧ (s.sweep x l).pins = s.pins ∧
      (s.sweep x l).control = s.control ∧ (s.sweep x l).params = s.params ∧ (s.sweep x l).pos = s.pos ∧
      (s.sweep x l).line = s.line ∧ (s.sweep x l).resp = s.resp ∧ (s.sweep x l).orders = s.orders ∧
      (s.sweep x l).lift = s.lift ∧ (s.sweep x l).port = s.port ∧ (s.sweep x l).notice = s.notice := by
  exact ⟨foldl_keeps State.pending _ (fun _ _ => by simp) _ _,
    foldl_keeps State.phase _ (fun _ _ => by simp) _ _,
    foldl_keeps State.pins _ (fun _ _ => by simp) _ _,
    foldl_keeps State.control _ (fun _ _ => by simp) _ _,
    foldl_keeps State.params _ (fun _ _ => by simp) _ _,
    foldl_keeps State.pos _ (fun _ _ => by simp) _ _,
    foldl_keeps State.line _ (fun _ _ => by simp) _ _,
    foldl_keeps State.resp _ (fun _ _ => by simp) _ _,
    foldl_keeps State.orders _ (fun _ _ => by simp) _ _,
    foldl_keeps State.lift _ (fun _ _ => by simp) _ _,
    foldl_keeps State.port _ (fun _ _ => by simp) _ _,
    foldl_keeps State.notice _ (fun _ _ => by simp) _ _⟩

@[simp] theorem State.refresh_frame (s : State) (x : Nat) (e : HeldEntry) :
    (s.refresh x e).pending = s.pending ∧ (s.refresh x e).phase = s.phase ∧ (s.refresh x e).pins = s.pins ∧
      (s.refresh x e).control = s.control ∧ (s.refresh x e).params = s.params ∧ (s.refresh x e).pos = s.pos ∧
      (s.refresh x e).line = s.line ∧ (s.refresh x e).resp = s.resp ∧ (s.refresh x e).orders = s.orders ∧
      (s.refresh x e).lift = s.lift ∧ (s.refresh x e).port = s.port ∧ (s.refresh x e).notice = s.notice := by
  unfold State.refresh; split <;> simp

@[simp] theorem State.fill_frame (s : State) (x : Nat) (l : List Nat) (e : HeldEntry) :
    (s.fill x l e).pending = s.pending ∧ (s.fill x l e).phase = s.phase ∧ (s.fill x l e).pins = s.pins ∧
      (s.fill x l e).control = s.control ∧ (s.fill x l e).params = s.params ∧ (s.fill x l e).pos = s.pos ∧
      (s.fill x l e).line = s.line ∧ (s.fill x l e).resp = s.resp ∧ (s.fill x l e).orders = s.orders ∧
      (s.fill x l e).lift = s.lift ∧ (s.fill x l e).port = s.port ∧ (s.fill x l e).notice = s.notice := by
  unfold State.fill; split <;> simp

@[simp] theorem State.cacheBeacon_frame (s : State) (x : Nat) (l : List HeldEntry) (k : List Nat) :
    (s.cacheBeacon x l k).pending = s.pending ∧ (s.cacheBeacon x l k).phase = s.phase ∧
      (s.cacheBeacon x l k).pins = s.pins ∧ (s.cacheBeacon x l k).control = s.control ∧
      (s.cacheBeacon x l k).params = s.params ∧ (s.cacheBeacon x l k).pos = s.pos ∧
      (s.cacheBeacon x l k).line = s.line ∧ (s.cacheBeacon x l k).resp = s.resp ∧
      (s.cacheBeacon x l k).orders = s.orders ∧ (s.cacheBeacon x l k).lift = s.lift ∧
      (s.cacheBeacon x l k).port = s.port ∧ (s.cacheBeacon x l k).notice = s.notice := by
  exact ⟨(foldl_keeps State.pending _ (fun _ _ => by simp) _ _).trans
      ((foldl_keeps State.pending _ (fun _ _ => by simp) _ _).trans (by simp)),
    (foldl_keeps State.phase _ (fun _ _ => by simp) _ _).trans
      ((foldl_keeps State.phase _ (fun _ _ => by simp) _ _).trans (by simp)),
    (foldl_keeps State.pins _ (fun _ _ => by simp) _ _).trans
      ((foldl_keeps State.pins _ (fun _ _ => by simp) _ _).trans (by simp)),
    (foldl_keeps State.control _ (fun _ _ => by simp) _ _).trans
      ((foldl_keeps State.control _ (fun _ _ => by simp) _ _).trans (by simp)),
    (foldl_keeps State.params _ (fun _ _ => by simp) _ _).trans
      ((foldl_keeps State.params _ (fun _ _ => by simp) _ _).trans (by simp)),
    (foldl_keeps State.pos _ (fun _ _ => by simp) _ _).trans
      ((foldl_keeps State.pos _ (fun _ _ => by simp) _ _).trans (by simp)),
    (foldl_keeps State.line _ (fun _ _ => by simp) _ _).trans
      ((foldl_keeps State.line _ (fun _ _ => by simp) _ _).trans (by simp)),
    (foldl_keeps State.resp _ (fun _ _ => by simp) _ _).trans
      ((foldl_keeps State.resp _ (fun _ _ => by simp) _ _).trans (by simp)),
    (foldl_keeps State.orders _ (fun _ _ => by simp) _ _).trans
      ((foldl_keeps State.orders _ (fun _ _ => by simp) _ _).trans (by simp)),
    (foldl_keeps State.lift _ (fun _ _ => by simp) _ _).trans
      ((foldl_keeps State.lift _ (fun _ _ => by simp) _ _).trans (by simp)),
    (foldl_keeps State.port _ (fun _ _ => by simp) _ _).trans
      ((foldl_keeps State.port _ (fun _ _ => by simp) _ _).trans (by simp)),
    (foldl_keeps State.notice _ (fun _ _ => by simp) _ _).trans
      ((foldl_keeps State.notice _ (fun _ _ => by simp) _ _).trans (by simp))⟩

@[simp] theorem State.cacheRelease_frame (s : State) (x : Nat) (l : List Nat) :
    (s.cacheRelease x l).pending = s.pending ∧ (s.cacheRelease x l).phase = s.phase ∧
      (s.cacheRelease x l).pins = s.pins ∧ (s.cacheRelease x l).control = s.control ∧
      (s.cacheRelease x l).params = s.params ∧ (s.cacheRelease x l).pos = s.pos ∧
      (s.cacheRelease x l).line = s.line ∧ (s.cacheRelease x l).resp = s.resp ∧
      (s.cacheRelease x l).orders = s.orders ∧ (s.cacheRelease x l).lift = s.lift ∧
      (s.cacheRelease x l).port = s.port ∧ (s.cacheRelease x l).notice = s.notice := by
  exact ⟨foldl_keeps State.pending _ (fun _ _ => by simp) _ _,
    foldl_keeps State.phase _ (fun _ _ => by simp) _ _,
    foldl_keeps State.pins _ (fun _ _ => by simp) _ _,
    foldl_keeps State.control _ (fun _ _ => by simp) _ _,
    foldl_keeps State.params _ (fun _ _ => by simp) _ _,
    foldl_keeps State.pos _ (fun _ _ => by simp) _ _,
    foldl_keeps State.line _ (fun _ _ => by simp) _ _,
    foldl_keeps State.resp _ (fun _ _ => by simp) _ _,
    foldl_keeps State.orders _ (fun _ _ => by simp) _ _,
    foldl_keeps State.lift _ (fun _ _ => by simp) _ _,
    foldl_keeps State.port _ (fun _ _ => by simp) _ _,
    foldl_keeps State.notice _ (fun _ _ => by simp) _ _⟩

@[simp] theorem State.cacheJoin_frame (s : State) (l : List Nat) :
    (s.cacheJoin l).pending = s.pending ∧ (s.cacheJoin l).phase = s.phase ∧ (s.cacheJoin l).pins = s.pins ∧
      (s.cacheJoin l).control = s.control ∧ (s.cacheJoin l).params = s.params ∧ (s.cacheJoin l).pos = s.pos ∧
      (s.cacheJoin l).line = s.line ∧ (s.cacheJoin l).resp = s.resp ∧ (s.cacheJoin l).orders = s.orders ∧
      (s.cacheJoin l).lift = s.lift ∧ (s.cacheJoin l).port = s.port ∧ (s.cacheJoin l).notice = s.notice := by
  exact ⟨foldl_keeps State.pending _ (fun _ _ => by simp) _ _,
    foldl_keeps State.phase _ (fun _ _ => by simp) _ _,
    foldl_keeps State.pins _ (fun _ _ => by simp) _ _,
    foldl_keeps State.control _ (fun _ _ => by simp) _ _,
    foldl_keeps State.params _ (fun _ _ => by simp) _ _,
    foldl_keeps State.pos _ (fun _ _ => by simp) _ _,
    foldl_keeps State.line _ (fun _ _ => by simp) _ _,
    foldl_keeps State.resp _ (fun _ _ => by simp) _ _,
    foldl_keeps State.orders _ (fun _ _ => by simp) _ _,
    foldl_keeps State.lift _ (fun _ _ => by simp) _ _,
    foldl_keeps State.port _ (fun _ _ => by simp) _ _,
    foldl_keeps State.notice _ (fun _ _ => by simp) _ _⟩

@[simp] theorem State.invalidateWay_frame (s : State) (k : Nat) :
    (s.invalidateWay k).pending = s.pending ∧ (s.invalidateWay k).phase = s.phase ∧
      (s.invalidateWay k).pins = s.pins ∧ (s.invalidateWay k).control = s.control ∧
      (s.invalidateWay k).params = s.params ∧ (s.invalidateWay k).pos = s.pos ∧ (s.invalidateWay k).line = s.line ∧
      (s.invalidateWay k).resp = s.resp ∧ (s.invalidateWay k).orders = s.orders ∧
      (s.invalidateWay k).lift = s.lift ∧ (s.invalidateWay k).port = s.port ∧ (s.invalidateWay k).notice = s.notice := by
  unfold State.invalidateWay; split <;> simp

/-! ## Station -/

@[simp] theorem State.runChanged_frame (s : State) (l : List Nat) :
    (s.runChanged l).pending = s.pending ∧ (s.runChanged l).phase = s.phase ∧ (s.runChanged l).pins = s.pins ∧
      (s.runChanged l).control = s.control ∧ (s.runChanged l).params = s.params ∧ (s.runChanged l).line = s.line ∧
      (s.runChanged l).claim = s.claim ∧ (s.runChanged l).resp = s.resp ∧ (s.runChanged l).cache = s.cache ∧
      (s.runChanged l).motion = s.motion ∧ (s.runChanged l).orders = s.orders ∧ (s.runChanged l).lift = s.lift ∧
      (s.runChanged l).port = s.port ∧ (s.runChanged l).notice = s.notice := by
  unfold State.runChanged; split <;> simp

@[simp] theorem State.setOrder_frame (s : State) (n : Nat) (f : Order → Order) :
    (s.setOrder n f).pending = s.pending ∧ (s.setOrder n f).phase = s.phase ∧ (s.setOrder n f).pins = s.pins ∧
      (s.setOrder n f).control = s.control ∧ (s.setOrder n f).params = s.params ∧ (s.setOrder n f).pos = s.pos ∧
      (s.setOrder n f).line = s.line ∧ (s.setOrder n f).claim = s.claim ∧ (s.setOrder n f).resp = s.resp ∧
      (s.setOrder n f).cache = s.cache ∧ (s.setOrder n f).motion = s.motion ∧ (s.setOrder n f).lift = s.lift ∧
      (s.setOrder n f).port = s.port ∧ (s.setOrder n f).notice = s.notice := by
  simp [State.setOrder]

@[simp] theorem State.removeOrder_frame (s : State) (n : Nat) :
    (s.removeOrder n).pending = s.pending ∧ (s.removeOrder n).phase = s.phase ∧ (s.removeOrder n).pins = s.pins ∧
      (s.removeOrder n).control = s.control ∧ (s.removeOrder n).params = s.params ∧
      (s.removeOrder n).line = s.line ∧ (s.removeOrder n).claim = s.claim ∧ (s.removeOrder n).resp = s.resp ∧
      (s.removeOrder n).motion = s.motion ∧ (s.removeOrder n).lift = s.lift ∧ (s.removeOrder n).port = s.port ∧
      (s.removeOrder n).notice = s.notice := by
  simp [State.removeOrder]

@[simp] theorem State.orderDone_frame (s : State) (t : Nat) (o : Order) :
    (s.orderDone t o).pending = s.pending ∧ (s.orderDone t o).phase = s.phase ∧ (s.orderDone t o).pins = s.pins ∧
      (s.orderDone t o).control = s.control ∧ (s.orderDone t o).params = s.params ∧
      (s.orderDone t o).line = s.line ∧ (s.orderDone t o).claim = s.claim ∧ (s.orderDone t o).resp = s.resp ∧
      (s.orderDone t o).motion = s.motion ∧ (s.orderDone t o).lift = s.lift ∧ (s.orderDone t o).port = s.port := by
  simp [State.orderDone]

@[simp] theorem State.orderCancelled_frame (s : State) (t : Nat) (o : Order) :
    (s.orderCancelled t o).pending = s.pending ∧ (s.orderCancelled t o).phase = s.phase ∧
      (s.orderCancelled t o).pins = s.pins ∧ (s.orderCancelled t o).control = s.control ∧
      (s.orderCancelled t o).params = s.params ∧ (s.orderCancelled t o).line = s.line ∧
      (s.orderCancelled t o).claim = s.claim ∧ (s.orderCancelled t o).resp = s.resp ∧
      (s.orderCancelled t o).motion = s.motion ∧ (s.orderCancelled t o).lift = s.lift ∧
      (s.orderCancelled t o).port = s.port := by
  simp [State.orderCancelled]

@[simp] theorem State.orderFailed_frame (s : State) (t : Nat) (o : Order) (w : FailReason) (n : Option Nat) :
    (s.orderFailed t o w n).pending = s.pending ∧ (s.orderFailed t o w n).phase = s.phase ∧
      (s.orderFailed t o w n).pins = s.pins ∧ (s.orderFailed t o w n).control = s.control ∧
      (s.orderFailed t o w n).params = s.params ∧ (s.orderFailed t o w n).line = s.line ∧
      (s.orderFailed t o w n).claim = s.claim ∧ (s.orderFailed t o w n).resp = s.resp ∧
      (s.orderFailed t o w n).motion = s.motion ∧ (s.orderFailed t o w n).lift = s.lift ∧
      (s.orderFailed t o w n).port = s.port := by
  simp [State.orderFailed]

@[simp] theorem State.suspend_frame (s : State) (n : Nat) (w : SuspendReason) :
    (s.suspend n w).pending = s.pending ∧ (s.suspend n w).phase = s.phase ∧ (s.suspend n w).pins = s.pins ∧
      (s.suspend n w).control = s.control ∧ (s.suspend n w).params = s.params ∧ (s.suspend n w).line = s.line ∧
      (s.suspend n w).claim = s.claim ∧ (s.suspend n w).resp = s.resp ∧ (s.suspend n w).cache = s.cache ∧
      (s.suspend n w).motion = s.motion ∧ (s.suspend n w).lift = s.lift ∧ (s.suspend n w).port = s.port ∧
      (s.suspend n w).notice = s.notice := by
  simp [State.suspend]

@[simp] theorem State.cancelMarked_frame (s : State) (t : Nat) (o : Order) :
    (s.cancelMarked t o).pending = s.pending ∧ (s.cancelMarked t o).phase = s.phase ∧
      (s.cancelMarked t o).pins = s.pins ∧ (s.cancelMarked t o).control = s.control ∧
      (s.cancelMarked t o).params = s.params ∧ (s.cancelMarked t o).line = s.line ∧
      (s.cancelMarked t o).claim = s.claim ∧ (s.cancelMarked t o).resp = s.resp ∧
      (s.cancelMarked t o).motion = s.motion ∧ (s.cancelMarked t o).lift = s.lift ∧
      (s.cancelMarked t o).port = s.port := by
  simp [State.cancelMarked]

@[simp] theorem State.haltOrders_frame (s : State) (t : Nat) :
    (s.haltOrders t).pending = s.pending ∧ (s.haltOrders t).phase = s.phase ∧ (s.haltOrders t).pins = s.pins ∧
      (s.haltOrders t).control = s.control ∧ (s.haltOrders t).params = s.params ∧ (s.haltOrders t).line = s.line ∧
      (s.haltOrders t).claim = s.claim ∧ (s.haltOrders t).resp = s.resp ∧ (s.haltOrders t).motion = s.motion ∧
      (s.haltOrders t).lift = s.lift ∧ (s.haltOrders t).port = s.port := by
  unfold State.haltOrders; (repeat' split) <;> simp

@[simp] theorem State.changeState_frame (s : State) (t : Nat) (x : StationState) :
    (s.changeState t x).pending = s.pending ∧ (s.changeState t x).phase = s.phase ∧
      (s.changeState t x).pins = s.pins ∧ (s.changeState t x).params = s.params ∧ (s.changeState t x).pos = s.pos ∧
      (s.changeState t x).line = s.line ∧ (s.changeState t x).claim = s.claim ∧ (s.changeState t x).resp = s.resp ∧
      (s.changeState t x).cache = s.cache ∧ (s.changeState t x).motion = s.motion ∧
      (s.changeState t x).orders = s.orders ∧ (s.changeState t x).lift = s.lift ∧ (s.changeState t x).port = s.port := by
  simp [State.changeState]

@[simp] theorem State.enterHalted_frame (s : State) (t : Nat) :
    (s.enterHalted t).pending = s.pending ∧ (s.enterHalted t).phase = s.phase ∧ (s.enterHalted t).pins = s.pins ∧
      (s.enterHalted t).params = s.params ∧ (s.enterHalted t).resp = s.resp ∧ (s.enterHalted t).lift = s.lift ∧
      (s.enterHalted t).port = s.port := by
  simp [State.enterHalted]

@[simp] theorem State.halt_frame (s : State) (t : Nat) (x : Cause) :
    (s.halt t x).pending = s.pending ∧ (s.halt t x).phase = s.phase ∧ (s.halt t x).pins = s.pins ∧
      (s.halt t x).params = s.params ∧ (s.halt t x).resp = s.resp ∧ (s.halt t x).lift = s.lift ∧
      (s.halt t x).port = s.port := by
  unfold State.halt; split <;> simp

@[simp] theorem State.haltWith_frame (s : State) (t : Nat) (r : HaltReport) :
    (s.haltWith t r).pending = s.pending ∧ (s.haltWith t r).phase = s.phase ∧ (s.haltWith t r).pins = s.pins ∧
      (s.haltWith t r).params = s.params ∧ (s.haltWith t r).resp = s.resp ∧ (s.haltWith t r).lift = s.lift ∧
      (s.haltWith t r).port = s.port := by
  simp [State.haltWith]

@[simp] theorem State.setOverrunMark_frame (s : State) (x : Bool) :
    (s.setOverrunMark x).pending = s.pending ∧ (s.setOverrunMark x).phase = s.phase ∧
      (s.setOverrunMark x).pins = s.pins ∧ (s.setOverrunMark x).control = s.control ∧
      (s.setOverrunMark x).params = s.params ∧ (s.setOverrunMark x).pos = s.pos ∧
      (s.setOverrunMark x).line = s.line ∧ (s.setOverrunMark x).claim = s.claim ∧
      (s.setOverrunMark x).resp = s.resp ∧ (s.setOverrunMark x).cache = s.cache ∧
      (s.setOverrunMark x).orders = s.orders ∧ (s.setOverrunMark x).lift = s.lift ∧
      (s.setOverrunMark x).port = s.port ∧ (s.setOverrunMark x).notice = s.notice := by
  simp [State.setOverrunMark]

@[simp] theorem State.overrunCheck_frame (s : State) (t : Nat) :
    (s.overrunCheck t).pending = s.pending ∧ (s.overrunCheck t).phase = s.phase ∧
      (s.overrunCheck t).pins = s.pins ∧ (s.overrunCheck t).params = s.params ∧ (s.overrunCheck t).resp = s.resp ∧
      (s.overrunCheck t).lift = s.lift ∧ (s.overrunCheck t).port = s.port := by
  unfold State.overrunCheck; (repeat' split) <;> simp

@[simp] theorem State.newAuthority_frame (s : State) (t : Nat) :
    (s.newAuthority t).pending = s.pending ∧ (s.newAuthority t).phase = s.phase ∧
      (s.newAuthority t).pins = s.pins ∧ (s.newAuthority t).params = s.params ∧ (s.newAuthority t).resp = s.resp ∧
      (s.newAuthority t).lift = s.lift ∧ (s.newAuthority t).port = s.port := by
  simp [State.newAuthority]

@[simp] theorem State.stopRelease_frame (s : State) (t : Nat) :
    (s.stopRelease t).pending = s.pending ∧ (s.stopRelease t).phase = s.phase ∧ (s.stopRelease t).pins = s.pins ∧
      (s.stopRelease t).params = s.params ∧ (s.stopRelease t).resp = s.resp ∧ (s.stopRelease t).lift = s.lift ∧
      (s.stopRelease t).port = s.port := by
  simp [State.stopRelease]

@[simp] theorem State.settleConflicts_frame (s : State) :
    (s.settleConflicts).pending = s.pending ∧ (s.settleConflicts).phase = s.phase ∧
      (s.settleConflicts).pins = s.pins ∧ (s.settleConflicts).params = s.params ∧ (s.settleConflicts).pos = s.pos ∧
      (s.settleConflicts).line = s.line ∧ (s.settleConflicts).claim = s.claim ∧ (s.settleConflicts).resp = s.resp ∧
      (s.settleConflicts).cache = s.cache ∧ (s.settleConflicts).motion = s.motion ∧
      (s.settleConflicts).orders = s.orders ∧ (s.settleConflicts).lift = s.lift ∧
      (s.settleConflicts).port = s.port ∧ (s.settleConflicts).notice = s.notice := by
  unfold State.settleConflicts; split <;> simp

/-! ## Position and lift -/

@[simp] theorem State.setCommanded_frame (s : State) (v : Nat) :
    (s.setCommanded v).pending = s.pending ∧ (s.setCommanded v).phase = s.phase ∧
      (s.setCommanded v).pins = s.pins ∧ (s.setCommanded v).control = s.control ∧
      (s.setCommanded v).params = s.params ∧ (s.setCommanded v).pos = s.pos ∧ (s.setCommanded v).line = s.line ∧
      (s.setCommanded v).claim = s.claim ∧ (s.setCommanded v).resp = s.resp ∧ (s.setCommanded v).cache = s.cache ∧
      (s.setCommanded v).orders = s.orders ∧ (s.setCommanded v).lift = s.lift ∧ (s.setCommanded v).port = s.port ∧
      (s.setCommanded v).notice = s.notice := by
  simp [State.setCommanded]

@[simp] theorem State.capEntry_frame (s : State) (t : Nat) (l : List Nat) :
    (s.capEntry t l).pending = s.pending ∧ (s.capEntry t l).phase = s.phase ∧ (s.capEntry t l).pins = s.pins ∧
      (s.capEntry t l).control = s.control ∧ (s.capEntry t l).params = s.params ∧ (s.capEntry t l).pos = s.pos ∧
      (s.capEntry t l).line = s.line ∧ (s.capEntry t l).claim = s.claim ∧ (s.capEntry t l).resp = s.resp ∧
      (s.capEntry t l).cache = s.cache ∧ (s.capEntry t l).orders = s.orders ∧ (s.capEntry t l).lift = s.lift ∧
      (s.capEntry t l).port = s.port := by
  unfold State.capEntry; (repeat' split) <;> simp

@[simp] theorem State.entryEvents_frame (s : State) :
    (s.entryEvents).pending = s.pending ∧ (s.entryEvents).phase = s.phase ∧ (s.entryEvents).pins = s.pins ∧
      (s.entryEvents).control = s.control ∧ (s.entryEvents).params = s.params ∧ (s.entryEvents).pos = s.pos ∧
      (s.entryEvents).line = s.line ∧ (s.entryEvents).resp = s.resp ∧ (s.entryEvents).cache = s.cache ∧
      (s.entryEvents).motion = s.motion ∧ (s.entryEvents).orders = s.orders ∧ (s.entryEvents).lift = s.lift ∧
      (s.entryEvents).port = s.port ∧ (s.entryEvents).notice = s.notice := by
  simp [State.entryEvents]

@[simp] theorem State.exitEvents_frame (s : State) (t : Nat) :
    (s.exitEvents t).pending = s.pending ∧ (s.exitEvents t).phase = s.phase ∧ (s.exitEvents t).pins = s.pins ∧
      (s.exitEvents t).control = s.control ∧ (s.exitEvents t).params = s.params ∧ (s.exitEvents t).pos = s.pos ∧
      (s.exitEvents t).resp = s.resp ∧ (s.exitEvents t).cache = s.cache ∧ (s.exitEvents t).motion = s.motion ∧
      (s.exitEvents t).orders = s.orders ∧ (s.exitEvents t).lift = s.lift ∧ (s.exitEvents t).port = s.port := by
  simp [State.exitEvents]

@[simp] theorem State.bodyMoved_frame (s : State) (t : Nat) (l : List Nat) :
    (s.bodyMoved t l).pending = s.pending ∧ (s.bodyMoved t l).phase = s.phase ∧ (s.bodyMoved t l).pins = s.pins ∧
      (s.bodyMoved t l).control = s.control ∧ (s.bodyMoved t l).params = s.params ∧ (s.bodyMoved t l).pos = s.pos ∧
      (s.bodyMoved t l).resp = s.resp ∧ (s.bodyMoved t l).cache = s.cache ∧ (s.bodyMoved t l).orders = s.orders ∧
      (s.bodyMoved t l).lift = s.lift ∧ (s.bodyMoved t l).port = s.port := by
  simp [State.bodyMoved]

@[simp] theorem State.positionLost_frame (s : State) (t n : Nat) :
    (s.positionLost t n).pending = s.pending ∧ (s.positionLost t n).phase = s.phase ∧
      (s.positionLost t n).pins = s.pins ∧ (s.positionLost t n).params = s.params ∧
      (s.positionLost t n).resp = s.resp ∧ (s.positionLost t n).lift = s.lift ∧ (s.positionLost t n).port = s.port := by
  simp [State.positionLost]

@[simp] theorem State.reckon_frame (s : State) (t n : Nat) :
    (s.reckon t n).pending = s.pending ∧ (s.reckon t n).phase = s.phase ∧ (s.reckon t n).pins = s.pins ∧
      (s.reckon t n).params = s.params ∧ (s.reckon t n).resp = s.resp ∧ (s.reckon t n).lift = s.lift ∧
      (s.reckon t n).port = s.port := by
  simp only [State.reckon]; (repeat' split) <;> simp

@[simp] theorem State.missCheck_frame (s : State) (t : Nat) :
    (s.missCheck t).pending = s.pending ∧ (s.missCheck t).phase = s.phase ∧ (s.missCheck t).pins = s.pins ∧
      (s.missCheck t).params = s.params ∧ (s.missCheck t).resp = s.resp ∧ (s.missCheck t).lift = s.lift ∧
      (s.missCheck t).port = s.port := by
  unfold State.missCheck; (repeat' split) <;> simp

@[simp] theorem State.positionStep_frame (s : State) (t n : Nat) :
    (s.positionStep t n).pending = s.pending ∧ (s.positionStep t n).phase = s.phase ∧
      (s.positionStep t n).pins = s.pins ∧ (s.positionStep t n).params = s.params ∧
      (s.positionStep t n).resp = s.resp ∧ (s.positionStep t n).lift = s.lift ∧ (s.positionStep t n).port = s.port := by
  simp [State.positionStep]

@[simp] theorem State.unmappedRead_frame (s : State) (t n : Nat) :
    (s.unmappedRead t n).pending = s.pending ∧ (s.unmappedRead t n).phase = s.phase ∧
      (s.unmappedRead t n).pins = s.pins ∧ (s.unmappedRead t n).control = s.control ∧
      (s.unmappedRead t n).params = s.params ∧ (s.unmappedRead t n).line = s.line ∧
      (s.unmappedRead t n).claim = s.claim ∧ (s.unmappedRead t n).resp = s.resp ∧
      (s.unmappedRead t n).cache = s.cache ∧ (s.unmappedRead t n).motion = s.motion ∧
      (s.unmappedRead t n).orders = s.orders ∧ (s.unmappedRead t n).lift = s.lift ∧
      (s.unmappedRead t n).port = s.port := by
  unfold State.unmappedRead; split <;> simp

@[simp] theorem State.positionConflict_frame (s : State) (t n : Nat) (d : ConflictDetail) :
    (s.positionConflict t n d).pending = s.pending ∧ (s.positionConflict t n d).phase = s.phase ∧
      (s.positionConflict t n d).pins = s.pins ∧ (s.positionConflict t n d).params = s.params ∧
      (s.positionConflict t n d).resp = s.resp ∧ (s.positionConflict t n d).lift = s.lift ∧
      (s.positionConflict t n d).port = s.port := by
  simp [State.positionConflict]

@[simp] theorem State.drift_frame (s : State) (t n : Nat) (e : Int) :
    (s.drift t n e).pending = s.pending ∧ (s.drift t n e).phase = s.phase ∧ (s.drift t n e).pins = s.pins ∧
      (s.drift t n e).control = s.control ∧ (s.drift t n e).params = s.params ∧ (s.drift t n e).pos = s.pos ∧
      (s.drift t n e).line = s.line ∧ (s.drift t n e).claim = s.claim ∧ (s.drift t n e).resp = s.resp ∧
      (s.drift t n e).cache = s.cache ∧ (s.drift t n e).motion = s.motion ∧ (s.drift t n e).orders = s.orders ∧
      (s.drift t n e).lift = s.lift ∧ (s.drift t n e).port = s.port := by
  unfold State.drift; split <;> simp

@[simp] theorem State.snap_frame (s : State) (t : Nat) (x : Centre) :
    (s.snap t x).pending = s.pending ∧ (s.snap t x).phase = s.phase ∧ (s.snap t x).pins = s.pins ∧
      (s.snap t x).control = s.control ∧ (s.snap t x).params = s.params ∧ (s.snap t x).resp = s.resp ∧
      (s.snap t x).cache = s.cache ∧ (s.snap t x).orders = s.orders ∧ (s.snap t x).lift = s.lift ∧
      (s.snap t x).port = s.port := by
  simp [State.snap]

@[simp] theorem State.mappedRead_frame (s : State) (t : Nat) (m : Marker) :
    (s.mappedRead t m).pending = s.pending ∧ (s.mappedRead t m).phase = s.phase ∧
      (s.mappedRead t m).pins = s.pins ∧ (s.mappedRead t m).params = s.params ∧ (s.mappedRead t m).resp = s.resp ∧
      (s.mappedRead t m).lift = s.lift ∧ (s.mappedRead t m).port = s.port := by
  simp only [State.mappedRead]; (repeat' split) <;> simp

@[simp] theorem State.tagRead_frame (s : State) (t n : Nat) :
    (s.tagRead t n).pending = s.pending ∧ (s.tagRead t n).phase = s.phase ∧ (s.tagRead t n).pins = s.pins ∧
      (s.tagRead t n).params = s.params ∧ (s.tagRead t n).resp = s.resp ∧ (s.tagRead t n).lift = s.lift ∧
      (s.tagRead t n).port = s.port := by
  unfold State.tagRead; (repeat' split) <;> simp

@[simp] theorem State.setEffective_frame (s : State) (x : LoadClass) :
    (s.setEffective x).pending = s.pending ∧ (s.setEffective x).phase = s.phase ∧
      (s.setEffective x).pins = s.pins ∧ (s.setEffective x).control = s.control ∧
      (s.setEffective x).params = s.params ∧ (s.setEffective x).pos = s.pos ∧ (s.setEffective x).line = s.line ∧
      (s.setEffective x).claim = s.claim ∧ (s.setEffective x).resp = s.resp ∧ (s.setEffective x).cache = s.cache ∧
      (s.setEffective x).motion = s.motion ∧ (s.setEffective x).lift = s.lift ∧ (s.setEffective x).port = s.port ∧
      (s.setEffective x).notice = s.notice := by
  simp [State.setEffective]

@[simp] theorem State.loadCheck_frame (s : State) (t : Nat) (o : Option Nat) :
    (s.loadCheck t o).pending = s.pending ∧ (s.loadCheck t o).phase = s.phase ∧ (s.loadCheck t o).pins = s.pins ∧
      (s.loadCheck t o).control = s.control ∧ (s.loadCheck t o).params = s.params ∧ (s.loadCheck t o).pos = s.pos ∧
      (s.loadCheck t o).line = s.line ∧ (s.loadCheck t o).claim = s.claim ∧ (s.loadCheck t o).resp = s.resp ∧
      (s.loadCheck t o).cache = s.cache ∧ (s.loadCheck t o).motion = s.motion ∧ (s.loadCheck t o).port = s.port := by
  unfold State.loadCheck; split <;> simp

@[simp] theorem State.liftDownReset_frame (s : State) :
    (s.liftDownReset).pending = s.pending ∧ (s.liftDownReset).phase = s.phase ∧ (s.liftDownReset).pins = s.pins ∧
      (s.liftDownReset).control = s.control ∧ (s.liftDownReset).params = s.params ∧ (s.liftDownReset).pos = s.pos ∧
      (s.liftDownReset).line = s.line ∧ (s.liftDownReset).claim = s.claim ∧ (s.liftDownReset).resp = s.resp ∧
      (s.liftDownReset).cache = s.cache ∧ (s.liftDownReset).motion = s.motion ∧ (s.liftDownReset).port = s.port ∧
      (s.liftDownReset).notice = s.notice := by
  simp [State.liftDownReset]

@[simp] theorem State.liftSuccess_frame (s : State) (t : Nat) :
    (s.liftSuccess t).pending = s.pending ∧ (s.liftSuccess t).phase = s.phase ∧ (s.liftSuccess t).pins = s.pins ∧
      (s.liftSuccess t).control = s.control ∧ (s.liftSuccess t).params = s.params ∧
      (s.liftSuccess t).line = s.line ∧ (s.liftSuccess t).claim = s.claim ∧ (s.liftSuccess t).resp = s.resp ∧
      (s.liftSuccess t).motion = s.motion ∧ (s.liftSuccess t).port = s.port := by
  unfold State.liftSuccess; (repeat' split) <;> simp

@[simp] theorem State.liftReached_frame (s : State) (t : Nat) :
    (s.liftReached t).pending = s.pending ∧ (s.liftReached t).phase = s.phase ∧ (s.liftReached t).pins = s.pins ∧
      (s.liftReached t).control = s.control ∧ (s.liftReached t).params = s.params ∧
      (s.liftReached t).line = s.line ∧ (s.liftReached t).claim = s.claim ∧ (s.liftReached t).resp = s.resp ∧
      (s.liftReached t).motion = s.motion ∧ (s.liftReached t).port = s.port := by
  unfold State.liftReached; split <;> simp

@[simp] theorem State.judgeSensors_frame (s : State) (t : Nat) :
    (s.judgeSensors t).pending = s.pending ∧ (s.judgeSensors t).phase = s.phase ∧
      (s.judgeSensors t).pins = s.pins ∧ (s.judgeSensors t).control = s.control ∧
      (s.judgeSensors t).params = s.params ∧ (s.judgeSensors t).line = s.line ∧
      (s.judgeSensors t).claim = s.claim ∧ (s.judgeSensors t).resp = s.resp ∧
      (s.judgeSensors t).motion = s.motion ∧ (s.judgeSensors t).port = s.port := by
  unfold State.judgeSensors; split <;> simp

@[simp] theorem State.beginLift_frame (s : State) (t n : Nat) (a : EndAction) :
    (s.beginLift t n a).pending = s.pending ∧ (s.beginLift t n a).phase = s.phase ∧
      (s.beginLift t n a).pins = s.pins ∧ (s.beginLift t n a).control = s.control ∧
      (s.beginLift t n a).params = s.params ∧ (s.beginLift t n a).line = s.line ∧
      (s.beginLift t n a).claim = s.claim ∧ (s.beginLift t n a).resp = s.resp ∧
      (s.beginLift t n a).motion = s.motion ∧ (s.beginLift t n a).port = s.port := by
  unfold State.beginLift; split <;> simp

@[simp] theorem State.liftTimeout_frame (s : State) (t : Nat) :
    (s.liftTimeout t).pending = s.pending ∧ (s.liftTimeout t).phase = s.phase ∧ (s.liftTimeout t).pins = s.pins ∧
      (s.liftTimeout t).control = s.control ∧ (s.liftTimeout t).params = s.params ∧
      (s.liftTimeout t).line = s.line ∧ (s.liftTimeout t).claim = s.claim ∧ (s.liftTimeout t).resp = s.resp ∧
      (s.liftTimeout t).motion = s.motion ∧ (s.liftTimeout t).port = s.port := by
  unfold State.liftTimeout; (repeat' split) <;> simp

end Sys2Proof.Machine
end

