-- ==== Sys2Proof/Laws/FrameSteps.lean ====
section
/-! SUPPORT. The frame of taking a frame from the buffer, and of the items of a control step. -/

namespace Sys2Proof.Machine

/-! ## Frames from the buffer -/

@[simp] theorem State.editionMismatch_frame (s : State) (t x e : Nat) :
    (s.editionMismatch t x e).pending = s.pending ∧ (s.editionMismatch t x e).phase = s.phase ∧
      (s.editionMismatch t x e).pins = s.pins ∧ (s.editionMismatch t x e).control = s.control ∧
      (s.editionMismatch t x e).params = s.params ∧ (s.editionMismatch t x e).pos = s.pos ∧
      (s.editionMismatch t x e).line = s.line ∧ (s.editionMismatch t x e).claim = s.claim ∧
      (s.editionMismatch t x e).cache = s.cache ∧ (s.editionMismatch t x e).motion = s.motion ∧
      (s.editionMismatch t x e).orders = s.orders ∧ (s.editionMismatch t x e).lift = s.lift ∧
      (s.editionMismatch t x e).port = s.port := by
  simp [State.editionMismatch]; split <;> simp

@[simp] theorem State.holdConflict_frame (s : State) (t x n : Nat) (d : Option Nat) :
    (s.holdConflict t x n d).pending = s.pending ∧ (s.holdConflict t x n d).phase = s.phase ∧
      (s.holdConflict t x n d).pins = s.pins ∧ (s.holdConflict t x n d).params = s.params ∧
      (s.holdConflict t x n d).lift = s.lift ∧ (s.holdConflict t x n d).port = s.port := by
  simp [State.holdConflict]; split <;> simp

@[simp] theorem State.conflictCheck_frame (s : State) (t x : Nat) (own : List HeldEntry) (e : HeldEntry) :
    (s.conflictCheck t x own e).pending = s.pending ∧ (s.conflictCheck t x own e).phase = s.phase ∧
      (s.conflictCheck t x own e).pins = s.pins ∧ (s.conflictCheck t x own e).params = s.params ∧
      (s.conflictCheck t x own e).lift = s.lift ∧ (s.conflictCheck t x own e).port = s.port := by
  simp [State.conflictCheck]; split <;> simp

@[simp] theorem State.omissionCheck_frame (s : State) (x : Nat) (l : List Nat) :
    (s.omissionCheck x l).pending = s.pending ∧ (s.omissionCheck x l).phase = s.phase ∧
      (s.omissionCheck x l).pins = s.pins ∧ (s.omissionCheck x l).params = s.params ∧
      (s.omissionCheck x l).pos = s.pos ∧ (s.omissionCheck x l).line = s.line ∧
      (s.omissionCheck x l).claim = s.claim ∧ (s.omissionCheck x l).cache = s.cache ∧
      (s.omissionCheck x l).motion = s.motion ∧ (s.omissionCheck x l).orders = s.orders ∧
      (s.omissionCheck x l).lift = s.lift ∧ (s.omissionCheck x l).port = s.port ∧
      (s.omissionCheck x l).notice = s.notice := by
  simp [State.omissionCheck]

@[simp] theorem State.responderBeacon_frame (s : State) (t x e : Nat) (l : List HeldEntry) :
    (s.responderBeacon t x e l).pending = s.pending ∧ (s.responderBeacon t x e l).phase = s.phase ∧
      (s.responderBeacon t x e l).pins = s.pins ∧ (s.responderBeacon t x e l).params = s.params ∧
      (s.responderBeacon t x e l).lift = s.lift ∧ (s.responderBeacon t x e l).port = s.port := by
  have h0 := foldl_keeps State.pending (fun u e => u.conflictCheck t x s.claim.held e) (fun _ _ => by simp) l s
  have h1 := foldl_keeps State.phase (fun u e => u.conflictCheck t x s.claim.held e) (fun _ _ => by simp) l s
  have h2 := foldl_keeps State.pins (fun u e => u.conflictCheck t x s.claim.held e) (fun _ _ => by simp) l s
  have h3 := foldl_keeps State.params (fun u e => u.conflictCheck t x s.claim.held e) (fun _ _ => by simp) l s
  have h4 := foldl_keeps State.lift (fun u e => u.conflictCheck t x s.claim.held e) (fun _ _ => by simp) l s
  have h5 := foldl_keeps State.port (fun u e => u.conflictCheck t x s.claim.held e) (fun _ _ => by simp) l s
  unfold State.responderBeacon
  dsimp only
  split <;> simp [h0, h1, h2, h3, h4, h5]

@[simp] theorem State.beaconEndsClaim_frame (s : State) (t x n : Nat) :
    (s.beaconEndsClaim t x n).pending = s.pending ∧ (s.beaconEndsClaim t x n).phase = s.phase ∧
      (s.beaconEndsClaim t x n).pins = s.pins ∧ (s.beaconEndsClaim t x n).control = s.control ∧
      (s.beaconEndsClaim t x n).params = s.params ∧ (s.beaconEndsClaim t x n).pos = s.pos ∧
      (s.beaconEndsClaim t x n).resp = s.resp ∧ (s.beaconEndsClaim t x n).cache = s.cache ∧
      (s.beaconEndsClaim t x n).orders = s.orders ∧ (s.beaconEndsClaim t x n).lift = s.lift ∧
      (s.beaconEndsClaim t x n).port = s.port := by
  simp [State.beaconEndsClaim]; split <;> simp

@[simp] theorem State.beaconBlocked_frame (s : State) (x n : Nat) (l : List Nat) :
    (s.beaconBlocked x n l).pending = s.pending ∧ (s.beaconBlocked x n l).phase = s.phase ∧
      (s.beaconBlocked x n l).pins = s.pins ∧ (s.beaconBlocked x n l).control = s.control ∧
      (s.beaconBlocked x n l).params = s.params ∧ (s.beaconBlocked x n l).pos = s.pos ∧
      (s.beaconBlocked x n l).line = s.line ∧ (s.beaconBlocked x n l).resp = s.resp ∧
      (s.beaconBlocked x n l).cache = s.cache ∧ (s.beaconBlocked x n l).orders = s.orders ∧
      (s.beaconBlocked x n l).lift = s.lift ∧ (s.beaconBlocked x n l).port = s.port ∧
      (s.beaconBlocked x n l).notice = s.notice := by
  unfold State.beaconBlocked; (repeat' split) <;> simp

@[simp] theorem State.beaconHoldoff_frame (s : State) (x n : Nat) :
    (s.beaconHoldoff x n).pending = s.pending ∧ (s.beaconHoldoff x n).phase = s.phase ∧
      (s.beaconHoldoff x n).pins = s.pins ∧ (s.beaconHoldoff x n).control = s.control ∧
      (s.beaconHoldoff x n).params = s.params ∧ (s.beaconHoldoff x n).pos = s.pos ∧
      (s.beaconHoldoff x n).line = s.line ∧ (s.beaconHoldoff x n).resp = s.resp ∧
      (s.beaconHoldoff x n).cache = s.cache ∧ (s.beaconHoldoff x n).orders = s.orders ∧
      (s.beaconHoldoff x n).lift = s.lift ∧ (s.beaconHoldoff x n).port = s.port ∧
      (s.beaconHoldoff x n).notice = s.notice := by
  unfold State.beaconHoldoff; (repeat' split) <;> simp

@[simp] theorem State.claimBeacon_frame (s : State) (t x : Nat) (b : BeaconBody) :
    (s.claimBeacon t x b).pending = s.pending ∧ (s.claimBeacon t x b).phase = s.phase ∧
      (s.claimBeacon t x b).pins = s.pins ∧ (s.claimBeacon t x b).control = s.control ∧
      (s.claimBeacon t x b).params = s.params ∧ (s.claimBeacon t x b).pos = s.pos ∧
      (s.claimBeacon t x b).resp = s.resp ∧ (s.claimBeacon t x b).cache = s.cache ∧
      (s.claimBeacon t x b).orders = s.orders ∧ (s.claimBeacon t x b).lift = s.lift ∧
      (s.claimBeacon t x b).port = s.port := by
  simp only [State.claimBeacon]; (repeat' split) <;> simp

@[simp] theorem State.takeBeacon_frame (s : State) (t x e : Nat) (b : BeaconBody) :
    (s.takeBeacon t x e b).pending = s.pending ∧ (s.takeBeacon t x e b).phase = s.phase ∧
      (s.takeBeacon t x e b).pins = s.pins ∧ (s.takeBeacon t x e b).params = s.params ∧
      (s.takeBeacon t x e b).lift = s.lift ∧ (s.takeBeacon t x e b).port = s.port := by
  simp [State.takeBeacon]

@[simp] theorem State.object_frame (s : State) (t x k n : Nat) (w : Reason) :
    (s.object t x k n w).pending = s.pending ∧ (s.object t x k n w).phase = s.phase ∧
      (s.object t x k n w).pins = s.pins ∧ (s.object t x k n w).control = s.control ∧
      (s.object t x k n w).params = s.params ∧ (s.object t x k n w).pos = s.pos ∧
      (s.object t x k n w).claim = s.claim ∧ (s.object t x k n w).resp = s.resp ∧
      (s.object t x k n w).cache = s.cache ∧ (s.object t x k n w).motion = s.motion ∧
      (s.object t x k n w).orders = s.orders ∧ (s.object t x k n w).lift = s.lift ∧
      (s.object t x k n w).port = s.port := by
  simp [State.object]

@[simp] theorem State.crossing_frame (s : State) (t x k u v : Nat) (l : List Nat) :
    (s.crossing t x k u v l).pending = s.pending ∧ (s.crossing t x k u v l).phase = s.phase ∧
      (s.crossing t x k u v l).pins = s.pins ∧ (s.crossing t x k u v l).control = s.control ∧
      (s.crossing t x k u v l).params = s.params ∧ (s.crossing t x k u v l).pos = s.pos ∧
      (s.crossing t x k u v l).resp = s.resp ∧ (s.crossing t x k u v l).cache = s.cache ∧
      (s.crossing t x k u v l).orders = s.orders ∧ (s.crossing t x k u v l).lift = s.lift ∧
      (s.crossing t x k u v l).port = s.port := by
  unfold State.crossing; (repeat' split) <;> simp

@[simp] theorem State.answerClaim_frame (s : State) (t x e k u v : Nat) (l : List Nat) :
    (s.answerClaim t x e k u v l).pending = s.pending ∧ (s.answerClaim t x e k u v l).phase = s.phase ∧
      (s.answerClaim t x e k u v l).pins = s.pins ∧ (s.answerClaim t x e k u v l).control = s.control ∧
      (s.answerClaim t x e k u v l).params = s.params ∧ (s.answerClaim t x e k u v l).pos = s.pos ∧
      (s.answerClaim t x e k u v l).cache = s.cache ∧ (s.answerClaim t x e k u v l).orders = s.orders ∧
      (s.answerClaim t x e k u v l).lift = s.lift ∧ (s.answerClaim t x e k u v l).port = s.port := by
  unfold State.answerClaim; (repeat' split) <;> simp

@[simp] theorem State.supplyRival_frame (s : State) (x k : Nat) :
    (s.supplyRival x k).pending = s.pending ∧ (s.supplyRival x k).phase = s.phase ∧
      (s.supplyRival x k).pins = s.pins ∧ (s.supplyRival x k).control = s.control ∧
      (s.supplyRival x k).params = s.params ∧ (s.supplyRival x k).pos = s.pos ∧ (s.supplyRival x k).line = s.line ∧
      (s.supplyRival x k).resp = s.resp ∧ (s.supplyRival x k).cache = s.cache ∧
      (s.supplyRival x k).motion = s.motion ∧ (s.supplyRival x k).orders = s.orders ∧
      (s.supplyRival x k).lift = s.lift ∧ (s.supplyRival x k).port = s.port ∧ (s.supplyRival x k).notice = s.notice := by
  simp [State.supplyRival]; split <;> simp

@[simp] theorem State.takeClaim_frame (s : State) (t x e k u v : Nat) (l : List Nat) :
    (s.takeClaim t x e k u v l).pending = s.pending ∧ (s.takeClaim t x e k u v l).phase = s.phase ∧
      (s.takeClaim t x e k u v l).pins = s.pins ∧ (s.takeClaim t x e k u v l).control = s.control ∧
      (s.takeClaim t x e k u v l).params = s.params ∧ (s.takeClaim t x e k u v l).pos = s.pos ∧
      (s.takeClaim t x e k u v l).cache = s.cache ∧ (s.takeClaim t x e k u v l).orders = s.orders ∧
      (s.takeClaim t x e k u v l).lift = s.lift ∧ (s.takeClaim t x e k u v l).port = s.port := by
  simp [State.takeClaim]

@[simp] theorem State.takeEnquire_frame (s : State) (t : Nat) (l : List Nat) :
    (s.takeEnquire t l).pending = s.pending ∧ (s.takeEnquire t l).phase = s.phase ∧
      (s.takeEnquire t l).pins = s.pins ∧ (s.takeEnquire t l).control = s.control ∧
      (s.takeEnquire t l).params = s.params ∧ (s.takeEnquire t l).pos = s.pos ∧
      (s.takeEnquire t l).claim = s.claim ∧ (s.takeEnquire t l).resp = s.resp ∧
      (s.takeEnquire t l).cache = s.cache ∧ (s.takeEnquire t l).motion = s.motion ∧
      (s.takeEnquire t l).orders = s.orders ∧ (s.takeEnquire t l).lift = s.lift ∧ (s.takeEnquire t l).port = s.port := by
  simp [State.takeEnquire]; split <;> simp

@[simp] theorem State.objectHeld_frame (s : State) (t x n : Nat) (m : Mark) :
    (s.objectHeld t x n m).pending = s.pending ∧ (s.objectHeld t x n m).phase = s.phase ∧
      (s.objectHeld t x n m).pins = s.pins ∧ (s.objectHeld t x n m).control = s.control ∧
      (s.objectHeld t x n m).params = s.params ∧ (s.objectHeld t x n m).pos = s.pos ∧
      (s.objectHeld t x n m).resp = s.resp ∧ (s.objectHeld t x n m).orders = s.orders ∧
      (s.objectHeld t x n m).lift = s.lift ∧ (s.objectHeld t x n m).port = s.port := by
  simp [State.objectHeld]; split <;> simp

@[simp] theorem State.objectEdition_frame (s : State) (t x e : Nat) :
    (s.objectEdition t x e).pending = s.pending ∧ (s.objectEdition t x e).phase = s.phase ∧
      (s.objectEdition t x e).pins = s.pins ∧ (s.objectEdition t x e).control = s.control ∧
      (s.objectEdition t x e).params = s.params ∧ (s.objectEdition t x e).pos = s.pos ∧
      (s.objectEdition t x e).cache = s.cache ∧ (s.objectEdition t x e).orders = s.orders ∧
      (s.objectEdition t x e).lift = s.lift ∧ (s.objectEdition t x e).port = s.port := by
  simp [State.objectEdition]

@[simp] theorem State.lateReserved_frame (s : State) (t x n : Nat) (m : Mark) :
    (s.lateReserved t x n m).pending = s.pending ∧ (s.lateReserved t x n m).phase = s.phase ∧
      (s.lateReserved t x n m).pins = s.pins ∧ (s.lateReserved t x n m).params = s.params ∧
      (s.lateReserved t x n m).resp = s.resp ∧ (s.lateReserved t x n m).lift = s.lift ∧
      (s.lateReserved t x n m).port = s.port := by
  simp [State.lateReserved]

@[simp] theorem State.lateOther_frame (s : State) (x n : Nat) (m : Mark) :
    (s.lateOther x n m).pending = s.pending ∧ (s.lateOther x n m).phase = s.phase ∧
      (s.lateOther x n m).pins = s.pins ∧ (s.lateOther x n m).control = s.control ∧
      (s.lateOther x n m).params = s.params ∧ (s.lateOther x n m).pos = s.pos ∧ (s.lateOther x n m).line = s.line ∧
      (s.lateOther x n m).resp = s.resp ∧ (s.lateOther x n m).orders = s.orders ∧
      (s.lateOther x n m).lift = s.lift ∧ (s.lateOther x n m).port = s.port ∧ (s.lateOther x n m).notice = s.notice := by
  simp [State.lateOther]; split <;> simp

@[simp] theorem State.lateObjection_frame (s : State) (t x e n : Nat) (w : Reason) :
    (s.lateObjection t x e n w).pending = s.pending ∧ (s.lateObjection t x e n w).phase = s.phase ∧
      (s.lateObjection t x e n w).pins = s.pins ∧ (s.lateObjection t x e n w).params = s.params ∧
      (s.lateObjection t x e n w).lift = s.lift ∧ (s.lateObjection t x e n w).port = s.port := by
  unfold State.lateObjection; (repeat' split) <;> simp

@[simp] theorem State.takeObject_frame (s : State) (t x e k n : Nat) (w : Reason) (r : PeerReport) :
    (s.takeObject t x e k n w r).pending = s.pending ∧ (s.takeObject t x e k n w r).phase = s.phase ∧
      (s.takeObject t x e k n w r).pins = s.pins ∧ (s.takeObject t x e k n w r).params = s.params ∧
      (s.takeObject t x e k n w r).lift = s.lift ∧ (s.takeObject t x e k n w r).port = s.port := by
  simp only [State.takeObject]; (repeat' split) <;> simp

@[simp] theorem State.claimRelease_frame (s : State) (x : Nat) (l : List Nat) :
    (s.claimRelease x l).pending = s.pending ∧ (s.claimRelease x l).phase = s.phase ∧
      (s.claimRelease x l).pins = s.pins ∧ (s.claimRelease x l).control = s.control ∧
      (s.claimRelease x l).params = s.params ∧ (s.claimRelease x l).pos = s.pos ∧
      (s.claimRelease x l).line = s.line ∧ (s.claimRelease x l).resp = s.resp ∧
      (s.claimRelease x l).cache = s.cache ∧ (s.claimRelease x l).orders = s.orders ∧
      (s.claimRelease x l).lift = s.lift ∧ (s.claimRelease x l).port = s.port ∧
      (s.claimRelease x l).notice = s.notice := by
  unfold State.claimRelease; (repeat' split) <;> simp

@[simp] theorem State.takeRelease_frame (s : State) (x : Nat) (l : List Nat) :
    (s.takeRelease x l).pending = s.pending ∧ (s.takeRelease x l).phase = s.phase ∧
      (s.takeRelease x l).pins = s.pins ∧ (s.takeRelease x l).control = s.control ∧
      (s.takeRelease x l).params = s.params ∧ (s.takeRelease x l).pos = s.pos ∧ (s.takeRelease x l).line = s.line ∧
      (s.takeRelease x l).resp = s.resp ∧ (s.takeRelease x l).orders = s.orders ∧
      (s.takeRelease x l).lift = s.lift ∧ (s.takeRelease x l).port = s.port ∧ (s.takeRelease x l).notice = s.notice := by
  simp [State.takeRelease]

@[simp] theorem State.takeWithdraw_frame (s : State) (x k : Nat) :
    (s.takeWithdraw x k).pending = s.pending ∧ (s.takeWithdraw x k).phase = s.phase ∧
      (s.takeWithdraw x k).pins = s.pins ∧ (s.takeWithdraw x k).control = s.control ∧
      (s.takeWithdraw x k).params = s.params ∧ (s.takeWithdraw x k).pos = s.pos ∧
      (s.takeWithdraw x k).line = s.line ∧ (s.takeWithdraw x k).resp = s.resp ∧
      (s.takeWithdraw x k).cache = s.cache ∧ (s.takeWithdraw x k).orders = s.orders ∧
      (s.takeWithdraw x k).lift = s.lift ∧ (s.takeWithdraw x k).port = s.port ∧
      (s.takeWithdraw x k).notice = s.notice := by
  unfold State.takeWithdraw; (repeat' split) <;> simp

@[simp] theorem State.takeRelay_frame (s : State) (t x d : Nat) (p : List Byte) :
    (s.takeRelay t x d p).pending = s.pending ∧ (s.takeRelay t x d p).phase = s.phase ∧
      (s.takeRelay t x d p).pins = s.pins ∧ (s.takeRelay t x d p).control = s.control ∧
      (s.takeRelay t x d p).params = s.params ∧ (s.takeRelay t x d p).pos = s.pos ∧
      (s.takeRelay t x d p).line = s.line ∧ (s.takeRelay t x d p).claim = s.claim ∧
      (s.takeRelay t x d p).resp = s.resp ∧ (s.takeRelay t x d p).cache = s.cache ∧
      (s.takeRelay t x d p).motion = s.motion ∧ (s.takeRelay t x d p).orders = s.orders ∧
      (s.takeRelay t x d p).lift = s.lift ∧ (s.takeRelay t x d p).port = s.port := by
  simp [State.takeRelay]

@[simp] theorem State.process_frame (s : State) (r : Received) :
    (s.process r).pending = s.pending ∧ (s.process r).phase = s.phase ∧ (s.process r).pins = s.pins ∧
      (s.process r).params = s.params ∧ (s.process r).lift = s.lift ∧ (s.process r).port = s.port := by
  simp [State.process]; split <;> simp

@[simp] theorem State.popFrame_frame (s : State) :
    (s.popFrame).pending = s.pending ∧ (s.popFrame).phase = s.phase ∧ (s.popFrame).pins = s.pins ∧
      (s.popFrame).control = s.control ∧ (s.popFrame).params = s.params ∧ (s.popFrame).pos = s.pos ∧
      (s.popFrame).claim = s.claim ∧ (s.popFrame).resp = s.resp ∧ (s.popFrame).cache = s.cache ∧
      (s.popFrame).motion = s.motion ∧ (s.popFrame).orders = s.orders ∧ (s.popFrame).lift = s.lift ∧
      (s.popFrame).notice = s.notice := by
  simp [State.popFrame]

@[simp] theorem State.takeHead_frame (s : State) :
    (s.takeHead).pending = s.pending ∧ (s.takeHead).phase = s.phase ∧ (s.takeHead).pins = s.pins ∧
      (s.takeHead).params = s.params ∧ (s.takeHead).lift = s.lift := by
  simp [State.takeHead]; split <;> simp

@[simp] theorem State.takeKind_frame (s : State) (k : Nat) :
    (s.takeKind k).pending = s.pending ∧ (s.takeKind k).phase = s.phase ∧ (s.takeKind k).pins = s.pins ∧
      (s.takeKind k).params = s.params ∧ (s.takeKind k).lift = s.lift := by
  unfold State.takeKind; (repeat' split) <;> simp

/-! ## The control step -/

@[simp] theorem State.figuresStep_frame (s : State) (t : Nat) :
    (s.figuresStep t).pending = s.pending ∧ (s.figuresStep t).phase = s.phase ∧ (s.figuresStep t).pins = s.pins ∧
      (s.figuresStep t).params = s.params ∧ (s.figuresStep t).resp = s.resp ∧ (s.figuresStep t).lift = s.lift ∧
      (s.figuresStep t).port = s.port := by
  simp [State.figuresStep]

@[simp] theorem State.obstacleCheck_frame (s : State) (t : Nat) :
    (s.obstacleCheck t).pending = s.pending ∧ (s.obstacleCheck t).phase = s.phase ∧
      (s.obstacleCheck t).pins = s.pins ∧ (s.obstacleCheck t).params = s.params ∧
      (s.obstacleCheck t).resp = s.resp ∧ (s.obstacleCheck t).lift = s.lift ∧ (s.obstacleCheck t).port = s.port := by
  simp [State.obstacleCheck]; split <;> simp

@[simp] theorem State.driveStep_frame (s : State) (b : Bool) :
    (s.driveStep b).pending = s.pending ∧ (s.driveStep b).phase = s.phase ∧ (s.driveStep b).pins = s.pins ∧
      (s.driveStep b).control = s.control ∧ (s.driveStep b).params = s.params ∧ (s.driveStep b).pos = s.pos ∧
      (s.driveStep b).line = s.line ∧ (s.driveStep b).claim = s.claim ∧ (s.driveStep b).resp = s.resp ∧
      (s.driveStep b).cache = s.cache ∧ (s.driveStep b).orders = s.orders ∧ (s.driveStep b).lift = s.lift ∧
      (s.driveStep b).port = s.port ∧ (s.driveStep b).notice = s.notice := by
  unfold State.driveStep; (repeat' split) <;> simp

@[simp] theorem State.raiseStall_frame (s : State) (t : Nat) :
    (s.raiseStall t).pending = s.pending ∧ (s.raiseStall t).phase = s.phase ∧ (s.raiseStall t).pins = s.pins ∧
      (s.raiseStall t).params = s.params ∧ (s.raiseStall t).resp = s.resp ∧ (s.raiseStall t).lift = s.lift ∧
      (s.raiseStall t).port = s.port := by
  simp [State.raiseStall]

@[simp] theorem State.stallStep_frame (s : State) (t : Nat) :
    (s.stallStep t).pending = s.pending ∧ (s.stallStep t).phase = s.phase ∧ (s.stallStep t).pins = s.pins ∧
      (s.stallStep t).params = s.params ∧ (s.stallStep t).resp = s.resp ∧ (s.stallStep t).lift = s.lift ∧
      (s.stallStep t).port = s.port := by
  unfold State.stallStep; (repeat' split) <;> simp

@[simp] theorem State.emergencyComplete_frame (s : State) (t : Nat) :
    (s.emergencyComplete t).pending = s.pending ∧ (s.emergencyComplete t).phase = s.phase ∧
      (s.emergencyComplete t).pins = s.pins ∧ (s.emergencyComplete t).params = s.params ∧
      (s.emergencyComplete t).resp = s.resp ∧ (s.emergencyComplete t).lift = s.lift ∧
      (s.emergencyComplete t).port = s.port := by
  simp [State.emergencyComplete]; split <;> simp

@[simp] theorem State.latchStep_frame (s : State) (t : Nat) :
    (s.latchStep t).pending = s.pending ∧ (s.latchStep t).phase = s.phase ∧ (s.latchStep t).pins = s.pins ∧
      (s.latchStep t).params = s.params ∧ (s.latchStep t).resp = s.resp ∧ (s.latchStep t).lift = s.lift ∧
      (s.latchStep t).port = s.port := by
  unfold State.latchStep; (repeat' split) <;> simp

@[simp] theorem State.yieldStopped_frame (s : State) (t : Nat) :
    (s.yieldStopped t).pending = s.pending ∧ (s.yieldStopped t).phase = s.phase ∧
      (s.yieldStopped t).pins = s.pins ∧ (s.yieldStopped t).control = s.control ∧
      (s.yieldStopped t).params = s.params ∧ (s.yieldStopped t).line = s.line ∧ (s.yieldStopped t).resp = s.resp ∧
      (s.yieldStopped t).cache = s.cache ∧ (s.yieldStopped t).lift = s.lift ∧ (s.yieldStopped t).port = s.port := by
  unfold State.yieldStopped; (repeat' split) <;> simp

@[simp] theorem State.cancelStopped_frame (s : State) (t : Nat) :
    (s.cancelStopped t).pending = s.pending ∧ (s.cancelStopped t).phase = s.phase ∧
      (s.cancelStopped t).pins = s.pins ∧ (s.cancelStopped t).control = s.control ∧
      (s.cancelStopped t).params = s.params ∧ (s.cancelStopped t).line = s.line ∧
      (s.cancelStopped t).claim = s.claim ∧ (s.cancelStopped t).resp = s.resp ∧
      (s.cancelStopped t).motion = s.motion ∧ (s.cancelStopped t).lift = s.lift ∧ (s.cancelStopped t).port = s.port := by
  unfold State.cancelStopped; (repeat' split) <;> simp

@[simp] theorem State.serviceComplete_frame (s : State) (t : Nat) :
    (s.serviceComplete t).pending = s.pending ∧ (s.serviceComplete t).phase = s.phase ∧
      (s.serviceComplete t).pins = s.pins ∧ (s.serviceComplete t).params = s.params ∧
      (s.serviceComplete t).resp = s.resp ∧ (s.serviceComplete t).lift = s.lift ∧
      (s.serviceComplete t).port = s.port := by
  simp only [State.serviceComplete]; (repeat' split) <;> simp

@[simp] theorem State.serviceStep_frame (s : State) (t : Nat) :
    (s.serviceStep t).pending = s.pending ∧ (s.serviceStep t).phase = s.phase ∧ (s.serviceStep t).pins = s.pins ∧
      (s.serviceStep t).params = s.params ∧ (s.serviceStep t).resp = s.resp ∧ (s.serviceStep t).lift = s.lift ∧
      (s.serviceStep t).port = s.port := by
  unfold State.serviceStep; (repeat' split) <;> simp

@[simp] theorem State.takeReversal_frame (s : State) (t : Nat) :
    (s.takeReversal t).pending = s.pending ∧ (s.takeReversal t).phase = s.phase ∧
      (s.takeReversal t).pins = s.pins ∧ (s.takeReversal t).params = s.params ∧ (s.takeReversal t).resp = s.resp ∧
      (s.takeReversal t).lift = s.lift ∧ (s.takeReversal t).port = s.port := by
  simp [State.takeReversal]

@[simp] theorem State.reversalStep_frame (s : State) (t : Nat) :
    (s.reversalStep t).pending = s.pending ∧ (s.reversalStep t).phase = s.phase ∧
      (s.reversalStep t).pins = s.pins ∧ (s.reversalStep t).params = s.params ∧ (s.reversalStep t).resp = s.resp ∧
      (s.reversalStep t).lift = s.lift ∧ (s.reversalStep t).port = s.port := by
  unfold State.reversalStep; (repeat' split) <;> simp

@[simp] theorem State.endAction_frame (s : State) (t : Nat) (o : Order) :
    (s.endAction t o).pending = s.pending ∧ (s.endAction t o).phase = s.phase ∧ (s.endAction t o).pins = s.pins ∧
      (s.endAction t o).control = s.control ∧ (s.endAction t o).params = s.params ∧
      (s.endAction t o).line = s.line ∧ (s.endAction t o).claim = s.claim ∧ (s.endAction t o).resp = s.resp ∧
      (s.endAction t o).motion = s.motion ∧ (s.endAction t o).port = s.port := by
  unfold State.endAction; (repeat' split) <;> simp

@[simp] theorem State.arrivalStep_frame (s : State) (t : Nat) (b : Bool) :
    (s.arrivalStep t b).pending = s.pending ∧ (s.arrivalStep t b).phase = s.phase ∧
      (s.arrivalStep t b).pins = s.pins ∧ (s.arrivalStep t b).control = s.control ∧
      (s.arrivalStep t b).params = s.params ∧ (s.arrivalStep t b).resp = s.resp ∧ (s.arrivalStep t b).port = s.port := by
  unfold State.arrivalStep; (repeat' split) <;> simp

@[simp] theorem State.newAttempt_frame (s : State) (t : Nat) (l : List Nat) (u : Nat) :
    (s.newAttempt t l u).pending = s.pending ∧ (s.newAttempt t l u).phase = s.phase ∧
      (s.newAttempt t l u).pins = s.pins ∧ (s.newAttempt t l u).control = s.control ∧
      (s.newAttempt t l u).params = s.params ∧ (s.newAttempt t l u).pos = s.pos ∧
      (s.newAttempt t l u).resp = s.resp ∧ (s.newAttempt t l u).cache = s.cache ∧
      (s.newAttempt t l u).orders = s.orders ∧ (s.newAttempt t l u).lift = s.lift ∧
      (s.newAttempt t l u).port = s.port := by
  simp [State.newAttempt]

@[simp] theorem State.foundStale_frame (s : State) (b : Bool) :
    (s.foundStale b).pending = s.pending ∧ (s.foundStale b).phase = s.phase ∧ (s.foundStale b).pins = s.pins ∧
      (s.foundStale b).control = s.control ∧ (s.foundStale b).params = s.params ∧ (s.foundStale b).pos = s.pos
      ∧ (s.foundStale b).line = s.line ∧ (s.foundStale b).resp = s.resp ∧ (s.foundStale b).cache = s.cache ∧
      (s.foundStale b).motion = s.motion ∧ (s.foundStale b).orders = s.orders ∧ (s.foundStale b).lift = s.lift
      ∧ (s.foundStale b).port = s.port ∧ (s.foundStale b).notice = s.notice := by
  simp [State.foundStale]

@[simp] theorem State.foundStale_claim (s : State) (b : Bool) :
    (s.foundStale b).claim = { s.claim with record := { s.claim.record with lastStale := b } } := rfl

@[simp] theorem State.formClaim_frame (s : State) (t : Nat) :
    (s.formClaim t).pending = s.pending ∧ (s.formClaim t).phase = s.phase ∧ (s.formClaim t).pins = s.pins ∧
      (s.formClaim t).control = s.control ∧ (s.formClaim t).params = s.params ∧ (s.formClaim t).pos = s.pos ∧
      (s.formClaim t).resp = s.resp ∧ (s.formClaim t).cache = s.cache ∧ (s.formClaim t).orders = s.orders ∧
      (s.formClaim t).lift = s.lift ∧ (s.formClaim t).port = s.port := by
  unfold State.formClaim; (repeat' split) <;> simp

@[simp] theorem State.enquire_frame (s : State) (t seg : Nat) :
    (s.enquire t seg).pending = s.pending ∧ (s.enquire t seg).phase = s.phase ∧ (s.enquire t seg).pins =
      s.pins ∧ (s.enquire t seg).control = s.control ∧ (s.enquire t seg).params = s.params ∧ (s.enquire t
      seg).pos = s.pos ∧ (s.enquire t seg).resp = s.resp ∧ (s.enquire t seg).cache = s.cache ∧ (s.enquire t
      seg).motion = s.motion ∧ (s.enquire t seg).orders = s.orders ∧ (s.enquire t seg).lift = s.lift ∧
      (s.enquire t seg).port = s.port := by
  unfold State.enquire; split <;> simp

@[simp] theorem State.enquiryStep_frame (s : State) (t : Nat) :
    (s.enquiryStep t).pending = s.pending ∧ (s.enquiryStep t).phase = s.phase ∧ (s.enquiryStep t).pins = s.pins ∧
      (s.enquiryStep t).control = s.control ∧ (s.enquiryStep t).params = s.params ∧ (s.enquiryStep t).pos = s.pos ∧
      (s.enquiryStep t).resp = s.resp ∧ (s.enquiryStep t).cache = s.cache ∧ (s.enquiryStep t).motion = s.motion ∧
      (s.enquiryStep t).orders = s.orders ∧ (s.enquiryStep t).lift = s.lift ∧ (s.enquiryStep t).port = s.port := by
  unfold State.enquiryStep; (repeat' split) <;> simp

@[simp] theorem State.waitedStep_frame (s : State) :
    (s.waitedStep).pending = s.pending ∧ (s.waitedStep).phase = s.phase ∧ (s.waitedStep).pins = s.pins ∧
      (s.waitedStep).control = s.control ∧ (s.waitedStep).params = s.params ∧ (s.waitedStep).pos = s.pos ∧
      (s.waitedStep).line = s.line ∧ (s.waitedStep).resp = s.resp ∧ (s.waitedStep).cache = s.cache ∧
      (s.waitedStep).motion = s.motion ∧ (s.waitedStep).orders = s.orders ∧ (s.waitedStep).lift = s.lift ∧
      (s.waitedStep).port = s.port ∧ (s.waitedStep).notice = s.notice := by
  simp [State.waitedStep]; split <;> simp

@[simp] theorem State.beginWaitLimitYield_frame (s : State) :
    (s.beginWaitLimitYield).pending = s.pending ∧ (s.beginWaitLimitYield).phase = s.phase ∧
      (s.beginWaitLimitYield).pins = s.pins ∧ (s.beginWaitLimitYield).control = s.control ∧
      (s.beginWaitLimitYield).params = s.params ∧ (s.beginWaitLimitYield).pos = s.pos ∧
      (s.beginWaitLimitYield).line = s.line ∧ (s.beginWaitLimitYield).resp = s.resp ∧
      (s.beginWaitLimitYield).cache = s.cache ∧ (s.beginWaitLimitYield).orders = s.orders ∧
      (s.beginWaitLimitYield).lift = s.lift ∧ (s.beginWaitLimitYield).port = s.port ∧
      (s.beginWaitLimitYield).notice = s.notice := by
  simp [State.beginWaitLimitYield]

@[simp] theorem State.expireWait_frame (s : State) (t : Nat) :
    (s.expireWait t).pending = s.pending ∧ (s.expireWait t).phase = s.phase ∧ (s.expireWait t).pins = s.pins ∧
      (s.expireWait t).control = s.control ∧ (s.expireWait t).params = s.params ∧ (s.expireWait t).pos = s.pos ∧
      (s.expireWait t).line = s.line ∧ (s.expireWait t).resp = s.resp ∧ (s.expireWait t).cache = s.cache ∧
      (s.expireWait t).orders = s.orders ∧ (s.expireWait t).lift = s.lift ∧ (s.expireWait t).port = s.port := by
  simp [State.expireWait]; split <;> simp

@[simp] theorem State.waitLimitStep_frame (s : State) (t : Nat) :
    (s.waitLimitStep t).pending = s.pending ∧ (s.waitLimitStep t).phase = s.phase ∧
      (s.waitLimitStep t).pins = s.pins ∧ (s.waitLimitStep t).control = s.control ∧
      (s.waitLimitStep t).params = s.params ∧ (s.waitLimitStep t).pos = s.pos ∧ (s.waitLimitStep t).line = s.line ∧
      (s.waitLimitStep t).resp = s.resp ∧ (s.waitLimitStep t).cache = s.cache ∧
      (s.waitLimitStep t).orders = s.orders ∧ (s.waitLimitStep t).lift = s.lift ∧ (s.waitLimitStep t).port = s.port := by
  simp [State.waitLimitStep]; split <;> simp

@[simp] theorem State.beginYield_frame (s : State) (x w : Nat) :
    (s.beginYield x w).pending = s.pending ∧ (s.beginYield x w).phase = s.phase ∧
      (s.beginYield x w).pins = s.pins ∧ (s.beginYield x w).control = s.control ∧
      (s.beginYield x w).params = s.params ∧ (s.beginYield x w).pos = s.pos ∧ (s.beginYield x w).line = s.line ∧
      (s.beginYield x w).resp = s.resp ∧ (s.beginYield x w).cache = s.cache ∧
      (s.beginYield x w).orders = s.orders ∧ (s.beginYield x w).lift = s.lift ∧ (s.beginYield x w).port = s.port ∧
      (s.beginYield x w).notice = s.notice := by
  simp [State.beginYield]; split <;> simp

@[simp] theorem State.cycleStep_frame (s : State) :
    (s.cycleStep).pending = s.pending ∧ (s.cycleStep).phase = s.phase ∧ (s.cycleStep).pins = s.pins ∧
      (s.cycleStep).control = s.control ∧ (s.cycleStep).params = s.params ∧ (s.cycleStep).pos = s.pos ∧
      (s.cycleStep).line = s.line ∧ (s.cycleStep).resp = s.resp ∧ (s.cycleStep).cache = s.cache ∧
      (s.cycleStep).orders = s.orders ∧ (s.cycleStep).lift = s.lift ∧ (s.cycleStep).port = s.port ∧
      (s.cycleStep).notice = s.notice := by
  unfold State.cycleStep; (repeat' split) <;> simp

@[simp] theorem State.claimStep_frame (s : State) (t : Nat) (b : Bool) :
    (s.claimStep t b).pending = s.pending ∧ (s.claimStep t b).phase = s.phase ∧ (s.claimStep t b).pins =
      s.pins ∧ (s.claimStep t b).control = s.control ∧ (s.claimStep t b).params = s.params ∧ (s.claimStep t
      b).pos = s.pos ∧ (s.claimStep t b).resp = s.resp ∧ (s.claimStep t b).cache = s.cache ∧ (s.claimStep t
      b).orders = s.orders ∧ (s.claimStep t b).lift = s.lift ∧ (s.claimStep t b).port = s.port := by
  cases b <;> simp [State.claimStep]

@[simp] theorem State.activate_frame (s : State) (t : Nat) (o : Order) (p : List Nat) :
    (s.activate t o p).pending = s.pending ∧ (s.activate t o p).phase = s.phase ∧
      (s.activate t o p).pins = s.pins ∧ (s.activate t o p).control = s.control ∧
      (s.activate t o p).params = s.params ∧ (s.activate t o p).line = s.line ∧ (s.activate t o p).resp = s.resp ∧
      (s.activate t o p).motion = s.motion ∧ (s.activate t o p).lift = s.lift ∧ (s.activate t o p).port = s.port := by
  simp [State.activate]

@[simp] theorem State.motionStep_frame (s : State) (t : Nat) :
    (s.motionStep t).pending = s.pending ∧ (s.motionStep t).phase = s.phase ∧ (s.motionStep t).pins = s.pins ∧
      (s.motionStep t).params = s.params ∧ (s.motionStep t).resp = s.resp ∧ (s.motionStep t).port = s.port := by
  simp [State.motionStep]

end Sys2Proof.Machine
end

