-- ==== Sys2Proof/Laws/ControlStep.lean ====
section
/-! SUPPORT. The frame of a whole control step, of taking buffered frames, and of a service stop that is due. -/

namespace Sys2Proof.Machine

theorem State.judgeActivation_frame (t : Nat) : ∀ (n : Nat) (s : State),
    (s.judgeActivation t n).pending = s.pending ∧ (s.judgeActivation t n).phase = s.phase ∧
      (s.judgeActivation t n).pins = s.pins ∧ (s.judgeActivation t n).control = s.control ∧
      (s.judgeActivation t n).params = s.params ∧ (s.judgeActivation t n).line = s.line ∧
      (s.judgeActivation t n).resp = s.resp ∧ (s.judgeActivation t n).motion = s.motion ∧
      (s.judgeActivation t n).lift = s.lift ∧ (s.judgeActivation t n).port = s.port := by
  intro n
  induction n with
  | zero => intro s; simp [State.judgeActivation]
  | succ n ih =>
      intro s
      unfold State.judgeActivation
      split
      · split
        · split
          · simp
          · refine ⟨?_, ?_, ?_, ?_, ?_, ?_, ?_, ?_, ?_, ?_⟩ <;> simp [ih]
        · simp
      · simp

@[simp] theorem State.activationStep_frame (s : State) (t : Nat) :
    (s.activationStep t).pending = s.pending ∧ (s.activationStep t).phase = s.phase ∧
      (s.activationStep t).pins = s.pins ∧ (s.activationStep t).control = s.control ∧
      (s.activationStep t).params = s.params ∧ (s.activationStep t).line = s.line ∧
      (s.activationStep t).resp = s.resp ∧ (s.activationStep t).motion = s.motion ∧
      (s.activationStep t).lift = s.lift ∧ (s.activationStep t).port = s.port := by
  unfold State.activationStep
  split
  · exact State.judgeActivation_frame t 9 s
  · simp

@[simp] theorem State.controlStep_frame (s : State) :
    s.controlStep.pending = s.pending ∧ s.controlStep.phase = s.phase ∧ s.controlStep.pins = s.pins ∧
      s.controlStep.params = s.params ∧ s.controlStep.resp = s.resp ∧ s.controlStep.port = s.port := by
  unfold State.controlStep
  dsimp only
  split <;> simp

/-- Taking frames leaves the queue of commands, the clock, the pins, the parameters and the lift as they are. -/
@[simp] theorem State.takeFrames_frame (n : Nat) (s : State) :
    (State.takeFrames n s).pending = s.pending ∧ (State.takeFrames n s).phase = s.phase ∧
      (State.takeFrames n s).pins = s.pins ∧ (State.takeFrames n s).params = s.params ∧
      (State.takeFrames n s).lift = s.lift := by
  induction n generalizing s with
  | zero => simp [State.takeFrames]
  | succ n ih =>
      obtain ⟨a, b, c, d, e⟩ := ih s.takeHead
      simp only [State.takeFrames]
      simp_all

end Sys2Proof.Machine
end

