-- ==== Sys2Proof/Laws/Figures.lean ====
section
/-! SUPPORT. What a step makes of D_end and v_end, when an order has arrived, what a closing flag leaves of the bits
gathered, and which of several places is the nearer. -/

namespace Sys2Proof.Machine

/-! ## D_end and v_end (R135, R138) -/

theorem State.stepEnd_of_computed {s : State} {d : Int} (h : s.endNow = some d) : s.stepEnd = some d := by
  simp [State.stepEnd, h]

theorem State.stepEnd_of_kept {s : State} (h : s.endNow = none) :
    s.stepEnd = s.motion.figures.bind Figures.dEnd := by
  simp [State.stepEnd, h]

theorem State.endNow_of_no_order {s : State} (h : s.activeOrder = none) : s.endNow = none := by
  simp [State.endNow, h]

theorem State.endNow_of_order {s : State} {o : Order} (h : s.activeOrder = some o) : s.endNow = s.endDistance o := by
  simp [State.endNow, h]

/-- The end point is off the run exactly where no segment laid out is the path's last. -/
theorem State.endDistance_eq_none {s : State} {o : Order} :
    s.endDistance o = none ↔ ∀ p ∈ s.layout, o.path.getLast? ≠ some p.seg := by
  unfold State.endDistance
  cases h : o.path.getLast? with
  | none => simp
  | some n => simp [@eq_comm _ n]

theorem State.stepEndSpeed_of_computed {s : State} {a v : Nat} (h : s.endSpeedNow a = some v) :
    s.stepEndSpeed a = some v := by
  simp [State.stepEndSpeed, h]

theorem State.stepEndSpeed_of_kept {s : State} {a : Nat} (h : s.endSpeedNow a = none) :
    s.stepEndSpeed a = s.motion.figures.bind Figures.vEnd := by
  simp [State.stepEndSpeed, h]

/-! ## Arrival (R149) -/

theorem State.hasArrived_iff (s : State) (reversal : Bool) :
    s.hasArrived reversal = true ↔
      s.control.state = .running ∧ reversal = false ∧ s.motion.requests = [] ∧ s.motion.measured = 0
        ∧ ∃ d, s.endNow = some d ∧ d ≤ 10 := by
  cases h : s.endNow <;> simp [State.hasArrived, h, and_assoc]

/-! ## The bits gathered at a closing flag (R37) -/

theorem withoutFlag_zero (content : List Bool) :
    withoutFlag (content ++ false :: List.replicate 5 true) = content := by
  simp [withoutFlag, List.take_append, List.take_of_length_le]

theorem withoutFlag_after_ones (content : List Bool) :
    withoutFlag (content ++ true :: List.replicate 5 true) = content ++ [true] := by
  simp [withoutFlag, List.take_append, List.take_of_length_le]

theorem withoutFlag_empty : withoutFlag (List.replicate 5 true) = [] := rfl

/-! ## The nearer of several places (log 37) -/

/-- The coordinate nearest to the centre is one of the list, and none of the list is nearer. -/
theorem nearestTo_spec (l : List Int) (x : Int) (h : nearestTo l = some x) :
    x ∈ l ∧ ∀ y ∈ l, x.natAbs ≤ y.natAbs := by
  induction l generalizing x with
  | nil => simp [nearestTo] at h
  | cons a rest ih =>
    simp only [nearestTo] at h
    cases hr : nearestTo rest with
    | none =>
      have hn : rest = [] := by
        cases rest with
        | nil => rfl
        | cons b more =>
          simp only [nearestTo] at hr
          cases hm : nearestTo more <;> simp [hm] at hr
          split at hr <;> simp at hr
      simp only [hr, Option.some.injEq] at h
      subst h; subst hn; simp
    | some y =>
      obtain ⟨hy, hle⟩ := ih y hr
      simp only [hr] at h
      split at h <;> simp only [Option.some.injEq] at h <;> subst h
      · refine ⟨List.mem_cons_self, fun z hz => ?_⟩
        rcases List.mem_cons.1 hz with rfl | hz
        · exact le_rfl
        · exact le_trans ‹_› (hle z hz)
      · refine ⟨List.mem_cons_of_mem _ hy, fun z hz => ?_⟩
        rcases List.mem_cons.1 hz with rfl | hz
        · omega
        · exact hle z hz

end Sys2Proof.Machine
end

