-- ==== Sys2Proof/Laws/HostCommand.lean ====
section
/-! SUPPORT. What executing a host command can do (R177 to R179): nothing while another command waits; otherwise its
answer on the state the frames before it leave, with the reply placed. -/

namespace Sys2Proof.Machine

theorem State.hostCommand_of_executing (s u : State) (kind : Nat) (args : List Byte) (run : State → Answer)
    (h : s.executing kind args = some u) :
    s.hostCommand kind args run = (run u).state.placeReply ⟨kind, (run u).status, (run u).results⟩ := by
  simp [State.hostCommand, h]

theorem State.hostCommand_of_other (s : State) (kind : Nat) (args : List Byte) (run : State → Answer)
    (h : s.executing kind args = none) : s.hostCommand kind args run = s := by
  simp [State.hostCommand, h]

/-- The command that waits is executed after the frames before it. -/
theorem State.executing_pending (s : State) (c : TakenCommand) (h : s.port.slot = .pending c) :
    s.executing c.kind c.args = some (State.takeFrames c.framesAhead s) := by
  simp [State.executing, State.hostReady, h, Slot.framesAhead]

/-- No other command is executed while one waits. -/
theorem State.executing_other (s : State) (c : TakenCommand) (kind : Nat) (args : List Byte)
    (h : s.port.slot = .pending c) (hne : ¬(c.kind = kind ∧ c.args = args)) : s.executing kind args = none := by
  simp [State.executing, State.hostReady, h, hne]

theorem State.checked_short {α : Type} (s : State) (taken : StationState → Bool) (run : State → α → Answer) :
    s.checked none taken run = ⟨s, .refusedArgument, RefusalReason.length.bytes⟩ := rfl

theorem State.checked_taken {α : Type} (s : State) (a : α) (taken : StationState → Bool) (run : State → α → Answer)
    (h : taken s.control.state = true) : s.checked (some a) taken run = run s a := by
  simp [State.checked, h]

theorem State.checked_wrong_state {α : Type} (s : State) (a : α) (taken : StationState → Bool) (run : State → α → Answer)
    (h : taken s.control.state = false) : s.checked (some a) taken run = ⟨s, .refusedState, []⟩ := by
  simp [State.checked, h, State.refuse]

theorem State.takeFrames_zero (s : State) : State.takeFrames 0 s = s := rfl

theorem State.takeFrames_succ (n : Nat) (s : State) : State.takeFrames (n + 1) s = State.takeFrames n s.takeHead := rfl

/-- What every taken frame keeps, any number of them keeps. -/
theorem State.takeFrames_keeps {β : Type} (g : State → β) (h : ∀ s, g s.takeHead = g s) :
    ∀ n s, g (State.takeFrames n s) = g s := by
  intro n
  induction n with
  | zero => intro s; rfl
  | succ n ih => intro s; rw [State.takeFrames_succ, ih, h]

end Sys2Proof.Machine
end

