-- ==== Sys2Proof/Laws/PerInstr.lean ====
section
/-! SUPPORT. Statements about every command as syntax, one lemma per constructor. RowOfKind: a host command's row is
the one its kind code names (section 11.3, R179). -/

namespace Sys2Proof.Laws.RowOfKind

open Sys2Proof.Machine

/-- The kind code and the arguments of a host command's row. -/
def hostRow : Instr → Option (Nat × List Byte)
  | .setStation a => some (1, a)
  | .setParameter a => some (2, a)
  | .loadSegment a => some (3, a)
  | .loadTagWindow a => some (4, a)
  | .setEdition a => some (5, a)
  | .start a => some (6, a)
  | .submitOrder a => some (16, a)
  | .cancelOrder a => some (17, a)
  | .stop a => some (18, a)
  | .resume a => some (19, a)
  | .restart a => some (20, a)
  | .sendRelay a => some (21, a)
  | .lineReset a => some (22, a)
  | .clearLift a => some (23, a)
  | .forgetStation a => some (24, a)
  | .queryStatus a => some (32, a)
  | .queryOrders a => some (33, a)
  | .queryCounters a => some (34, a)
  | .readCacheEntry a => some (35, a)
  | .invalidateCacheEntry a => some (36, a)
  | .invalidateCacheSegment a => some (37, a)
  | .invalidateCacheSet a => some (38, a)
  | .readNotices a => some (39, a)
  | .enableNotices a => some (40, a)
  | .disableNotices a => some (41, a)
  | .setAttention a => some (42, a)
  | .readFaultRecord a => some (43, a)
  | .clearFaultRecord a => some (44, a)
  | .unknownCommand k a => some (k.toNat, a)
  | .powerOnReset | .commandTransaction _ _ | .readTransaction _ _ | .encoderPulse | .tagRead _ | .obstDeasserted
  | .controlStep _ _ | .serviceStopComplete | .emergencyStopComplete | .driveStall | .waitExpired
  | .joinTimerExpiry | .beaconTimerExpiry | .windowR1Expiry | .grant | .contestTimerExpiry | .editionRetryExpiry
  | .holdoffTimerExpiry | .entryStale _ _ | .liftSensorChange _ _ _ | .liftTimeout | .frameClosed _
  | .beaconReceived | .claimReceived | .enquireReceived | .objectReceived | .releaseReceived | .withdrawReceived
  | .relayReceived | .transmissionStart | .transmissionComplete | .collision _ | .backoffEnd => none

/-- The row of a well-formed host command is the one its kind names, and the kind is never 0. -/
def Statement (i : Instr) : Prop :=
  i.wellFormed = true → ∀ k a, hostRow i = some (k, a) → commandRow k a = i ∧ k ≠ 0 ∧ k < 256

theorem powerOnReset : Statement .powerOnReset := by intro _ k a h; cases h
theorem commandTransaction (hdi : List Bool) (beganPending : Bool) : Statement (.commandTransaction hdi beganPending) := by intro _ k a h; cases h
theorem readTransaction (hdi : List Bool) (beganPending : Bool) : Statement (.readTransaction hdi beganPending) := by intro _ k a h; cases h
theorem setStation (args : List Byte) : Statement (.setStation args) := by
  intro _ k a h; cases h; exact ⟨rfl, by decide, by decide⟩
theorem setParameter (args : List Byte) : Statement (.setParameter args) := by
  intro _ k a h; cases h; exact ⟨rfl, by decide, by decide⟩
theorem loadSegment (args : List Byte) : Statement (.loadSegment args) := by
  intro _ k a h; cases h; exact ⟨rfl, by decide, by decide⟩
theorem loadTagWindow (args : List Byte) : Statement (.loadTagWindow args) := by
  intro _ k a h; cases h; exact ⟨rfl, by decide, by decide⟩
theorem setEdition (args : List Byte) : Statement (.setEdition args) := by
  intro _ k a h; cases h; exact ⟨rfl, by decide, by decide⟩
theorem start (args : List Byte) : Statement (.start args) := by
  intro _ k a h; cases h; exact ⟨rfl, by decide, by decide⟩
theorem submitOrder (args : List Byte) : Statement (.submitOrder args) := by
  intro _ k a h; cases h; exact ⟨rfl, by decide, by decide⟩
theorem cancelOrder (args : List Byte) : Statement (.cancelOrder args) := by
  intro _ k a h; cases h; exact ⟨rfl, by decide, by decide⟩
theorem stop (args : List Byte) : Statement (.stop args) := by
  intro _ k a h; cases h; exact ⟨rfl, by decide, by decide⟩
theorem resume (args : List Byte) : Statement (.resume args) := by
  intro _ k a h; cases h; exact ⟨rfl, by decide, by decide⟩
theorem restart (args : List Byte) : Statement (.restart args) := by
  intro _ k a h; cases h; exact ⟨rfl, by decide, by decide⟩
theorem sendRelay (args : List Byte) : Statement (.sendRelay args) := by
  intro _ k a h; cases h; exact ⟨rfl, by decide, by decide⟩
theorem lineReset (args : List Byte) : Statement (.lineReset args) := by
  intro _ k a h; cases h; exact ⟨rfl, by decide, by decide⟩
theorem clearLift (args : List Byte) : Statement (.clearLift args) := by
  intro _ k a h; cases h; exact ⟨rfl, by decide, by decide⟩
theorem forgetStation (args : List Byte) : Statement (.forgetStation args) := by
  intro _ k a h; cases h; exact ⟨rfl, by decide, by decide⟩
theorem queryStatus (args : List Byte) : Statement (.queryStatus args) := by
  intro _ k a h; cases h; exact ⟨rfl, by decide, by decide⟩
theorem queryOrders (args : List Byte) : Statement (.queryOrders args) := by
  intro _ k a h; cases h; exact ⟨rfl, by decide, by decide⟩
theorem queryCounters (args : List Byte) : Statement (.queryCounters args) := by
  intro _ k a h; cases h; exact ⟨rfl, by decide, by decide⟩
theorem readCacheEntry (args : List Byte) : Statement (.readCacheEntry args) := by
  intro _ k a h; cases h; exact ⟨rfl, by decide, by decide⟩
theorem invalidateCacheEntry (args : List Byte) : Statement (.invalidateCacheEntry args) := by
  intro _ k a h; cases h; exact ⟨rfl, by decide, by decide⟩
theorem invalidateCacheSegment (args : List Byte) : Statement (.invalidateCacheSegment args) := by
  intro _ k a h; cases h; exact ⟨rfl, by decide, by decide⟩
theorem invalidateCacheSet (args : List Byte) : Statement (.invalidateCacheSet args) := by
  intro _ k a h; cases h; exact ⟨rfl, by decide, by decide⟩
theorem readNotices (args : List Byte) : Statement (.readNotices args) := by
  intro _ k a h; cases h; exact ⟨rfl, by decide, by decide⟩
theorem enableNotices (args : List Byte) : Statement (.enableNotices args) := by
  intro _ k a h; cases h; exact ⟨rfl, by decide, by decide⟩
theorem disableNotices (args : List Byte) : Statement (.disableNotices args) := by
  intro _ k a h; cases h; exact ⟨rfl, by decide, by decide⟩
theorem setAttention (args : List Byte) : Statement (.setAttention args) := by
  intro _ k a h; cases h; exact ⟨rfl, by decide, by decide⟩
theorem readFaultRecord (args : List Byte) : Statement (.readFaultRecord args) := by
  intro _ k a h; cases h; exact ⟨rfl, by decide, by decide⟩
theorem clearFaultRecord (args : List Byte) : Statement (.clearFaultRecord args) := by
  intro _ k a h; cases h; exact ⟨rfl, by decide, by decide⟩
theorem encoderPulse : Statement .encoderPulse := by intro _ k a h; cases h
theorem tagRead (code : BitVec 16) : Statement (.tagRead code) := by intro _ k a h; cases h
theorem obstDeasserted : Statement .obstDeasserted := by intro _ k a h; cases h
theorem controlStep (obst : Bool) (loadc : LoadClass) : Statement (.controlStep obst loadc) := by intro _ k a h; cases h
theorem serviceStopComplete : Statement .serviceStopComplete := by intro _ k a h; cases h
theorem emergencyStopComplete : Statement .emergencyStopComplete := by intro _ k a h; cases h
theorem driveStall : Statement .driveStall := by intro _ k a h; cases h
theorem waitExpired : Statement .waitExpired := by intro _ k a h; cases h
theorem joinTimerExpiry : Statement .joinTimerExpiry := by intro _ k a h; cases h
theorem beaconTimerExpiry : Statement .beaconTimerExpiry := by intro _ k a h; cases h
theorem windowR1Expiry : Statement .windowR1Expiry := by intro _ k a h; cases h
theorem grant : Statement .grant := by intro _ k a h; cases h
theorem contestTimerExpiry : Statement .contestTimerExpiry := by intro _ k a h; cases h
theorem editionRetryExpiry : Statement .editionRetryExpiry := by intro _ k a h; cases h
theorem holdoffTimerExpiry : Statement .holdoffTimerExpiry := by intro _ k a h; cases h
theorem entryStale (set way : Nat) : Statement (.entryStale set way) := by intro _ k a h; cases h
theorem liftSensorChange (sup sdn : Bool) (loadc : LoadClass) : Statement (.liftSensorChange sup sdn loadc) := by intro _ k a h; cases h
theorem liftTimeout : Statement .liftTimeout := by intro _ k a h; cases h
theorem frameClosed (bits : List Bool) : Statement (.frameClosed bits) := by intro _ k a h; cases h
theorem beaconReceived : Statement .beaconReceived := by intro _ k a h; cases h
theorem claimReceived : Statement .claimReceived := by intro _ k a h; cases h
theorem enquireReceived : Statement .enquireReceived := by intro _ k a h; cases h
theorem objectReceived : Statement .objectReceived := by intro _ k a h; cases h
theorem releaseReceived : Statement .releaseReceived := by intro _ k a h; cases h
theorem withdrawReceived : Statement .withdrawReceived := by intro _ k a h; cases h
theorem relayReceived : Statement .relayReceived := by intro _ k a h; cases h
theorem transmissionStart : Statement .transmissionStart := by intro _ k a h; cases h
theorem transmissionComplete : Statement .transmissionComplete := by intro _ k a h; cases h
theorem collision (bit : Nat) : Statement (.collision bit) := by intro _ k a h; cases h
theorem backoffEnd : Statement .backoffEnd := by intro _ k a h; cases h
theorem unknownCommand (kind : Byte) (args : List Byte) : Statement (.unknownCommand kind args) := by
  intro hw k a h
  obtain ⟨rfl, rfl⟩ : kind.toNat = k ∧ args = a := by simpa [hostRow] using h
  have hk : kind.toNat ≠ 0 ∧ hostKinds.contains kind.toNat = false := by
    simp [Instr.wellFormed] at hw
    simp_all
  have hin : kind.toNat ∉ hostKinds := by simpa using hk.2
  refine ⟨?_, hk.1, kind.isLt⟩
  unfold commandRow
  split <;> first
    | (rename_i heq; exact absurd (heq ▸ (by decide) : kind.toNat ∈ hostKinds) hin)
    | simp

end Sys2Proof.Laws.RowOfKind
end

