-- ==== Sys2Proof/Laws/Tables.lean ====
section
/-! SUPPORT. Tables sorted by number keep their one form, and read as they were written; the counts stay in range. -/

namespace Sys2Proof.Machine

theorem Table.wf_iff {α : Type} (t : Table α) : Table.wf t = true ↔ t.Pairwise (fun e f => e.1 < f.1) := by
  simp [Table.wf]

/-- Every key of an insertion is the new one or an old one. -/
theorem Table.mem_insert {α : Type} (t : Table α) (k : Nat) (v : α) (e : Nat × α) (h : e ∈ Table.insert t k v) :
    e = (k, v) ∨ e ∈ t := by
  induction t with
  | nil => simp_all [Table.insert]
  | cons f t ih =>
      obtain ⟨j, w⟩ := f
      unfold Table.insert at h
      split at h
      · simp_all
      · split at h
        · simp_all; tauto
        · simp_all; tauto

theorem Table.wf_insert {α : Type} (t : Table α) (k : Nat) (v : α) (h : Table.wf t = true) :
    Table.wf (Table.insert t k v) = true := by
  rw [Table.wf_iff] at *
  induction t with
  | nil => simp [Table.insert]
  | cons f t ih =>
      obtain ⟨j, w⟩ := f
      rw [List.pairwise_cons] at h
      unfold Table.insert
      split
      · rename_i hk
        refine List.pairwise_cons.mpr ⟨?_, List.pairwise_cons.mpr h⟩
        intro e he
        rcases List.mem_cons.mp he with rfl | he
        · exact hk
        · exact lt_trans hk (h.1 e he)
      · split
        · rename_i hk
          have hjk : j = k := by simpa using hk
          subst hjk
          exact List.pairwise_cons.mpr ⟨h.1, h.2⟩
        · rename_i hlt hne
          have hjk : j < k := by simp at hne; omega
          refine List.pairwise_cons.mpr ⟨?_, ih h.2⟩
          intro e he
          rcases Table.mem_insert t k v e he with rfl | he
          · exact hjk
          · exact h.1 e he

theorem Table.wf_erase {α : Type} (t : Table α) (k : Nat) (h : Table.wf t = true) : Table.wf (Table.erase t k) = true := by
  rw [Table.wf_iff] at *
  exact h.filter _

theorem Table.find_insert_self {α : Type} (t : Table α) (k : Nat) (v : α) : Table.find (Table.insert t k v) k = some v := by
  induction t with
  | nil => simp [Table.insert, Table.find]
  | cons f t ih =>
      obtain ⟨j, w⟩ := f
      unfold Table.insert
      split
      · simp [Table.find]
      · split
        · simp [Table.find]
        · rename_i hne
          simp only [Table.find, hne]
          simpa using ih

theorem Table.find_insert_ne {α : Type} (t : Table α) (k m : Nat) (v : α) (h : m ≠ k) :
    Table.find (Table.insert t k v) m = Table.find t m := by
  induction t with
  | nil => simp [Table.insert, Table.find, Ne.symm h]
  | cons f t ih =>
      obtain ⟨j, w⟩ := f
      unfold Table.insert
      split
      · simp [Table.find, Ne.symm h]
      · split
        · rename_i hjk
          have : j = k := by simpa using hjk
          subst this
          simp [Table.find, Ne.symm h]
        · simp only [Table.find, ih]

theorem Table.find_erase_self {α : Type} (t : Table α) (k : Nat) : Table.find (Table.erase t k) k = none := by
  induction t with
  | nil => rfl
  | cons f t ih =>
      obtain ⟨j, w⟩ := f
      unfold Table.erase at *
      by_cases hjk : j = k
      · simpa [hjk] using ih
      · simpa [hjk, Table.find] using ih

/-- A set of numbers kept as a rising list stays one. -/
theorem mem_insertNum (l : List Nat) (k n : Nat) : n ∈ insertNum l k ↔ n = k ∨ n ∈ l := by
  induction l with
  | nil => simp [insertNum]
  | cons j l ih =>
      unfold insertNum
      split
      · simp
      · split
        · rename_i h
          have : j = k := by simpa using h
          subst this
          simp
        · simp [ih]; tauto

theorem insertNum_sorted (l : List Nat) (k : Nat) (h : l.Pairwise (· < ·)) : (insertNum l k).Pairwise (· < ·) := by
  induction l with
  | nil => simp [insertNum]
  | cons j l ih =>
      rw [List.pairwise_cons] at h
      unfold insertNum
      split
      · rename_i hk
        exact List.pairwise_cons.mpr ⟨by
          intro e he
          rcases List.mem_cons.mp he with rfl | he
          · exact hk
          · exact lt_trans hk (h.1 e he), List.pairwise_cons.mpr h⟩
      · split
        · exact List.pairwise_cons.mpr h
        · rename_i hlt hne
          have hjk : j < k := by simp at hne; omega
          exact List.pairwise_cons.mpr ⟨by
            intro e he
            rcases (mem_insertNum l k e).mp he with rfl | he
            · exact hjk
            · exact h.1 e he, ih h.2⟩

/-! ## Counts -/

theorem satAdd_le (top n k : Nat) : satAdd top n k ≤ top := Nat.min_le_left _ _

theorem inc16_le (n : Nat) : inc16 n ≤ 65535 := satAdd_le _ _ _

theorem clamp_mem (lo hi v : Nat) (h : lo ≤ hi) : lo ≤ clamp lo hi v ∧ clamp lo hi v ≤ hi := by
  unfold clamp; omega

/-- A raised notice is dropped, queued at the tail, or counted as lost; the enables never change. -/
theorem NoticeUnit.raise_cases (u : NoticeUnit) (n : Notice) :
    u.raise n = u ∨ (u.queue.length < 32 ∧ u.raise n = { u with queue := u.queue ++ [n] })
      ∨ (32 ≤ u.queue.length ∧ u.raise n = { u with lost := satAdd 255 u.lost 1 }) := by
  unfold NoticeUnit.raise
  split
  · exact .inl rfl
  · split
    · exact .inr (.inl ⟨by assumption, rfl⟩)
    · exact .inr (.inr ⟨by omega, rfl⟩)

end Sys2Proof.Machine
end

