-- ==== Sys2Proof/Tests/Slice0.lean ====
section
/-! SUPPORT. Small tests: ill-formed operands, values the manual prints, single steps, and for every statement with
hypotheses a state and operands that meet them all. -/

namespace Sys2Proof.Tests

open Sys2Proof.Machine Sys2Proof.Safety

set_option Elab.async false

/-! ## Well-formedness -/

theorem test_commandTransaction_begins_with_kind_above_zero :
    Instr.wellFormed (.commandTransaction (List.replicate 8 false) false) = false := by decide

theorem test_readTransaction_begins_with_zero :
    Instr.wellFormed (.readTransaction (List.replicate 8 true) false) = false := by decide

theorem test_readTransaction_needs_a_whole_byte :
    Instr.wellFormed (.readTransaction (List.replicate 7 false) false) = false := by decide

theorem test_arguments_fit_the_length_byte :
    Instr.wellFormed (.sendRelay (List.replicate 256 0)) = false
      ∧ Instr.wellFormed (.sendRelay (List.replicate 255 0)) = true := by decide +kernel

theorem test_unknownCommand_is_not_kind_zero : Instr.wellFormed (.unknownCommand 0 []) = false := by decide

theorem test_unknownCommand_is_not_listed : Instr.wellFormed (.unknownCommand 16 []) = false := by decide

theorem test_unknownCommand_length :
    Instr.wellFormed (.unknownCommand 7 (List.replicate 256 0)) = false := by decide +kernel

theorem test_entryStale_set_below_sixteen : Instr.wellFormed (.entryStale 16 0) = false := by decide

theorem test_entryStale_way_below_four : Instr.wellFormed (.entryStale 0 4) = false := by decide

theorem test_frameClosed_needs_a_bit : Instr.wellFormed (.frameClosed []) = false := by decide

/-! ## The state after an outcome -/

/-- The next state of an outcome; the state before it where there is none. -/
def after (o : Host.Outcome State Fault Refusal) (s : State) : State :=
  match o with
  | .next t => t
  | _ => s

def run (c : Instr) (s : State) : State := after (exec c s) s

def bytesOf (l : List Nat) : List Byte := l.map (BitVec.ofNat 8)

/-- The bits of a transaction, most significant first. -/
def hdiOf (l : List Nat) : List Bool := (bytesOf l).flatMap (fun b => (byteBits b).reverse)

/-! ## Values the manual prints -/

/-- The track of the worked run across three segments (chapter 1). -/
def map3 : Table Segment :=
  [(12, ⟨6000, .lane, 1000, [], [⟨13, .a⟩]⟩), (13, ⟨3000, .lane, 1000, [⟨12, .b⟩], [⟨14, .b⟩]⟩),
    (14, ⟨3000, .bay, 1000, [], [⟨13, .b⟩]⟩)]

theorem test_map3_is_consistent : mapFault map3 = none ∧ Table.wf map3 = true := by decide +kernel

/-- R5: the plates of segments 12 and 13. -/
theorem test_plate_offsets :
    (List.range 4).map (plateOffset 6000) = [0, 1500, 3000, 4500]
      ∧ (List.range 4).map (plateOffset 3000) = [0, 750, 1500, 2250] := by decide

/-- R7: a read of 4133 in the window 4000..4399 of base 101. -/
theorem test_tag_4133_is_plate_1_of_134 : decodeTag [⟨4000, 4399, 101⟩] 4133 = some ⟨134, 1⟩ := by decide

/-- Two segments in a loop, 12 behind the centre and ahead of it: a plate of 12 stands at two places, the nearer of which the
miss check takes, while a tag read takes the one ahead (log 37). -/
theorem test_loop_of_two_segments :
    let map : Table Segment :=
      [(12, ⟨3000, .lane, 1000, [⟨15, .b⟩], [⟨15, .a⟩]⟩), (15, ⟨3000, .lane, 1000, [⟨12, .b⟩], [⟨12, .a⟩]⟩)]
    let near (offset : Nat) := layOut map [12, 15, 12] ⟨15, offset, .forward⟩
    mapFault map = none
      ∧ (near 2900000).map (fun p => (p.seg, p.lo)) = [(12, -5900000), (15, -2900000), (12, 100000)]
      ∧ plateAt map (near 2900000) ⟨12, 0⟩ = some 100000 ∧ plateAt map (near 100000) ⟨12, 3⟩ = some (-850000)
      ∧ ((nearby map [12, 15, 12] ⟨15, 100000, .forward⟩).find? (fun p => p.seg == 12)).map Placed.lo = some 2900000 := by
  decide +kernel

/-- R36: the CRC register by hand, one bit at a time, for a first bit equal to and unlike position 15. -/
theorem test_crc_bits : crcBit 0xFFFF true = 0xFFFE ∧ crcBit 0xFFFF false = 0xEFDF := by decide

/-- R35: a 0 follows five 1s, at the end of the content too. -/
theorem test_stuffing_255 :
    stuff 0 (bitsOf [255]) = [true, true, true, true, true, false, true, true, true]
      ∧ stuff 0 (List.replicate 5 true) = List.replicate 5 true ++ [false] := by decide +kernel

/-- R50: station 21's first backoff is 13 slots. -/
theorem test_backoff_of_station_21 : backoffSlots 21 1 = 13 := by decide

/-- Chapter 8's worked figures: r, b, d_stop, the two authority ceilings and the two slower-segment speeds. -/
theorem test_worked_figures :
    reactionDist .default 800 = 200 ∧ brakingDist 200 800 = 1600 ∧ stoppingDist .default 200 800 + 500 = 2300
      ∧ stoppingDist .default 200 1000 + 500 = 3250 ∧ authoritySpeed 200 200 (some 1500) = 721
      ∧ authoritySpeed 200 200 (some 3000) = 1058 ∧ slowerSpeed 200 200 300 2000 = 900
      ∧ slowerSpeed 200 200 300 1000 = 640 := by decide +kernel

/-- R140: at D = 1500 the commanded speed falls from 800 to 798. -/
theorem test_down_step_of_two : stepSpeed 250 (serviceRate .heavy) 800 721 = 798 := by decide

/-- R41: value 160 with mask 15 takes 160 and 175, not 176. -/
theorem test_selector_160_15 :
    (Selector.mk 160 15).matches 160 = true ∧ (Selector.mk 160 15).matches 175 = true
      ∧ (Selector.mk 160 15).matches 176 = false := by decide

/-- R56: station 9's CLAIM of 44, 45 and 46 is a 16-byte content, 145 bit times with its flags and its inserted 0
(the worked collision of chapter 3). -/
def claim9 : Frame := ⟨255, 9, 1, .claim 1 1 0 0 [44, 45, 46]⟩

theorem test_claim9_bytes :
    claim9.bytes = bytesOf [255, 9, 2, 1, 0, 1, 1, 0, 0, 0, 3, 44, 45, 46] ∧ claim9.content.length = 16
      ∧ claim9.line.length = 145 := by
  decide +kernel

/-- R35 to R38: the frame sent is the frame read. -/
theorem test_claim9_is_read_back :
    (Receiver.fresh.takeAll claim9.line).2.map
      (fun c => match c with | .flag content => judge content | _ => .nothing) = [.good claim9] := by decide +kernel

/-- R37: one bit of the content changed makes the check fail. -/
theorem test_damaged_frame_is_crcBad :
    (Receiver.fresh.takeAll (claim9.line.set 19 true)).2.map
      (fun c => match c with | .flag content => judge content | _ => .nothing) = [.crcBad] := by decide +kernel

/-! ## States for the steps below -/

def order7 : Order :=
  { tag := 7, path := [12, 13, 14], endAction := .none, endOffset := 750, urgency := 1, loadClass := .heavy,
    cap := 1000, front := false, state := .active, reason := none, activations := 1 }

/-- Station 9 on the worked track, in RUNNING, its centre and held list given. -/
def carrier (c : Centre) (held : List HeldEntry) : State :=
  { State.reset with
    control := { State.reset.control with state := .running, number := 9 }
    pos := { State.reset.pos with map := map3, centre := some c }
    line := { State.reset.line with receiver := .fresh, transmitter := .idle, beaconTimer := some 500 }
    claim := { State.reset.claim with held := held } }

/-- The start of the worked run, with no order. -/
def idleCarrier : State := carrier ⟨12, 3200000, .forward⟩ [⟨12, .occupied⟩, ⟨13, .reserved⟩, ⟨14, .reserved⟩]

/-- The start of the worked run. -/
def moving : State := idleCarrier.setOrders { idleCarrier.orders with list := [order7] }

def halted : State :=
  (idleCarrier.setControl { idleCarrier.control with state := .halted, causes := [.stop] }).setMotion
    { idleCarrier.motion with latch := .complete, latchReported := true }

/-- A state whose record is in a state of the claim. -/
def inRecord (r : ClaimRecord) : State := moving.setRecord r

def window1 : State :=
  inRecord { ClaimRecord.initial with
    state := .windowR1, number := 4, segs := [44, 45], urgency := 1, waited := 10, windowTimer := some 0 }

def window2 : State :=
  inRecord { ClaimRecord.initial with
    state := .windowR2, number := 4, segs := [44, 45], urgency := 1, waited := 10, round := 2, windowTimer := some 0 }

def blocked : State :=
  inRecord { ClaimRecord.initial with state := .blocked, waitSeg := some 15, holder := some 5 }

def contested : State :=
  inRecord { ClaimRecord.initial with
    state := .contested, waitSeg := some 15, rival := some ⟨5, some 3⟩, contestTimer := some 0 }

def holdoff (p : HoldoffPhase) : State :=
  inRecord { ClaimRecord.initial with state := .holdoff, waitSeg := some 15, holdoff := some ⟨p, 5, 13, none⟩ }

/-- A frame at the head of the receive buffer. -/
def withFrame (s : State) (source : Nat) (b : Body) : State :=
  s.setLine { s.line with rx := [⟨⟨255, source, 1, b⟩, 40⟩] }

/-- One HELD entry of segment 15 in its set's first way. -/
def entry15 : CacheEntry := ⟨15, 5, some .occupied, .held, 100, [], some .beacon⟩

def cached (s : State) : State := s.setWays [(60, entry15)]

/-- One entry in the transmit queue. -/
def queued (s : State) (e : TxEntry) : State := s.setLine { s.line with tx := [e] }

/-- An entry in flight. -/
def flying (s : State) (e : TxEntry) : State :=
  s.setLine { s.line with tx := [e], transmitter := .sending (s.frameOf e) (s.frameOf e).line }

def claimEntry (removed : Bool) (attempts : Nat) : TxEntry :=
  ⟨255, .fixed (.claim 4 1 1 10 [44, 45]), attempts, true, removed⟩

/-! ## Single steps of the worked run (chapter 1) -/

/-- Step 1: an entry event marks 13 OCCUPIED as the front comes to 150 from it. -/
theorem test_entry_event_marks_occupied :
    (run (.controlStep false .heavy)
      (moving.setPos { moving.pos with centre := some ⟨12, 3740000, .forward⟩, pulses := 8 })).claim.held
      = [⟨12, .occupied⟩, ⟨13, .occupied⟩, ⟨14, .reserved⟩] := by decide +kernel

/-- Step 2: a silent snap to plate 12/3 from a reckoned 4620. -/
theorem test_snap_to_12_3 :
    (moving.setPos { moving.pos with centre := some ⟨12, 4620000, .forward⟩ }).mappedRead 0 ⟨12, 3⟩
      = (moving.setPos
          { moving.pos with centre := some ⟨12, 4500000, .forward⟩, expected := some ⟨13, 0⟩ }).setClaim
          { moving.claim with held := [⟨12, .occupied⟩, ⟨13, .occupied⟩, ⟨14, .reserved⟩] } := by decide +kernel

/-- Step 4: the expected marker 13/0 is missed at 310, more than 2T past it. -/
theorem test_tag_missed_past_2T :
    let t := run (.controlStep false .heavy)
      (moving.setPos
        { moving.pos with centre := some ⟨13, 300000, .forward⟩, expected := some ⟨13, 0⟩, pulses := 8 })
    t.pos.misses = 1 ∧ t.pos.expected = some ⟨13, 1⟩
      ∧ (⟨.tagMissed, 0, none, some 13, none, some 0, none⟩ : Notice) ∈ t.notice.queue := by decide +kernel

/-- Step 7: the rear 160 past 12 raises its exit event, and a RELEASE of 12 is queued. -/
theorem test_exit_event_releases :
    let t := run (.controlStep false .heavy)
      (moving.setPos { moving.pos with centre := some ⟨13, 2250000, .forward⟩, pulses := 8 })
    heldSegs t.claim.held = [13, 14] ∧ t.line.tx = [⟨255, .fixed (.release [12]), 0, false, false⟩] := by
  decide +kernel

/-- Step 8: past the B end of 13 the centre counts down from 3000 in 14, in REVERSE. -/
theorem test_crossing_reverses_the_offset :
    (moveCentre (placedAhead map3 [13, 14] ⟨13, 2995000, .forward⟩) ⟨13, 2995000, .forward⟩ 10000).1
      = ⟨14, 2995000, .reverse⟩ := by decide +kernel

/-! ## Single steps of other worked cases -/

/-- R67: with D = 1900 and H_cap = 3250 the claim stops with 45; with D = −200 it takes 46 too. -/
theorem test_claim_sizing :
    let s := (carrier ⟨12, 3200000, .forward⟩ [⟨1, .occupied⟩, ⟨2, .occupied⟩, ⟨3, .reserved⟩, ⟨4, .reserved⟩]).setPos
      { moving.pos with
        map := [(45, ⟨2000, .lane, 1000, [], []⟩), (46, ⟨1500, .lane, 1000, [], []⟩),
          (47, ⟨3000, .lane, 1000, [], []⟩)] }
    s.sizeClaim 1900 3250 45 [46, 47] = [45] ∧ s.sizeClaim (-200) 3250 45 [46, 47] = [45, 46] := by decide +kernel

/-- Chapter 7's worked set: order 420's pins in set 5. -/
theorem test_worked_pins :
    let s := idleCarrier.setWays
      [(21, ⟨85, 17, some .occupied, .held, 1800, [], some .beacon⟩),
        (23, ⟨101, 30, some .reserved, .held, 400, [], some .beacon⟩)]
    let c := s.cache.pinPath 420 [21, 37, 53, 69]
    c.ways.map (fun w => (w.1, w.2.seg, w.2.pins)) = [(20, 21, [420]), (21, 53, [420]), (22, 37, [420]), (23, 101, [])]
      ∧ c.refused = 1 ∧ c.full = 0 := by decide +kernel

/-- R154: a last segment of 6000 mm entered by its B end has bounds 2250..6000. -/
theorem test_end_bounds :
    let s := idleCarrier.setPos
      { moving.pos with
        map := [(1, ⟨3000, .lane, 1000, [], [⟨2, .b⟩]⟩), (2, ⟨6000, .lane, 1000, [], [⟨1, .b⟩]⟩)] }
    s.endBounds [1, 2] = (2250, 6000) := by decide +kernel

/-- R106: the lower urgency yields; at equal urgency the higher station number. -/
theorem test_who_yields :
    yields 0 9 5 1 = true ∧ yields 1 9 5 1 = true ∧ yields 1 5 9 1 = false ∧ yields 2 9 5 1 = false := by decide

/-! ## What meets the hypotheses of the statements: the step and the invariants -/

theorem test_witness_StepRunsTheFrontCommand :
    (State.reset.setPending [.encoderPulse]).pending = Instr.encoderPulse :: [] := rfl

/-- In SETUP and outside; a HELD entry at the limit and past it, a STALE one, a placeholder. -/
theorem test_witness_OnlyTheIdleStepFillsTheQueue :
    let s := moving.setWays
      [(60, { entry15 with age := 2499 }), (61, { entry15 with seg := 31, age := 2500 }),
        (62, { entry15 with seg := 47, status := .stale }), (63, ⟨63, 0, none, .none, 0, [7], none⟩)]
    State.reset.pending = [] ∧ State.reset.control.state = .setup ∧ s.pending = [] ∧ s.control.state ≠ .setup
      ∧ (s.cache.ways.map (fun w => w.2.status)) = [.held, .held, .stale, .none]
      ∧ min 65535 (2499 + 1) ≤ s.params.staleness ∧ s.params.staleness < min 65535 (2500 + 1) := by decide +kernel

theorem test_pulse_in_setup : exec .encoderPulse State.reset = .next State.reset := rfl

/-- The tick takes one ms off the timers and ages the cache (R123). -/
theorem test_tick_times_and_ages :
    let s := contested.setWays [(60, { entry15 with age := 2500 })]
    s.tick.cache.ways = [(60, { entry15 with age := 2501, status := .stale })] ∧ s.tick.line.beaconTimer = some 499
      ∧ s.tick.notice.now = 1 := by decide +kernel

/-- A step after each invariant's state: the waiting command of a running station. -/
def stepping : State := moving.setPending [.controlStep false .heavy]

theorem test_stepping_steps : ∃ t, step stepping = .next t := ⟨_, rfl⟩

theorem test_witness_QueuesAndCountersStayBounded : QueuesBounded stepping ∧ CountersFit stepping
    ∧ ParamsInRange stepping.params := by
  refine ⟨?_, ?_, ?_⟩ <;> decide +kernel

theorem test_witness_ParametersPositionAndTablesStaySound :
    ParamsInRange stepping.params ∧ PositionSound stepping.pos ∧ TablesSorted stepping := by
  refine ⟨?_, ?_, ?_⟩ <;> decide +kernel

theorem test_witness_StationStaysSound : StationInvariant stepping := by
  refine ⟨?_, ?_, ?_, ?_⟩ <;> decide +kernel

theorem test_witness_HeldListStaysSound : HeldListSound stepping := by decide +kernel

/-- Track another station holds in the cache, none of it the own; the run around the held list. -/
theorem test_witness_HeldTrackIsUncachedAndOccupiedFirst :
    (HeldListSound (cached stepping) ∧ CacheSound (cached stepping).cache ∧ OwnTrackUncached (cached stepping)
      ∧ OccupiedFirst moving.claim.held
      ∧ moving.layout.map Placed.seg = [] ++ (heldSegs moving.claim.held ++ []) ∧ (moving.layout.map Placed.seg).Nodup)
      ∧ (∀ obst loadc, Instr.encoderPulse ≠ .controlStep obst loadc) ∧ (∀ code, Instr.encoderPulse ≠ .tagRead code)
      ∧ (∃ t, step (cached stepping) = .next t) ∧ ∃ t, exec .encoderPulse moving = .next t :=
  ⟨by decide +kernel, fun _ _ h => Instr.noConfusion h, fun _ h => Instr.noConfusion h, ⟨_, rfl⟩, _, rfl⟩

/-- At the cap of the ACTIVE order, which is the maximum speed. -/
theorem test_witness_SpeedStaysWithinItsCaps :
    let s := stepping.setCommanded 1000
    (StationInvariant s ∧ SpeedCapped s) ∧ ∃ t, step s = .next t :=
  ⟨⟨⟨by decide +kernel, by decide +kernel, by decide +kernel, by decide +kernel⟩, by decide +kernel⟩, _, rfl⟩

theorem test_witness_CacheStaysSound :
    CacheSound (cached stepping).cache ∧ ∃ t, step (cached stepping) = .next t := ⟨by decide +kernel, _, rfl⟩

theorem test_witness_ConfigurationHoldsOutsideSetup :
    Instr.encoderPulse ≠ .powerOnReset ∧ moving.control.state ≠ .setup
      ∧ ∃ t, exec .encoderPulse moving = .next t := ⟨by decide, by decide, _, rfl⟩

/-- A station with a captured fault. -/
def faulty : State := moving.offerFault ⟨.obstacle, 0, none, none, none⟩

theorem test_witness_CapturedFaultStands :
    (∃ r, faulty.notice.fault = some r ∧ r.further ≤ 255) ∧ Instr.encoderPulse ≠ .powerOnReset
      ∧ (∀ args, Instr.encoderPulse ≠ .clearFaultRecord args)
      ∧ exec .encoderPulse faulty = .next (run .encoderPulse faulty) :=
  ⟨⟨_, rfl, by decide⟩, by decide, fun _ h => Instr.noConfusion h, rfl⟩

/-! ## The host port -/

def pendingStop : State := moving.takeCommand 18 []
def full18 : State := moving.placeReply ⟨18, .done, []⟩

theorem test_reset_slot_is_not_pending : ∀ c, State.reset.port.slot ≠ .pending c := fun _ h => Slot.noConfusion h

/-- A waiting slot; an idle one with a whole command, with too few argument bytes and with no length byte. -/
theorem test_witness_TransactionsAreJudged_command :
    wholeBytes (hdiOf [18, 0]) = 18 :: [0] ∧ wholeBytes (hdiOf [18, 3, 1]) = 18 :: [3, 1]
      ∧ wholeBytes (hdiOf [18]) = [18] ∧ (18 : Byte) ≠ 0 ∧ (0 : Byte).toNat ≤ ([] : List Byte).length
      ∧ ([1] : List Byte).length < (3 : Byte).toNat
      ∧ pendingStop.port.slot = .pending ⟨18, [], 0, false⟩ := by decide +kernel

/-- The four slots, and a reply of exactly the bytes clocked out. -/
theorem test_witness_TransactionsAreJudged_read :
    wholeBytes (hdiOf [0, 0, 0, 0, 0]) = 0 :: [0, 0, 0, 0] ∧ full18.port.slot = .full ⟨18, .done, []⟩
      ∧ Reply.envelope ⟨18, .done, []⟩ = [18, 0, 0, 0] ∧ State.reset.port.slot = .empty
      ∧ pendingStop.port.slot = .pending ⟨18, [], 0, false⟩ := by decide +kernel

theorem test_witness_CommandsAreAnsweredInTurn_waiting :
    pendingStop.port.slot = .pending ⟨18, [], 0, false⟩ ∧ 18 ≠ 0 ∧ 18 < 256
      ∧ exec (commandRow 18 []) pendingStop = exec (.stop []) pendingStop := ⟨rfl, by decide, by decide, rfl⟩

theorem test_witness_CommandsAreAnsweredInTurn_order :
    pendingStop.executing 18 [] = some pendingStop ∧ State.reset.executing 18 [] = some (State.reset.takeCommand 18 [])
      ∧ pendingStop.port.slot = .pending ⟨18, [], 0, false⟩ ∧ ¬(19 = 18 ∧ ([] : List Byte) = []) := by
  decide +kernel

/-- The state in which a row's command is executed when nothing waits. -/
def ready (s : State) (kind : Nat) (args : List Nat) : Option State := s.executing kind (bytesOf args)

def taken (s : State) (kind : Nat) (args : List Nat) : State := s.takeCommand kind (bytesOf args)

/-- The counted lists; LOAD_SEGMENT outside SETUP, SEND_RELAY in it. -/
theorem test_witness_ChecksRefuseWithNoChange_counted :
    argumentLength 3 (bytesOf [240, 0x88, 0x13, 3, 200, 0, 1, 1, 1, 0]) = some 10 ∧ argumentLength 3 [] = some 8
      ∧ argumentLength 16 (bytesOf [8, 0, 0, 1, 2, 0xE8, 3, 0, 0xE8, 3, 3]) = some 14
      ∧ argumentLength 21 (bytesOf [255, 33]) = some 35 ∧ argumentLength 40 (bytesOf [2, 1]) = some 3
      ∧ argumentLength 41 [] = some 1 ∧ takenIn 3 moving.control.state = false
      ∧ ready moving 3 [1, 0, 2, 0, 200, 0, 0, 0] = some (taken moving 3 [1, 0, 2, 0, 200, 0, 0, 0])
      ∧ argumentLength 3 (bytesOf [1, 0, 2, 0, 200, 0, 0, 0]) = some 8
      ∧ takenIn 21 State.reset.control.state = false
      ∧ ready State.reset 21 [255, 1, 9] = some (taken State.reset 21 [255, 1, 9])
      ∧ argumentLength 21 (bytesOf [255, 1, 9]) = some 3
      ∧ ready State.reset 40 [2, 1] = some (taken State.reset 40 [2, 1]) := by decide +kernel

/-- An unknown kind at both ends of the range, a wrong length, a wrong state. -/
theorem test_witness_ChecksRefuseWithNoChange :
    hostKinds.contains 7 = false ∧ hostKinds.contains 255 = false
      ∧ ready State.reset 255 [] = some (taken State.reset 255 [])
      ∧ argumentLength 1 [] = some 5 ∧ ready State.reset 1 [] = some (taken State.reset 1 [])
      ∧ argumentLength 19 [] = some 0 ∧ takenIn 19 State.reset.control.state = false
      ∧ ready State.reset 19 [] = some (taken State.reset 19 []) := by decide +kernel

/-! ## Configuration commands -/

/-- Station numbers 1, 60, 0 and 61; windows 7 and 8; editions 0 and 65535. -/
theorem test_witness_StationWindowsAndEditionAreSet :
    ready State.reset 1 [1, 160, 15, 0, 0] = some (taken State.reset 1 [1, 160, 15, 0, 0])
      ∧ ready State.reset 1 [60, 0, 0, 0, 0] = some (taken State.reset 1 [60, 0, 0, 0, 0])
      ∧ ready State.reset 1 [61, 0, 0, 0, 0] = some (taken State.reset 1 [61, 0, 0, 0, 0])
      ∧ ready State.reset 4 [7, 0, 0, 255, 255, 240] = some (taken State.reset 4 [7, 0, 0, 255, 255, 240])
      ∧ ready State.reset 4 [8, 0, 0, 0, 0, 1] = some (taken State.reset 4 [8, 0, 0, 0, 0, 1])
      ∧ ready State.reset 5 [255, 255] = some (taken State.reset 5 [255, 255])
      ∧ (taken State.reset 5 [0, 0]).control.state = .setup := by decide +kernel

/-- Parameter 0 and 14; a value at each end of its range; the coupled pair on both sides of its bound. -/
theorem test_witness_SetParameterClampsAndStores :
    ready State.reset 2 [14, 0, 0] = some (taken State.reset 2 [14, 0, 0])
      ∧ (taken State.reset 2 [14, 0, 0]).control.state = .setup
      ∧ paramRange 1 = some (2000, 6000) ∧ 2000 = (0xD0 : Byte).toNat + 256 * (0x07 : Byte).toNat
      ∧ paramRange 11 = some (1000, 10000) ∧ paramRange 9 = some (250, 2000)
      ∧ 2 * min 2000 (max 250 1250) ≤ Params.default.staleness
      ∧ Params.default.staleness < 2 * min 2000 (max 250 1251) := by decide +kernel

/-- The results of the three forms: a clamped value, the staleness limit raised, the beacon period raising it. -/
theorem test_parameter_results :
    (run (.setParameter (bytesOf [1, 0, 0])) State.reset).port.slot = .full ⟨2, .clamped, bytesOf [1, 0xD0, 0x07]⟩
      ∧ (run (.setParameter (bytesOf [11, 0, 0])) State.reset).params.staleness = 1000
      ∧ (run (.setParameter (bytesOf [9, 0xD0, 0x07])) State.reset).params.staleness = 4000 := by decide +kernel

theorem test_witness_LoadSegmentWritesTheRecord :
    let args := [240, 0x88, 0x13, 3, 200, 0, 1, 1, 1, 0]
    ready State.reset 3 args = some (taken State.reset 3 args)
      ∧ readSegment (bytesOf args) = some ⟨240, 5000, 3, 200, [(1, 1)], []⟩
      ∧ (∀ l ∈ [(1, 1)], 1 ≤ l.1 ∧ l.1 ≤ 240 ∧ l.2 < 2 ∧ l.1 ≠ 240) := by decide +kernel

/-- Arguments that fail each check first: segment 0, kind 4, three links, a neighbour 241 and an end 2, a link to the
segment itself, a neighbour twice. -/
def badSegment : Nat → List Nat × SegmentArgs
  | 1 => ([0, 0, 2, 4, 200, 0, 0, 0], ⟨0, 512, 4, 200, [], []⟩)
  | 2 => ([1, 0, 2, 4, 200, 0, 0, 1, 241, 0], ⟨1, 512, 4, 200, [], [(241, 0)]⟩)
  | 3 => ([1, 0, 2, 3, 200, 0, 3, 2, 2, 1, 0, 3, 0, 0], ⟨1, 512, 3, 200, [(2, 2), (1, 0), (3, 0)], []⟩)
  | 4 => ([1, 0, 2, 3, 200, 0, 1, 1, 2, 0], ⟨1, 512, 3, 200, [(1, 2)], []⟩)
  | 5 => ([1, 0, 2, 3, 200, 0, 2, 1, 0, 1, 1, 0], ⟨1, 512, 3, 200, [(1, 0), (1, 1)], []⟩)
  | _ => ([1, 0, 2, 3, 200, 0, 0, 2, 2, 0, 2, 1], ⟨1, 512, 3, 200, [], [(2, 0), (2, 1)]⟩)

theorem test_witness_LoadSegmentWritesTheRecord_refused :
    (∀ n ∈ [1, 2, 3, 4, 5, 6], readSegment (bytesOf (badSegment n).1) = some (badSegment n).2
      ∧ ready State.reset 3 (badSegment n).1 = some (taken State.reset 3 (badSegment n).1)
      ∧ (taken State.reset 3 (badSegment n).1).control.state = .setup)
      ∧ ∀ n ∈ [1, 2, 3, 4, 5, 6], ¬SegmentCheck (badSegment n).2 n
        ∧ ∀ m, 1 ≤ m → m < n → SegmentCheck (badSegment n).2 m := by
  refine ⟨by decide +kernel, ?_⟩
  intro n hn
  simp only [List.mem_cons, List.not_mem_nil, or_false] at hn
  rcases hn with h | h | h | h | h | h <;> subst h <;>
    refine ⟨by simp [SegmentCheck, badSegment], fun m h1 h2 => ?_⟩ <;> interval_cases m <;>
    simp [SegmentCheck, badSegment]

/-- A configured station: the worked map, station 9. -/
def configured : State :=
  (State.reset.setPos { State.reset.pos with map := map3 }).setControl { State.reset.control with number := 9 }

theorem test_witness_StartIsCheckedAndEntersJoining :
    let args := [12, 0x80, 0x0C, 0]
    ready configured 6 args = some (taken configured 6 args) ∧ (taken configured 6 args).control.number = 9
      ∧ (taken configured 6 args).control.state = .setup ∧ mapFault map3 = none
      ∧ Table.find map3 12 = some ⟨6000, .lane, 1000, [], [⟨13, .a⟩]⟩ ∧ Direction.forward.code = (0 : Byte).toNat
      ∧ (0x80 : Byte).toNat + 256 * (0x0C : Byte).toNat = 3200
      ∧ occupiedRun map3 12 3200 .forward ((Params.default.carrierLength + 1) / 2) = .entered [12]
      ∧ RoomFor configured.notice .stateChanged 1 := by decide +kernel

/-- Station numbers 0 and 61; a map at fault; a segment not loaded, a direction 2, an offset one past the length; a run
that comes to an end. -/
theorem test_witness_StartIsCheckedAndEntersJoining_refused :
    let named (n : Nat) : State := configured.setControl { configured.control with number := n }
    let torn := configured.setPos { configured.pos with map := map3.take 2 }
    (∀ n ∈ [0, 61], ready (named n) 6 [12, 0, 0, 0] = some (taken (named n) 6 [12, 0, 0, 0]))
      ∧ (named 61).control.state = .setup ∧ mapFault torn.pos.map = some (13, some .b, .neighbourMissing)
      ∧ ready torn 6 [12, 0, 0, 0] = some (taken torn 6 [12, 0, 0, 0])
      ∧ (∀ a ∈ [[11, 0, 0, 0], [12, 0, 0, 2], [12, 0x71, 0x17, 0], [12, 0, 0, 0]],
          ready configured 6 a = some (taken configured 6 a))
      ∧ Table.find map3 11 = none ∧ 1 < (2 : Byte).toNat
      ∧ (6000 : Nat) < (0x71 : Byte).toNat + 256 * (0x17 : Byte).toNat
      ∧ occupiedRun map3 12 0 .forward ((Params.default.carrierLength + 1) / 2) = .failed 12 := by decide +kernel

/-- A consistent map; each of the three faults; a run in one segment and one across three. -/
theorem test_witness_MapCheckAndOccupiedRunAreExact :
    let bad : Table Segment := [(1, ⟨3000, .bay, 500, [⟨2, .a⟩], [⟨2, .a⟩]⟩)]
    mapFault map3 = none ∧ mapFault bad = some (1, none, .deadEndThrough)
      ∧ mapFault (map3.take 2) = some (13, some .b, .neighbourMissing)
      ∧ mapFault [(1, ⟨3000, .lane, 500, [⟨2, .a⟩], []⟩), (2, ⟨3000, .lane, 500, [], []⟩)]
          = some (1, some .a, .notMirrored)
      ∧ 3200 ≤ lengthOf map3 12 ∧ occupiedRun map3 12 3200 .forward 2100 = .entered [12]
      ∧ 1500 ≤ lengthOf map3 13 ∧ occupiedRun map3 13 1500 .reverse 2100 = .entered [14, 13, 12] := by decide +kernel

/-! ## Orders -/

/-- SUBMIT_ORDER's arguments: tag 8, the front flag, path 12 to 14. -/
def submitArgs (front : Nat) : List Nat := [8, 0, front, 1, 2, 0xE8, 3, 0, 0xE8, 3, 3, 12, 13, 14]

def order8 (front : Bool) : OrderArgs := ⟨8, front, 1, 2, 1000, 0, 1000, [12, 13, 14]⟩

theorem test_witness_AcceptedOrdersTakeTheirPlace_tail :
    let u := taken moving 16 (submitArgs 0)
    ready moving 16 (submitArgs 0) = some u ∧ u.control.state = .running
      ∧ readOrder (bytesOf (submitArgs 0)) = some (order8 false) ∧ u.orders.list.length < 8
      ∧ u.argumentFault (order8 false) = none ∧ (∀ o ∈ u.orders.list, o.tag ≠ 8)
      ∧ pathFault u.pos.map [] 0 [12, 13, 14] = none ∧ (u.endBounds [12, 13, 14]).1 ≤ (u.endBounds [12, 13, 14]).2 := by
  decide +kernel

/-- A path without and with each fault; a last segment entered by its A end and by its B end, and one that the way its
predecessor is crossed decides. -/
theorem test_witness_PathsAndEndPointsAreJudged :
    let twice : Table Segment :=
      [(1, ⟨3000, .lane, 500, [], [⟨2, .a⟩]⟩), (2, ⟨3000, .lane, 500, [⟨1, .b⟩, ⟨3, .a⟩], [⟨3, .b⟩]⟩),
        (3, ⟨3000, .lane, 500, [⟨2, .a⟩], [⟨2, .b⟩]⟩)]
    let s := moving.setPos { moving.pos with map := twice }
    pathFault map3 [] 0 [12, 13, 14] = none ∧ pathFault map3 [] 0 [12, 14] = some (false, 1)
      ∧ pathFault map3 [] 0 [12, 13, 12] = some (true, 1)
      ∧ linkTo moving.pos.map 12 .b 13 = some ⟨13, .a⟩ ∧ ¬HasLink moving.pos.map 12 .a 13
      ∧ linkTo moving.pos.map 13 .b 14 = some ⟨14, .b⟩ ∧ ¬HasLink moving.pos.map 13 .a 14
      ∧ linkTo s.pos.map 2 .b 3 = some ⟨3, .b⟩ ∧ [1].getLast? = some 1 ∧ HasLink s.pos.map 2 .a 1
      ∧ ¬HasLink s.pos.map 2 .b 1 ∧ s.endBounds ([] ++ [12, 13]) = s.endBounds [12, 13] := by decide +kernel

/-- A full queue of eight; every failing argument; a tag in use; a break, a turn and an end out of reach. -/
theorem test_witness_SubmitOrderRefusals :
    let u := moving
    let busy := moving.setList (List.replicate 8 order7)
    8 ≤ busy.orders.list.length ∧ u.argumentFault { order8 false with path := [] } = some 0
      ∧ u.argumentFault { order8 false with endAction := 3 } = some 4
      ∧ (∃ o ∈ u.orders.list, o.tag = 7) ∧ pathFault map3 [] 0 [12, 14] = some (false, 1)
      ∧ pathFault [(1, ⟨3000, .lane, 500, [], [⟨2, .a⟩]⟩), (2, ⟨3000, .lane, 500, [⟨1, .b⟩, ⟨3, .b⟩], []⟩),
          (3, ⟨3000, .lane, 500, [], [⟨2, .a⟩]⟩)] [] 0 [1, 2, 3] = some (true, 1)
      ∧ (u.endBounds [13]).2 < (u.endBounds [13]).1
      ∧ ready State.reset 16 (submitArgs 0) = some (taken State.reset 16 (submitArgs 0)) := by decide +kernel

/-- A front order with the queue empty and with its head in each state. -/
theorem test_witness_AcceptedOrdersTakeTheirPlace_front :
    let a := submitArgs 1
    ready idleCarrier 16 a = some (taken idleCarrier 16 a) ∧ readOrder (bytesOf a) = some (order8 true)
      ∧ OrderQueueSound moving.orders
      ∧ (∀ st ∈ [OrderState.queued, .suspended, .finishing, .active],
          let s := moving.setList [{ order7 with state := st }]
          ready s 16 a = some (taken s 16 a) ∧ OrderQueueSound s.orders ∧ s.argumentFault (order8 true) = none)
      ∧ (moving.setOrders { moving.orders with cancelMark := some 7 }).orders.cancelMark = some order7.tag := by
  decide +kernel

/-- No order with the tag, and one in each state, the cancel mark set and not. -/
theorem test_witness_CancelOrderByState :
    ready idleCarrier 17 [7, 0] = some (taken idleCarrier 17 [7, 0]) ∧ 7 = (7 : Byte).toNat + 256 * (0 : Byte).toNat
      ∧ (∀ st ∈ [OrderState.queued, .suspended, .finishing, .active],
          let s := moving.setList [{ order7 with state := st }]
          ready s 17 [7, 0] = some (taken s 17 [7, 0])
            ∧ s.orders.list.find? (fun x => x.tag == 7) = some { order7 with state := st })
      ∧ (moving.setOrders { moving.orders with cancelMark := some 7 }).orders.cancelMark = some order7.tag
      ∧ RoomFor moving.notice .orderCancelled 1 := by decide +kernel

/-! ## Halting, resuming, restarting -/

theorem test_witness_CauseInHaltedOnlyJoinsTheSet :
    let s := halted.setControl { halted.control with causes := [.positionLost] }
    (halted.control.state = .halted ∧ s.control.state = .halted ∧ Cause.positionLost ∈ s.control.causes
      ∧ Cause.positionLost.class = .position ∧ Instr.resume [] ≠ .powerOnReset)
      ∧ (∀ args, Instr.resume [] ≠ .restart args) ∧ ∃ t, exec (.resume []) s = .next t :=
  ⟨by decide +kernel, fun _ h => Instr.noConfusion h, _, rfl⟩

theorem test_witness_StopHaltsAndResumeRuns_stop :
    ready moving 18 [] = some (taken moving 18 []) ∧ OrderQueueSound moving.orders ∧ moving.control.state = .running
      ∧ moving.line.tx.length < 24 ∧ ready halted 18 [] = some (taken halted 18 []) ∧ halted.control.state = .halted := by
  decide +kernel

/-- The latch not complete; OVERRUN with D at 0 or more; OBSTACLE left, and what the refusal lists. -/
theorem test_witness_StopHaltsAndResumeRuns_resume :
    let braking := halted.setMotion { halted.motion with latch := .braking }
    let past := halted.setControl { halted.control with causes := [.overrun, .driveStall, .stop] }
    let obst := halted.setControl { halted.control with causes := [.obstacle] }
    ready braking 19 [] = some (taken braking 19 []) ∧ braking.motion.latch ≠ .complete
      ∧ ready past 19 [] = some (taken past 19 []) ∧ past.motion.latch = .complete
      ∧ (past.authorityDistance.any (fun d => decide (0 ≤ d))) = true
      ∧ ready obst 19 [] = some (taken obst 19 []) ∧ Cause.obstacle ∈ obst.control.causes
      ∧ (run (.resume []) obst).port.slot = .full ⟨19, .refusedState, causeBytes [.obstacle]⟩ := by
  decide +kernel

theorem test_witness_RestartReturnsToSetup :
    let s := halted.setMotion { halted.motion with measured := 1 }
    ready halted 20 [] = some (taken halted 20 []) ∧ halted.control.state ≠ .setup ∧ halted.motion.measured = 0
      ∧ ready s 20 [] = some (taken s 20 []) ∧ s.motion.measured ≠ 0 ∧ RoomFor halted.notice .stateChanged 1 := by
  decide +kernel

/-- A frame in flight is stopped and the abort pattern sent (R35, R54, R31). -/
theorem test_witness_abort_of_a_frame_in_flight :
    let e := claimEntry false 0
    let s := flying halted e
    s.line.transmitter = .sending (s.frameOf e) (s.frameOf e).line
      ∧ (run (.restart []) s).line.abortBits = List.replicate 8 true
      ∧ (run (.lineReset []) (flying moving e)).line.abortBits = List.replicate 8 true
      ∧ (run (.lineReset []) (flying moving e)).line.transmitter = .idle := by decide +kernel

/-! ## Line, lift and station commands -/

/-- Payloads of 0, 1, 32 and 33 bytes; a sixth RELAY in the queue. -/
theorem test_witness_RelaysQueueAndLineResetClears_relay :
    let relays (n : Nat) : State :=
      moving.setLine
        { moving.line with tx := List.replicate n ⟨255, .fixed (.relay [0]), 0, false, false⟩ }
    ready moving 21 [0, 0] = some (taken moving 21 [0, 0])
      ∧ ready moving 21 ([0, 33] ++ List.replicate 33 0) = some (taken moving 21 ([0, 33] ++ List.replicate 33 0))
      ∧ ready moving 21 [255, 1, 9] = some (taken moving 21 [255, 1, 9]) ∧ moving.control.state ≠ .setup
      ∧ countKind (relays 5).line.tx 7 < 6 ∧ 6 ≤ countKind (relays 6).line.tx 7 ∧ moving.line.tx.length < 24 := by
  decide +kernel

/-- A pending claim in the window of round 1, and none; RELAY frames lost, and none. -/
theorem test_witness_RelaysQueueAndLineResetClears_reset :
    ready window1 22 [] = some (taken window1 22 []) ∧ window1.claim.record.state.isPending = true
      ∧ ready moving 22 [] = some (taken moving 22 []) ∧ moving.claim.record.state.isPending = false
      ∧ countKind (queued moving ⟨255, .fixed (.relay [0]), 0, false, false⟩).line.tx 7 ≠ 0
      ∧ countKind moving.line.tx 7 = 0 ∧ RoomFor moving.notice .relayDiscarded 1 := by decide +kernel

theorem test_witness_LiftFollowsItsSensorsAndTimer_clear :
    let jam (sup sdn : Bool) : State :=
      (moving.setLift { moving.lift with state := .jammed }).setPins { moving.pins with sup := sup, sdn := sdn }
    ready moving 23 [] = some (taken moving 23 []) ∧ moving.control.state ≠ .setup ∧ moving.lift.state ≠ .jammed
      ∧ ready (jam true false) 23 [] = some (taken (jam true false) 23 [])
      ∧ (jam true false).pins.sup = true ∧ (jam false true).pins.sdn = true
      ∧ (jam true true).pins.sup = (jam true true).pins.sdn := by decide +kernel

/-- Numbers 0, 5 and 61; an entry of the station with pins and without; a BLOCKED wait on it. -/
theorem test_witness_ForgetStationForgetsEverything :
    ready blocked 24 [61] = some (taken blocked 24 [61]) ∧ ¬(1 ≤ (61 : Byte).toNat ∧ (61 : Byte).toNat ≤ 60)
      ∧ ready (cached blocked) 24 [5] = some (taken (cached blocked) 24 [5]) ∧ CacheSound (cached blocked).cache
      ∧ CacheSound (blocked.setWays [(60, { entry15 with pins := [7] })]).cache
      ∧ Table.find (cached blocked).cache.ways 60 = some entry15 ∧ entry15.holder = 5
      ∧ blocked.claim.record.waitsOn 5 = true ∧ blocked.resp.conflicts = [] ∧ blocked.resp.overflow = false := by
  decide +kernel

/-! ## Queries, cache, notices, Fault Record -/

theorem test_witness_QueriesChangeNothing :
    (∀ k ∈ [32, 33, 34], ready moving k [] = some (taken moving k []))
      ∧ ready (cached moving) 35 [15, 0] = some (taken (cached moving) 35 [15, 0])
      ∧ (15 : Byte).toNat < 16 ∧ (3 : Byte).toNat < 4 ∧ Table.find (cached moving).cache.ways (4 * 15 + 0) = some entry15
      ∧ Table.find (cached moving).cache.ways (4 * 15 + 3) = none
      ∧ ready moving 35 [16, 0] = some (taken moving 35 [16, 0]) ∧ 16 ≤ (16 : Byte).toNat
      ∧ ready moving 35 [0, 4] = some (taken moving 35 [0, 4]) ∧ 4 ≤ (4 : Byte).toNat := by decide +kernel

theorem test_witness_InvalidationsEmptyTheirWays :
    let s := cached blocked
    CacheSound s.cache ∧ ready s 36 [15, 0] = some (taken s 36 [15, 0]) ∧ Table.find s.cache.ways 60 = some entry15
      ∧ Table.find s.cache.ways 0 = none ∧ s.claim.record.state = .blocked ∧ s.claim.record.waitSeg = some entry15.seg
      ∧ ready s 37 [15] = some (taken s 37 [15]) ∧ (∃ w ∈ s.cache.ways, w.2.seg = 15 ∧ w.1 / 4 = 15)
      ∧ (∀ w ∈ s.cache.ways, w.2.seg ≠ 240) ∧ ready s 38 [15] = some (taken s 38 [15])
      ∧ ready s 36 [16, 0] = some (taken s 36 [16, 0]) ∧ ready s 36 [0, 4] = some (taken s 36 [0, 4])
      ∧ ready s 37 [0] = some (taken s 37 [0]) ∧ ready s 37 [241] = some (taken s 37 [241])
      ∧ ready s 38 [16] = some (taken s 38 [16]) := by decide +kernel

/-- Nothing lost; a loss with notices queued; a loss with none. -/
theorem test_witness_ReadNoticesDrainsTheQueue :
    let lossy := moving.setNotice
      { moving.notice with queue := [Notice.plain .obstacle 0, Notice.plain .obstacle 1], lost := 3 }
    ready moving 39 [] = some (taken moving 39 []) ∧ moving.notice.lost = 0
      ∧ ready lossy 39 [] = some (taken lossy 39 []) ∧ lossy.notice.lost ≠ 0 ∧ lossy.notice.queue ≠ [] := by
  decide +kernel

/-- Counts 0 and 1; a code that offends, 26 and 20; codes 1 and 25. -/
theorem test_witness_NoticeKindsAreEnabledAndDisabled :
    ready moving 40 [0] = some (taken moving 40 [0]) ∧ ready moving 41 [2, 1, 25] = some (taken moving 41 [2, 1, 25])
      ∧ ready moving 40 [1, 26] = some (taken moving 40 [1, 26])
      ∧ (bytesOf [1, 26]).find? (fun c => decide (c.toNat = 0 ∨ 25 < c.toNat)) = some 26
      ∧ (bytesOf [1, 20]).find? (fun c => decide (c.toNat = 0 ∨ 25 < c.toNat ∨ c.toNat = 20)) = some 20
      ∧ (∀ c ∈ bytesOf [1, 25], 1 ≤ c.toNat ∧ c.toNat ≤ 25 ∧ c.toNat ≠ 20)
      ∧ NoticeKind.obstacle ∈ (moving.notice.disable [.obstacle]).disabled := by decide +kernel

theorem test_witness_AttentionFollowsTheQueue :
    ready moving 42 [5, 0] = some (taken moving 42 [5, 0]) ∧ ready moving 42 [4, 32] = some (taken moving 42 [4, 32]) := by
  decide +kernel

theorem test_witness_FaultRecordIsReadAndCleared :
    ready moving 43 [] = some (taken moving 43 []) ∧ ready faulty 44 [] = some (taken faulty 44 [])
      ∧ faulty.notice.fault.isSome = true ∧ moving.notice.fault = none := by decide +kernel

/-! ## Pins and the control step -/

theorem test_witness_PulsesAreCountedAndTaken :
    State.reset.control.state = .setup ∧ moving.control.state ≠ .setup := by decide

/-- In SETUP; an unmapped code new and seen before; a plate of segment 12 within reach, the miss count below 2. -/
theorem test_witness_TagReadSnapsOrReports :
    let s := moving.setPos
      { moving.pos with
        windows := Vector.replicate 8 ⟨0, 99, 12⟩, unmapped := [5000], centre := some ⟨12, 4620000, .forward⟩ }
    State.reset.control.state = .setup ∧ s.control.state ≠ .setup
      ∧ decodeTag s.pos.windows.toList (6000 : BitVec 16).toNat = none ∧ (5000 : BitVec 16).toNat ∈ s.pos.unmapped
      ∧ (6000 : BitVec 16).toNat ∉ s.pos.unmapped ∧ RoomFor s.notice .tagUnmapped 1
      ∧ decodeTag s.pos.windows.toList (3 : BitVec 16).toNat = some ⟨12, 3⟩
      ∧ (Table.find s.pos.map 12).isSome = true
      ∧ ((nearby s.pos.map s.runSegs ⟨12, 4620000, .forward⟩).find? (fun p => p.seg == 12))
          = some ⟨12, .forward, -4620000, 1380000⟩
      ∧ ((⟨12, .forward, -4620000, 1380000⟩ : Placed).at 4500000).natAbs ≤ 4000 * s.params.tolerance
      ∧ s.snapFault ⟨12, 4500000, .forward⟩ = none ∧ s.pos.misses < 2
      ∧ (s.setPos { s.pos with misses := 2 }).pos.misses = 2 := by decide +kernel

theorem test_witness_ObstacleAndStallHaltTheStation_obstacle : moving.control.state = .running ∧ StationInvariant moving := by
  refine ⟨rfl, ?_, ?_, ?_, ?_⟩ <;> decide +kernel

/-- A read 0.001 above 4T; of a segment not next to the centre; one whose snap leaves the rear on no held track; one
whose snap puts the front past the authority limit; a drift above T that snaps. -/
theorem test_witness_TagReadSnapsOrReports_conflicts :
    let at' (c : Centre) (held : List HeldEntry) : State :=
      (moving.setPos
        { moving.pos with windows := Vector.replicate 8 ⟨0, 99, 12⟩, centre := some c }).setClaim
        { moving.claim with held := held }
    let seen (s : State) (c : Centre) (n : Nat) : Option Placed :=
      (nearby s.pos.map s.runSegs c).find? (fun p => p.seg == n)
    let all : List HeldEntry := [⟨12, .occupied⟩, ⟨13, .reserved⟩, ⟨14, .reserved⟩]
    let large := at' ⟨12, 5100001, .forward⟩ all
    let far := at' ⟨12, 3200000, .forward⟩ all
    let rear := at' ⟨12, 1900000, .forward⟩ all
    let front := at' ⟨12, 4400000, .forward⟩ [⟨12, .occupied⟩]
    let drift := at' ⟨12, 4650001, .forward⟩ all
    decodeTag large.pos.windows.toList (3 : BitVec 16).toNat = some ⟨12, 3⟩
      ∧ seen large ⟨12, 5100001, .forward⟩ 12 = some ⟨12, .forward, -5100001, 899999⟩
      ∧ 4000 * large.params.tolerance < ((⟨12, .forward, -5100001, 899999⟩ : Placed).at 4500000).natAbs
      ∧ decodeTag far.pos.windows.toList (8 : BitVec 16).toNat = some ⟨14, 0⟩
      ∧ (Table.find far.pos.map 14).isSome = true ∧ seen far ⟨12, 3200000, .forward⟩ 14 = none
      ∧ seen rear ⟨12, 1900000, .forward⟩ 12 = some ⟨12, .forward, -1900000, 4100000⟩
      ∧ ((⟨12, .forward, -1900000, 4100000⟩ : Placed).at 1500000).natAbs ≤ 4000 * rear.params.tolerance
      ∧ (layOut rear.pos.map rear.runSegs ⟨12, 1500000, .forward⟩).head? = some ⟨12, .forward, -1500000, 4500000⟩
      ∧ -rear.half < -1500000
      ∧ seen front ⟨12, 4400000, .forward⟩ 12 = some ⟨12, .forward, -4400000, 1600000⟩
      ∧ (∀ q ∈ (layOut front.pos.map front.runSegs ⟨12, 4500000, .forward⟩).head?, q.lo ≤ -front.half)
      ∧ authorityUm front (layOut front.pos.map front.runSegs ⟨12, 4500000, .forward⟩) = some (-750000)
      ∧ drift.snapFault ⟨12, 4500000, .forward⟩ = none ∧ RoomFor drift.notice .drift 1
      ∧ 1000 * drift.params.tolerance < ((⟨12, .forward, -4650001, 1349999⟩ : Placed).at 4500000).natAbs
      ∧ drift.notice.fault = none ∧ RoomFor drift.notice .positionConflict 1 := by decide +kernel

/-- The run around the centre; a move within the segment, one to the next, one to the run's end and one past it; a plate
ahead and none; the expected marker 2T behind and 0.001 more, at each miss count; a segment left behind. -/
theorem test_witness_PositionStepMovesTheBody :
    let at' (c : Centre) : State := moving.setPos { moving.pos with centre := some c, expected := some ⟨13, 0⟩ }
    let last := at' ⟨14, 800000, .reverse⟩
    let gone := at' ⟨13, 2250001, .forward⟩
    (moving.pos.centre = some ⟨12, 3200000, .forward⟩ ∧ 12 ∈ moving.runSegs
      ∧ moving.layout[0]? = some ⟨12, .forward, -3200000, 2800000⟩
      ∧ moving.layout[1]? = some ⟨13, .forward, 2800000, 5800000⟩
      ∧ 3200000 ≤ 1000 * lengthOf moving.pos.map 12 ∧ 2800000 = 1000 * lengthOf moving.pos.map 12 - 3200000
      ∧ moving.runSegs = [] ++ 12 :: 13 :: [14] ∧ linkTo moving.pos.map 12 Direction.forward.leaving 13 = some ⟨13, .a⟩
      ∧ 2800000 - 2800000 < 1000 * lengthOf moving.pos.map 13)
      ∧ (last.runSegs = [12, 13] ++ [14] ∧ 800000 ≤ 1000 * lengthOf last.pos.map 14 ∧ last.pos.endLost = false
        ∧ last.control.state = .running ∧ last.notice.fault = none)
      ∧ (plateAhead moving.pos.map moving.layout = some ⟨12, 3⟩
        ∧ plateAhead last.pos.map (at' ⟨14, 0, .reverse⟩).layout = none)
      ∧ (plateAt map3 (at' ⟨13, 300000, .forward⟩).layout ⟨13, 0⟩ = some (-300000)
        ∧ -(-300000 : Int) ≤ 2000 * (moving.params.tolerance : Int)
        ∧ plateAt map3 (at' ⟨13, 300001, .forward⟩).layout ⟨13, 0⟩ = some (-300001)
        ∧ 2000 * (moving.params.tolerance : Int) < -(-300001) ∧ RoomFor moving.notice .tagMissed 1)
      ∧ (heldSegs gone.claim.held).filter (fun n =>
          decide (∃ p ∈ gone.layout, p.seg = n ∧ p.hi < -gone.half - 1000 * (gone.params.tolerance : Int))) = [12]
      ∧ (heldSegs moving.claim.held).filter (fun n =>
          decide (∃ p ∈ moving.layout, p.seg = n ∧ p.hi < -moving.half - 1000 * (moving.params.tolerance : Int))) = []
      ∧ gone.line.tx.length < 24 := by decide +kernel

/-- The figures of a step at rest: a commanded speed at the target, and one above it. -/
def still : Figures := ⟨none, 0, 0, 0, 0, 0, 0, none, 0, .maxSpeed⟩

theorem test_witness_CommandedSpeedMovesByTheStep :
    let s := moving.setMotion { moving.motion with figures := some still }
    s.control.state = .running ∧ s.motion.figures = some still ∧ s.motion.commanded ≤ still.target
      ∧ still.target < (s.setCommanded 5).motion.commanded := by decide

/-- The step's own figures; a segment that comes under the body with a cap at the speed, and one below it. -/
theorem test_witness_CommandedSpeedMovesByTheStep_caps :
    let s := moving.setMotion { moving.motion with figures := some (moving.stepFigures (some 1500)) }
    let t := moving.setCommanded 1001
    s.control.state = .running ∧ s.motion.figures = some (s.stepFigures (some 1500))
      ∧ 12 ∈ underBody s.layout s.half ∧ s.motion.commanded ≤ capOf s.pos.map 12
      ∧ (underBody t.layout t.half).filter (fun n => !([] : List Nat).contains n) = [12]
      ∧ capOf t.pos.map 12 < t.motion.commanded ∧ RoomFor t.notice .capEntry 1 := by decide +kernel

/-- The drive outputs: outside RUNNING; with a service stop requested and not; commanded 0 and above. The rate given at
a halt and at a control step outside SETUP. -/
theorem test_witness_CommandedSpeedMovesByTheStep_outputs :
    let stopping := moving.setMotion { moving.motion with requests := [.cancel], commanded := 5 }
    let heavy := moving.setOrders { moving.orders with effective := .heavy }
    halted.control.state ≠ .running ∧ (halted.driveCommand, halted.spd) = (.emergency, 0)
      ∧ moving.control.state = .running ∧ moving.motion.requests = [] ∧ moving.motion.commanded = 0
      ∧ (moving.driveCommand, moving.spd, moving.brk) = (.run, 0, .hold)
      ∧ stopping.control.state = .running ∧ stopping.motion.requests ≠ [] ∧ 0 < stopping.motion.commanded
      ∧ (stopping.driveCommand, stopping.spd, stopping.brk) = (.serviceStop, 5, .released)
      ∧ (heavy.halt 0 .stop).brk = .emergency 400 ∧ heavy.control.state ≠ .setup
      ∧ (run (.controlStep false .heavy) heavy).motion.brakeRate = 400 := by decide +kernel

theorem test_witness_StepFiguresFollowTheFormulas :
    moving.activeOrder = some order7 ∧ moving.activeOrder ≠ none ∧ idleCarrier.activeOrder = none
      ∧ (moving.stepFigures (some 1500)).dEnd.isSome = true ∧ 0 < 2 ^ 32 ∧ (0 : Nat) < 200 := by decide +kernel

/-- The held list empty and not; the order's last segment in the layout; a slower segment ahead; a step with v_end; the
last segment off the run. -/
theorem test_witness_StepFiguresFollowTheFormulas_terms :
    let s := (moving.setCommanded 1001).setClaim
      { moving.claim with held := [⟨12, .occupied⟩, ⟨13, .reserved⟩] }
    let off := moving.setList [{ order7 with path := [12, 44] }]
    (off.activeOrder = some { order7 with path := [12, 44] } ∧ (∀ p ∈ off.layout, some 44 ≠ some p.seg)
      ∧ halted.control.state ≠ .running)
      ∧ (idleCarrier.setClaim { idleCarrier.claim with held := [] }).claim.held = []
      ∧ (heldSegs s.claim.held).getLast? = some 13
      ∧ s.layout = [⟨12, .forward, -3200000, 2800000⟩, ⟨13, .forward, 2800000, 5800000⟩]
          ++ ⟨14, .reverse, 5800000, 8800000⟩ :: []
      ∧ order7.path.getLast? = some 14 ∧ s.control.state = .running ∧ s.wantsReversal = false
      ∧ s.half ≤ 2800000 ∧ capOf s.pos.map 13 < (s.stepFigures none).v ∧ 13 ∈ heldSegs s.claim.held
      ∧ (s.stepFigures none).vEnd.isSome = true := by decide +kernel

/-- A reversal the path asks for, and one at its last segment in either direction; pending while the speed is not 0 and
taken at 0; the held list it leaves; an arrival at exactly 10, with each end action, and none at 11. -/
theorem test_witness_ReversalsAndArrivalsAreTaken :
    let at' (c : Centre) : State := moving.setPos { moving.pos with centre := some c }
    let turn := at' ⟨13, 1000000, .reverse⟩
    let u := (turn.setPos { turn.pos with centre := some ⟨13, 1000000, .forward⟩ }).setClaim
      { turn.claim with held := turn.claim.held.reverse }
    let ended (st : LiftState) (a : EndAction) : State :=
      ((at' ⟨14, 760000, .reverse⟩).setList [{ order7 with endAction := a }]).setLift { moving.lift with state := st }
    (turn.wantsReversal = true ∧ (at' ⟨14, 760001, .forward⟩).wantsReversal = true
      ∧ (at' ⟨14, 739999, .reverse⟩).wantsReversal = true ∧ moving.wantsReversal = false
      ∧ halted.control.state ≠ .running ∧ turn.motion.commanded = 0 ∧ turn.motion.measured = 0
      ∧ (turn.setCommanded 1).motion.commanded ≠ 0 ∧ (u.layout.map Placed.seg).Nodup
      ∧ 13 ∈ heldSegs turn.claim.held ∧ 13 ∈ underBody u.layout u.half)
      ∧ (turn.reversalStep 0).claim.held = [⟨14, .reserved⟩, ⟨13, .occupied⟩, ⟨12, .occupied⟩]
      ∧ (at' ⟨14, 760001, .reverse⟩).hasArrived false = true ∧ (at' ⟨14, 761000, .reverse⟩).hasArrived false = false
      ∧ moving.hasArrived false = false
      ∧ (∀ st ∈ [LiftState.down, .up, .jammed], ∀ a ∈ [EndAction.none, .lift, .lower],
          (ended st a).hasArrived false = true ∧ (ended st a).activeOrder = some { order7 with endAction := a }
          ∧ ((ended st a).orders.list.map Order.tag).Nodup ∧ (ended st a).lift.state = st
          ∧ RoomFor (ended st a).notice .orderDone 2 ∧ RoomFor (ended st a).notice .orderFailed 2)
      ∧ (moving.setPins { moving.pins with sup := false, sdn := false }).pins.sdn = false
      ∧ ¬(moving.pins.sup = true ∧ moving.pins.sdn = false) := by decide +kernel

/-- An order ready to go on; a head not eligible; a path that begins elsewhere, one without the centre's segment, one of
the centre's segment alone, one whose next segments are the held ones and one whose are not. -/
theorem test_witness_HeadOrderIsActivated :
    let o := { order7 with state := .queued }
    let h := { order7 with state := .suspended, reason := some SuspendReason.halt }
    let ready' (o : Order) : State := idleCarrier.setOrders { idleCarrier.orders with list := [o] }
    let c : Centre := ⟨12, 3200000, .forward⟩
    (∀ x ∈ [o, h], (ready' x).readyToActivate = true ∧ x.eligible = true ∧ OrderQueueSound (ready' x).orders
      ∧ (ready' x).pos.centre = some c ∧ (ready' x).revalidate c x = .passed [12, 13, 14])
      ∧ moving.readyToActivate = false ∧ ({ h with reason := some SuspendReason.yield } : Order).eligible = false
      ∧ ({ o with path := [13, 14] } : Order).path.head? ≠ some c.seg ∧ c.seg ∉ [13, 14]
      ∧ heldSegs idleCarrier.claim.held = [] ++ c.seg :: [13, 14]
      ∧ HasLink idleCarrier.pos.map 12 Direction.forward.leaving 13 ∧ [13, 14] <+: [13, 14]
      ∧ (ready' { o with path := [12, 13] }).revalidate c { o with path := [12, 13] } = .failed .bodyOffPath 14
      ∧ [13, 14][1]? = some 14 ∧ [13][1]? ≠ some 14 ∧ [13, 14].take 1 <+: [13]
      ∧ idleCarrier.lift.state = .down ∧ idleCarrier.claim.waitedTag ≠ some 7
      ∧ (idleCarrier.setLift { idleCarrier.lift with state := .up }).lift.state = .up
      ∧ RoomFor idleCarrier.notice .orderActive 1 ∧ RoomFor idleCarrier.notice .orderFailed 1 := by decide +kernel

/-- A claim to form over segment 13, with its lookup a miss, HELD and STALE, and with 13 on the held list; a full
transmit queue; twelve held and eleven; an enquiry not due, due and due again. -/
theorem test_witness_ClaimIsFormedAndSized :
    let far : Figures := { still with h := 3000, hCap := 3250 }
    let hungry := (moving.setClaim { moving.claim with held := [⟨12, .occupied⟩] }).setMotion
      { moving.motion with authority := some 0, figures := some far }
    let known (st : CacheStatus) : State := hungry.setWays [(52, { entry15 with seg := 13, status := st })]
    let own := hungry.setClaim { hungry.claim with held := [⟨13, .occupied⟩, ⟨12, .occupied⟩] }
    let full := hungry.setLine
      { hungry.line with tx := List.replicate 24 ⟨255, .fixed (.release [1]), 0, false, false⟩ }
    let asking (st : CacheStatus) : State :=
      (blocked.setRecord { blocked.claim.record with lastStale := true }).setWays [(60, { entry15 with status := st })]
    (hungry.claimTrigger = true ∧ hungry.candidates = 13 :: [14] ∧ hungry.activeOrder = some order7
      ∧ hungry.motion.authority = some 0 ∧ hungry.motion.figures = some far ∧ moving.claimTrigger = false
      ∧ 13 ∉ heldSegs hungry.claim.held ∧ lookup hungry.cache 13 = .miss
      ∧ (known .held).claimTrigger = true ∧ lookup (known .held).cache 13 = .held 5
      ∧ (known .stale).claimTrigger = true ∧ lookup (known .stale).cache 13 = .stale 5
      ∧ own.claimTrigger = true ∧ 13 ∈ heldSegs own.claim.held
      ∧ hungry.line.tx.length < 24 ∧ countKind hungry.line.tx 2 = 0
      ∧ full.claimTrigger = true ∧ 24 ≤ full.line.tx.length ∧ (∀ e ∈ full.line.tx, e.class < 2 ∧ e.kind ≠ 2))
      ∧ (hungry.claim.held.length < 12 ∧ hungry.sizeClaim 0 3001 13 [14] = [13, 14]
        ∧ hungry.sizeClaim 0 3000 13 [14] = [13])
      ∧ blocked.claim.record.state = .blocked ∧ blocked.claim.record.waitSeg = some 15
      ∧ blocked.claim.record.lastStale = false ∧ (asking .stale).claim.record.lastStale = true
      ∧ lookup (asking .stale).cache 15 = .stale 5 ∧ lookup (asking .held).cache 15 = .held 5
      ∧ Table.find (asking .stale).claim.enquiries 15 = none
      ∧ (2499 + 2 ^ 32 - 0) % 2 ^ 32 < moving.params.staleness
      ∧ moving.params.staleness ≤ (2500 + 2 ^ 32 - 0) % 2 ^ 32
      ∧ countKind (asking .stale).line.tx 6 < 3 := by decide +kernel

/-- The three waits; a count at the limit and one past it; the partner of a cycle with an urgency below, equal and above;
a yield's stop completed with the partner waiting elsewhere, for a segment given back and for one still held. -/
theorem test_witness_WaitsCountExpireAndYield :
    let counted (n : Nat) : State := blocked.setClaim { blocked.claim with waited := n }
    let cyc (u : Nat) : State := blocked.setClaim { blocked.claim with peerWait := some ⟨13, u⟩ }
    let yielding (n m : Nat) : State :=
      let s := inRecord { ClaimRecord.initial with
        state := .holdoff, waitSeg := some 15, holdoff := some ⟨.stopping, 5, n, none⟩ }
      s.setClaim { s.claim with reports := [(5, ⟨m, 1⟩)] }
    (∀ s ∈ [blocked, contested, holdoff .waiting],
      s.claim.record.state = .blocked ∨ s.claim.record.state = .contested ∨ s.claim.record.state = .holdoff)
      ∧ ((counted 3001).claim.record.state.isWait = true ∧ (counted 3001).claim.expired = false
        ∧ 100 * moving.params.waitLimit < (counted 3001).claim.waited ∧ RoomFor blocked.notice .waitExpired 1
        ∧ (counted 3000).claim.waited ≤ 100 * moving.params.waitLimit)
      ∧ (∀ u ∈ [0, 1, 2], (cyc u).cycle = some (5, ⟨13, u⟩) ∧ (cyc u).activeOrder = some order7)
      ∧ order7.urgency = 1 ∧ (5 : Nat) < blocked.control.number ∧ blocked.cycle = none
      ∧ (holdoff .waiting).claim.record.holdoff = some ⟨.waiting, 5, 13, none⟩
      ∧ (∀ n ∈ [13, 40], (yielding n n).claim.record.holdoff = some ⟨.stopping, 5, n, none⟩
          ∧ (Table.find (yielding n n).claim.reports 5).map PeerReport.waitingFor = some n)
      ∧ (Table.find (yielding 13 0).claim.reports 5).map PeerReport.waitingFor ≠ some 13
      ∧ 13 ∈ heldSegs (yielding 13 13).claim.held ∧ 40 ∉ heldSegs (yielding 40 40).claim.held
      ∧ (yielding 13 13).activeOrder = some order7 ∧ RoomFor blocked.notice .yieldNeeded 1 := by decide +kernel

/-! ## Stops and clocks -/

def stopping : State :=
  (moving.setMotion { moving.motion with requests := [.cancel] }).setOrders { moving.orders with cancelMark := some 7 }

def latched (reported : Bool) : State :=
  halted.setMotion { halted.motion with latch := .braking, latchReported := reported }

theorem test_witness_CompletedStopsGiveTrackBack :
    (stopping.control.state = .running ∧ stopping.motion.requests ≠ [] ∧ stopping.motion.commanded = 0
      ∧ stopping.motion.measured = 0 ∧ StopMember.cancel ∈ stopping.motion.requests
      ∧ stopping.claim.record.holdoff = none ∧ stopping.activeOrder = some order7
      ∧ stopping.orders.cancelMark = some order7.tag)
      ∧ ∀ r ∈ [true, false], (latched r).control.state = .halted ∧ (latched r).motion.latch = .braking
        ∧ (latched r).motion.measured = 0 ∧ (latched r).motion.latchReported = r := by decide +kernel

/-- The RESERVED segments are given back in one RELEASE. -/
theorem test_stop_gives_back_reserved :
    heldSegs (run .serviceStopComplete stopping).claim.held = [12]
      ∧ (run .serviceStopComplete stopping).line.tx = [⟨255, .fixed (.release [13, 14]), 0, false, false⟩] := by
  decide +kernel

theorem test_witness_ObstacleAndStallHaltTheStation_stall :
    let s := moving.setCommanded 1
    s.control.state = .running ∧ 0 < s.motion.commanded ∧ s.motion.measured = 0 ∧ s.notice.fault = none
      ∧ s.line.tx.length < 24 ∧ RoomFor s.notice .driveStall 1 := by decide +kernel

/-- A wait with the mark clear and set, in the three waits. -/
theorem test_witness_ExpiredWaitIsReportedOnce :
    (∀ s ∈ [blocked, contested, holdoff .waiting],
      s.claim.record.state.isWait = true ∧ s.claim.expired = false ∧ RoomFor s.notice .waitExpired 1)
      ∧ (blocked.setClaim { blocked.claim with expired := true }).claim.expired = true
      ∧ (holdoff .stopping).claim.record.state = .holdoff := by decide +kernel

theorem test_witness_TimersRunOutByTheirRules_join_beacon :
    let s := moving.setControl { moving.control with state := .joining, joinTimer := some 0 }
    s.control.state = .joining ∧ RoomFor s.notice .stateChanged 1 ∧ s.line.beaconTimer = some 500
      ∧ s.line.tx.length < 24 ∧ countKind s.line.tx 1 = 0
      ∧ (∃ e ∈ (queued s ⟨255, .beacon, 0, false, false⟩).line.tx, e.content = .beacon) := by decide +kernel

theorem test_witness_WindowsLeadToTheGrant :
    window1.claim.record.state = .windowR1 ∧ window1.line.tx.length < 24 ∧ countKind window1.line.tx 2 = 0
      ∧ window2.claim.record.state = .windowR2 ∧ CacheSound window2.cache := by decide +kernel

theorem test_witness_TimersRunOutByTheirRules_waits :
    contested.claim.record.state = .contested
      ∧ (holdoff .waiting).claim.record.holdoff = some ⟨.waiting, 5, 13, none⟩
      ∧ (holdoff .stopping).claim.record.holdoff = some ⟨.stopping, 5, 13, none⟩ := ⟨rfl, rfl, rfl⟩

theorem test_witness_TimersRunOutByTheirRules_stale :
    Table.find (cached moving).cache.ways (4 * 15 + 0) = some entry15 ∧ entry15.status = .held
      ∧ Table.find (moving.setWays [(60, { entry15 with status := .stale })]).cache.ways (4 * 15 + 0)
          = some { entry15 with status := .stale } := by decide

/-- The lift moving toward an end for a FINISHING order. -/
def lifting (st : LiftState) (a : EndAction) : State :=
  (moving.setList [{ order7 with state := .finishing, endAction := a }]).setLift
    { state := st, timer := some 100, operation := some ⟨a, 7⟩, measured := none }

theorem test_witness_LiftFollowsItsSensorsAndTimer_moving :
    (lifting .raising .lift).lift.operation = some ⟨.lift, 7⟩
      ∧ ((lifting .raising .lift).orders.list.find? (fun x => x.tag == 7 && x.state == .finishing)).isSome = true
      ∧ (lifting .lowering .lower).lift.state = .lowering
      ∧ ((lifting .lowering .lower).orders.list.find? (fun x => x.tag == 7 && x.state == .finishing)).isSome = true
      ∧ (lifting .raising .lift).notice.fault = none ∧ (lifting .raising .lift).notice.disabled = []
      ∧ (lifting .raising .lift).notice.queue.length + 2 ≤ 32 := by decide +kernel

/-! ## The lane line -/

def beaconOf (held : List HeldEntry) : Body := .beacon ⟨12, 65535, .reverse, .halted, 0, 3, 240, held⟩

/-- One body of each kind, lists and fields at bounds of their ranges. -/
def sample : List Body :=
  [beaconOf [], .claim 255 2 3 65535 [1, 2, 3, 4, 5, 6, 7, 240], .object 0 240 .edition 240 3, .withdraw 255,
    .release [1], .enquire [240], .relay [7]]

/-- R37: the 0 of a closing flag right after five 1s is removed as an inserted zero, and no content bit is lost; an
abort after 2 and after 3 content bits; 392 content bits. -/
theorem test_flag_after_five_ones :
    let content := List.replicate 59 false ++ List.replicate 5 true
    (Receiver.frame 0 []).takeAll (content ++ flagBits) = (.frame 0 [], [.flag content])
      ∧ (stuff 0 content).dropLast = content ∧ (stuff 0 content).getLast? = some false
      ∧ (Receiver.frame 0 []).takeAll (flagBits ++ flagBits) = (.frame 0 [], [.flag [], .flag []])
      ∧ ((Receiver.frame 0 []).takeAll ([false, false] ++ List.replicate 7 true)).2 = []
      ∧ ((Receiver.frame 0 []).takeAll ([false, false, false] ++ List.replicate 7 true)).2 = [.abort]
      ∧ (stuff 0 [false]).getLast? ≠ some true
      ∧ ((Receiver.frame 0 []).takeAll (List.replicate 392 false)).2 = [.excess] := by decide +kernel

theorem test_witness_SentFrameIsTakenAsItWas :
    ∀ b ∈ sample, FrameFits ⟨if b.kind = 3 then 60 else 255, 60, 65535, b⟩ := by
  intro b h
  simp only [sample, beaconOf, List.mem_cons, List.not_mem_nil, or_false] at h
  rcases h with h | h | h | h | h | h | h <;> subst h <;> simp only [FrameFits, BodyFits] <;> decide +kernel

/-- A RELAY to a destination. -/
def relayTo (dest source : Nat) : Frame := ⟨dest, source, 1, .relay [7]⟩

theorem test_relayTo_fits : ∀ d ∈ [0, 9, 61, 255], ∀ x ∈ [5, 9], FrameFits (relayTo d x) := by
  intro d hd x hx
  simp only [FrameFits, BodyFits, relayTo]
  revert d x
  decide +kernel

/-- Seven and eight frames buffered; destinations 0, 9, 61; the own number as source, the mark clear and set. -/
theorem test_witness_ClosedFramesAreJudgedAndCounted :
    let full (n : Nat) : State :=
      moving.setLine { moving.line with rx := List.replicate n ⟨relayTo 9 5, 0⟩ }
    moving.line.receiver = .hunt 7 ∧ moving.line.transmitter = .idle
      ∧ (moving.setLine { moving.line with transmitter := .backoff 3 }).line.transmitter = .backoff 3
      ∧ (relayTo 9 5).source ≠ moving.control.number
      ∧ moving.control.recognises 9 = true ∧ (full 7).line.rx.length < 8 ∧ 8 ≤ (full 8).line.rx.length
      ∧ moving.control.recognises 61 = false ∧ (relayTo 0 5).dest = 0 ∧ moving.notice.fault = none
      ∧ (relayTo 9 9).source = moving.control.number ∧ moving.resp.duplicate = false ∧ moving.control.state ≠ .setup
      ∧ (moving.setResp { moving.resp with duplicate := true }).resp.duplicate = true
      ∧ RoomFor moving.notice .duplicateStation 1 := by decide +kernel

/-- A station whose receiver stands after a flag, in a frame of the content given. -/
def hearing (content : List Bool) : State := moving.setLine { moving.line with receiver := .frame 0 content }

/-- A frame that opens at a closing flag; an abort, an excess; nothing between two flags, one bit, a bit too many, a check
that does not match, an edition 0. -/
theorem test_witness_ClosedFramesAreJudgedAndCounted_dropped :
    let bad := bytesOf [255, 5, 4, 0, 0, 7]
    let wrong := bitsOf (bad ++ [0, 0])
    let right := bitsOf (bad ++ bytes2 (crcOf (bitsOf bad)).toNat)
    (hearing []).line.receiver = .frame 0 [] ∧ (hearing []).line.transmitter = .idle
      ∧ (run (.frameClosed ((relayTo 9 5).line.drop 8)) (hearing [])).line.rx = [⟨relayTo 9 5, 0⟩]
      ∧ (hearing [true, true]).line.receiver.takeAll (true :: false :: List.replicate 7 true) = (.hunt 7, [.abort])
      ∧ (hearing (List.replicate 391 false)).line.receiver.takeAll [false] = (.hunt 0, [.excess])
      ∧ (hearing []).line.receiver.takeAll flagBits = (.frame 0 [], [.flag []])
      ∧ (hearing [true]).line.receiver.takeAll flagBits = (.frame 0 [], [.flag [true]])
      ∧ (hearing (wrong ++ [true])).line.receiver.takeAll flagBits = (.frame 0 [], [.flag (wrong ++ [true])])
      ∧ (hearing wrong).line.receiver.takeAll flagBits = (.frame 0 [], [.flag wrong])
      ∧ [(0 : Byte), 0] ≠ bytes2 (crcOf (bitsOf bad)).toNat
      ∧ (hearing right).line.receiver.takeAll flagBits = (.frame 0 [], [.flag right]) := by decide +kernel

/-- R38: an edition 0, and one field of each kind of frame at fault; the same frames without fault. -/
theorem test_fields_at_fault :
    FieldsWrong (bytesOf [255, 5, 4, 0, 0, 7]) ∧ readFrame (bytesOf [255, 5, 4, 0, 0, 7]) = none
      ∧ (∀ d ∈ [[255, 5, 4, 1, 0, 7], [9, 5, 3, 1, 0, 7, 240, 4, 240, 3], [255, 5, 5, 1, 0, 1, 240],
          [255, 5, 6, 1, 0, 1, 1], [7, 5, 7, 1, 0, 1, 0], [255, 5, 2, 1, 0, 7, 2, 3, 0, 0, 1, 240]],
          (readFrame (bytesOf d)).isSome = true)
      ∧ ∀ d ∈ [[254, 5, 4, 1, 0, 7], [9, 5, 3, 1, 0, 7, 241, 4, 240, 3], [255, 5, 5, 1, 0, 2, 240, 240],
          [255, 5, 6, 1, 0, 0], [7, 5, 7, 1, 0, 2, 0], [255, 5, 2, 1, 0, 7, 3, 3, 0, 0, 1, 240]],
          readFrame (bytesOf d) = none := by
  refine ⟨?_, by decide +kernel⟩
  simp only [FieldsWrong]
  exact Or.inr (Or.inr (Or.inr (Or.inr (Or.inl (by decide)))))

/-- Destinations 0, 61 and 9 of another station's frame. -/
theorem test_witness_SelectorMatchesWhereTheMaskIsClear_frames :
    moving.line.receiver = .hunt 7 ∧ moving.line.transmitter = .idle
      ∧ (relayTo 0 5).source ≠ moving.control.number ∧ (relayTo 0 5).dest = 0 ∧ (relayTo 61 5).dest ≠ 0
      ∧ moving.control.recognises 61 = false ∧ moving.control.recognises 9 = true := by decide +kernel

theorem test_witness_SelectorMatchesWhereTheMaskIsClear :
    ready State.reset 1 [60, 160, 15, 0, 0] = some (taken State.reset 1 [60, 160, 15, 0, 0])
      ∧ Instr.encoderPulse ≠ .powerOnReset ∧ 128 ≤ 254 := by decide +kernel

/-- A head of each kind, and the states their clauses ask for. -/
theorem test_witness_PeerFramesAreTaken :
    let beacon := withFrame (cached blocked) 5 (beaconOf [])
    let conflict := withFrame moving 5 (beaconOf [⟨13, .occupied⟩])
    let release := withFrame (cached blocked) 5 (.release [15])
    (beacon.line.rx = ⟨⟨255, 5, 1, beaconOf []⟩, 40⟩ :: [] ∧ CacheSound beacon.cache
      ∧ beacon.claim.record.state = .blocked ∧ beacon.claim.record.holder = some 5
      ∧ beacon.claim.record.waitSeg = some 15 ∧ 15 ∉ heldSegs ([] : List HeldEntry))
      ∧ (13 ∈ heldSegs conflict.claim.held ∧ conflict.resp.hasPair 13 5 = false ∧ conflict.control.state = .running)
      ∧ ((withFrame moving 5 (.enquire [13])).line.rx.length = 1 ∧ moving.line.tx.length < 24
          ∧ (∀ n ∈ [44], n ∉ heldSegs moving.claim.held))
      ∧ (CacheSound release.cache ∧ Table.find release.cache.ways 60 = some entry15
          ∧ Table.find release.cache.ways 61 = none)
      ∧ ((withFrame contested 5 (.withdraw 3)).claim.record.rival = some ⟨5, some 3⟩
          ∧ moving.claim.record.state ≠ .contested)
      ∧ RoomFor (withFrame moving 5 (.relay [7])).notice .relayReceived 1 := by decide +kernel

/-- A BEACON that lists the segment of a pending claim, its first and another; of a CONTESTED wait; from the partner of a
holdoff; of another edition; from a station in a conflict pair. -/
theorem test_witness_PeerFramesAreTaken_beacon :
    let lists (n : Nat) : List HeldEntry := [⟨n, .occupied⟩]
    let other := moving.setLine { moving.line with rx := [⟨⟨255, 5, 2, beaconOf (lists 44)⟩, 40⟩] }
    let pair := (withFrame moving 5 (beaconOf [])).setResp { moving.resp with conflicts := [⟨13, 5⟩] }
    ((∀ n ∈ [44, 45], ∀ e ∈ lists n, e.seg ∉ heldSegs window1.claim.held) ∧ window1.claim.record.state.isPending = true
      ∧ window1.claim.record.segs.find? (fun x => (heldSegs (lists 44)).contains x) = some 44
      ∧ window1.claim.record.segs.head? = some 44
      ∧ window1.claim.record.segs.find? (fun x => (heldSegs (lists 45)).contains x) = some 45)
      ∧ (contested.claim.record.waitSeg = some 15 ∧ 15 ∈ heldSegs (lists 15))
      ∧ (∀ p ∈ [HoldoffPhase.stopping, .waiting], (holdoff p).claim.record.state = .holdoff
        ∧ (holdoff p).claim.record.holdoff = some ⟨p, 5, 13, none⟩)
      ∧ (other.pos.edition ≠ 2 ∧ 5 ∉ other.resp.editionMarks ∧ RoomFor other.notice .editionMismatch 1)
      ∧ CacheSound window1.cache ∧ (heldSegs (lists 44)).Nodup
      ∧ (run .beaconReceived pair).resp.conflicts = [] := by decide +kernel

/-- A BEACON that lists two held segments, its pairs new, with room for them, with the set full and with one known; one of
the holder and one of another station that lists the segment of a BLOCKED wait. -/
theorem test_witness_PeerFramesAreTaken_conflicts :
    let listed : List HeldEntry := [⟨13, .occupied⟩, ⟨12, .reserved⟩]
    let s := withFrame moving 5 (beaconOf listed)
    let full := s.setResp { s.resp with conflicts := (List.range 32).map (fun n => ⟨n + 1, 9⟩) }
    let again := s.setResp { s.resp with conflicts := [⟨13, 5⟩] }
    let wait (x : Nat) := withFrame (cached blocked) x (beaconOf [⟨15, .occupied⟩])
    (∀ n ∈ [12, 13], n ∈ heldSegs s.claim.held ∧ s.resp.hasPair n 5 = false ∧ full.resp.hasPair n 5 = false)
      ∧ s.resp.conflicts.length + listed.length ≤ 32 ∧ 32 ≤ full.resp.conflicts.length ∧ (heldSegs listed).Nodup
      ∧ RoomFor s.notice .holdConflict (listed.length + 4) ∧ markOf s.claim.held 13 = some .reserved
      ∧ s.notice.fault = none
      ∧ listed.find? (fun e => decide (e.seg ∈ heldSegs s.claim.held) && !again.resp.hasPair e.seg 5)
        = some ⟨12, .reserved⟩
      ∧ (run .beaconReceived s).resp.conflicts = [⟨13, 5⟩, ⟨12, 5⟩]
      ∧ (run .beaconReceived full).resp.overflow = true
      ∧ (∀ x ∈ [5, 6], (wait x).claim.record.state = .blocked ∧ (wait x).claim.record.waitSeg = some 15
          ∧ (wait x).claim.record.holder = some 5 ∧ 15 ∉ heldSegs (wait x).claim.held)
      ∧ (run .beaconReceived (wait 5)).claim.record.state = .blocked
      ∧ (run .beaconReceived (wait 6)).claim.record.state = .idle := by decide +kernel

/-- An empty way, a set without one and with a victim or none; a segment in the cache and not; a BEACON's list; a pin new,
there already, refused and placed; the pins of a tag removed. -/
theorem test_witness_CacheTakesBeaconsAndPins :
    let e (n age : Nat) (pins : List Nat) : CacheEntry := ⟨n, 5, some .occupied, .held, age, pins, some .beacon⟩
    let open' : Table CacheEntry := [(60, e 15 100 [7]), (61, e 31 50 [])]
    let crowd : Table CacheEntry := [(60, e 15 100 [7]), (61, e 31 50 []), (62, e 47 50 [7]), (63, e 63 9 [7])]
    let held : Table CacheEntry :=
      [(60, e 15 100 []), (61, { e 31 50 [] with status := .stale }), (62, { e 47 9 [] with status := .stale }),
        (63, { e 63 9 [] with status := .stale })]
    (∀ w ∈ [open', crowd, held], Table.wf w = true ∧ CacheSound ⟨w, 0, 0⟩)
      ∧ victim open' 15 [] = some 62 ∧ victim crowd 15 [] = some 61 ∧ victim crowd 15 [31] = none
      ∧ victim held 15 [] = some 60
      ∧ Table.find open' 60 = some (e 15 100 [7]) ∧ (∀ w ∈ crowd, w.2.seg ≠ 79)
      ∧ (blocked.setWays open').claim.record.waitSeg = some 15 ∧ blocked.claim.record.holder = some 5
      ∧ (heldSegs [⟨31, .occupied⟩, ⟨79, .reserved⟩]).Nodup
      ∧ 7 ∈ (e 15 100 [7]).pins ∧ 8 ∉ (e 15 100 [7]).pins ∧ 3 ≤ pinnedIn crowd (31 % 16) ∧ (e 31 50 []).pins = []
      ∧ pinnedIn open' (79 % 16) < 3 ∧ victim open' (79 % 16) [] = some 62
      ∧ pinnedIn [(60, e 15 9 []), (61, { e 31 50 [] with status := .stale })] (79 % 16) < 3 := by decide +kernel

/-- Another edition; a held segment; nothing of the station's; the own key before the other's and after it. -/
theorem test_witness_ClaimsAreAnswered :
    let claim (u w : Nat) : Body := .claim 7 1 u w [20, 45]
    (withFrame window1 5 (claim 0 0)).line.rx = ⟨⟨255, 5, 1, claim 0 0⟩, 40⟩ :: [] ∧ (2 : Nat) ≠ moving.pos.edition
      ∧ [13].find? (fun x => (heldSegs moving.claim.held).contains x) = some 13
      ∧ markOf moving.claim.held 13 = some .reserved ∧ markOf moving.claim.held 12 = some .occupied
      ∧ moving.claim.record.state.isPending = false ∧ (∀ n ∈ [20, 45], n ∉ heldSegs window1.claim.held)
      ∧ (∀ n ∈ [20], n ∉ window1.claim.record.segs) ∧ window1.claim.record.state.isPending = true
      ∧ [20, 45].find? (fun x => window1.claim.record.segs.contains x) = some 45
      ∧ window1.claim.record.segs.find? (fun x => [20, 45].contains x) = some 45
      ∧ 0 < window1.claim.record.urgency ∧ 9 < window1.claim.record.waited
      ∧ ¬(11 < window1.claim.record.waited) ∧ ¬(window1.control.number < 5) ∧ window1.line.tx.length < 24 := by
  decide +kernel

/-- A CLAIM of the rival of a CONTESTED wait with its number absent and present; the rival's key first in each of the four
pending states, with the own CLAIM queued and in flight. -/
theorem test_witness_ClaimsAreAnswered_rival :
    let claim : Body := .claim 7 1 3 0 [20, 45]
    let absent := contested.setRecord { contested.claim.record with rival := some ⟨5, none⟩ }
    let pending (st : ClaimState) := (inRecord { window1.claim.record with state := st, windowTimer := none })
    (absent.claim.record.state = .contested ∧ absent.claim.record.rival = some ⟨5, none⟩
        ∧ contested.claim.record.rival ≠ some ⟨5, none⟩)
      ∧ (∀ st ∈ [ClaimState.queuedR1, .queuedR2, .windowR1, .windowR2],
          (pending st).claim.record.state.isPending = true
            ∧ (∀ n ∈ [20, 45], n ∉ heldSegs (pending st).claim.held)
            ∧ [20, 45].find? (fun x => (pending st).claim.record.segs.contains x) = some 45
            ∧ (pending st).claim.record.segs.find? (fun x => [20, 45].contains x) = some 45
            ∧ (pending st).claim.record.urgency < 3 ∧ (pending st).line.tx.length < 24)
      ∧ (∀ st ∈ [ClaimState.queuedR1, .queuedR2],
          (run .claimReceived (withFrame (queued (pending st) { claimEntry false 0 with inFlight := false }) 5 claim)).line.tx.length
              = (if st = .queuedR1 then 0 else 1)
            ∧ (run .claimReceived (withFrame (flying (pending st) (claimEntry false 0)) 5 claim)).claim.removal
              = some ⟨4, decide (st = .queuedR1)⟩) := by decide +kernel

/-- Matched by number and segment, the first segment and another; late on a RESERVED and an OCCUPIED segment. -/
theorem test_witness_ObjectionsEndClaims :
    (withFrame window1 5 (.object 4 44 .precedence 0 1)).line.rx
        = ⟨⟨255, 5, 1, .object 4 44 .precedence 0 1⟩, 40⟩ :: []
      ∧ window1.claim.record.matched 4 44 = true ∧ window1.claim.record.segs.head? = some 44
      ∧ window1.claim.record.segs.head? ≠ some 45 ∧ window1.line.tx.length < 24
      ∧ window1.claim.record.matched 4 13 = false ∧ markOf window1.claim.held 13 = some .reserved
      ∧ window1.claim.record.state.isPending = true ∧ moving.claim.record.matched 4 12 = false
      ∧ markOf moving.claim.held 12 = some .occupied ∧ moving.resp.hasPair 12 5 = false
      ∧ moving.control.state = .running ∧ moving.notice.fault = none := by decide +kernel

/-- Late objections: to a RESERVED segment with one before it and one after; to a segment not held, in CONTESTED on it and
not; of another edition, the mark clear and set. -/
theorem test_witness_ObjectionsEndClaims_late :
    let late := withFrame moving 5 (.object 9 13 .heldOccupied 0 1)
    moving.claim.held = [⟨12, .occupied⟩] ++ ⟨13, .reserved⟩ :: [⟨14, .reserved⟩]
      ∧ (heldSegs moving.claim.held).Nodup ∧ late.claim.record.matched 9 13 = false ∧ late.line.tx.length < 24
      ∧ (run .objectReceived late).claim.held = [⟨12, .occupied⟩]
      ∧ markOf moving.claim.held 44 = none ∧ contested.claim.record.state = .contested
      ∧ contested.claim.record.waitSeg = some 15 ∧ contested.claim.record.matched 9 15 = false
      ∧ markOf contested.claim.held 15 = none ∧ moving.claim.record.waitSeg ≠ some 44 ∧ CacheSound moving.cache
      ∧ 5 ∉ moving.resp.editionMarks ∧ RoomFor moving.notice .editionMismatch 1
      ∧ 5 ∈ (moving.setResp { moving.resp with editionMarks := [5] }).resp.editionMarks := by decide +kernel

/-- The cache told of a matched objection; a late one to an OCCUPIED segment whose pair is new, with room in the set and
with 32 pairs in it, and one whose pair is known. -/
theorem test_witness_ObjectionsEndClaims_told :
    let fullSet := moving.setResp { moving.resp with conflicts := List.replicate 32 ⟨1, 1⟩ }
    let known := moving.setResp { moving.resp with conflicts := [⟨12, 5⟩] }
    let late (s : State) := withFrame s 5 (.object 9 12 .heldOccupied 0 1)
    let told := run .objectReceived (withFrame window1 5 (.object 4 44 .heldOccupied 0 1))
    CacheSound window1.cache ∧ window1.claim.record.matched 4 44 = true
      ∧ told.cache.ways.map (fun e => (e.2.seg, e.2.holder)) = [(44, 5)]
      ∧ moving.resp.conflicts.length < 32 ∧ fullSet.resp.hasPair 12 5 = false ∧ ¬ fullSet.resp.conflicts.length < 32
      ∧ known.resp.hasPair 12 5 = true ∧ moving.claim.record.matched 9 12 = false
      ∧ RoomFor moving.notice .holdConflict 1 ∧ moving.orders.cancelMark = none
      ∧ (run .objectReceived (late moving)).resp.conflicts = [⟨12, 5⟩]
      ∧ (run .objectReceived (late fullSet)).resp.overflow = true
      ∧ (run .objectReceived (late known)).control.state = .running := by decide +kernel

theorem test_witness_TransmissionStartsWithTheHighestClass :
    let s := queued moving ⟨255, .beacon, 0, false, false⟩
    s.line.transmitter = .idle ∧ s.line.tx ≠ [] ∧ s.pos.centre = some ⟨12, 3200000, .forward⟩
      ∧ s.orders.list.find? (fun o => o.state == .active || o.state == .finishing) = some order7
      ∧ (∀ o ∈ idleCarrier.orders.list, o.state ≠ .active ∧ o.state ≠ .finishing)
      ∧ (∀ u ∈ [blocked, contested], (u.claim.record.state = .blocked ∨ u.claim.record.state = .contested)
          ∧ u.claim.record.waitSeg = some 15)
      ∧ s.claim.record.state ≠ .blocked ∧ s.claim.record.state ≠ .contested := by decide

/-- A CLAIM in flight of either round; a removed one with a WITHDRAW owed; a BEACON. -/
theorem test_witness_TransmissionsCompleteOrCollide_complete :
    let e := claimEntry false 0
    let s := flying (inRecord { ClaimRecord.initial with state := .queuedR1 }) e
    let r := (flying moving (claimEntry true 0)).setClaim { moving.claim with removal := some ⟨4, true⟩ }
    s.line.transmitter = .sending (s.frameOf e) (s.frameOf e).line ∧ s.line.tx.find? TxEntry.inFlight = some e
      ∧ e.kind = 2 ∧ e.removed = false ∧ s.claim.record.state = .queuedR1
      ∧ r.claim.removal = some ⟨4, true⟩ ∧ (claimEntry true 0).removed = true ∧ r.line.tx.length ≤ 24
      ∧ (⟨255, .beacon, 0, true, false⟩ : TxEntry).kind ≠ 2 := by decide +kernel

def backingOff : State := moving.setLine { moving.line with transmitter := .backoff 13 }

/-- A bit sent as 0 and one sent as 1; the first collision, that of a removed CLAIM, and the tenth. -/
theorem test_witness_TransmissionsCompleteOrCollide_collision :
    (∀ e ∈ [claimEntry false 0, claimEntry true 0, claimEntry false 9],
      let s := flying (inRecord { ClaimRecord.initial with state := .queuedR1 }) e
      s.line.tx.find? TxEntry.inFlight = some e ∧ (s.frameOf e).line[0]? ≠ some true
        ∧ (s.frameOf e).line[1]? = some true)
      ∧ (claimEntry false 0).attempts + 1 < 10 ∧ 10 ≤ (claimEntry false 9).attempts + 1
      ∧ backingOff.line.transmitter = .backoff 13 := by decide +kernel

/-- The tenth collision of a CLAIM of each round, of a removed one and of a RELAY, at the third discard of a run. -/
theorem test_witness_TransmissionsCompleteOrCollide_tenth :
    let relay : TxEntry := ⟨9, .fixed (.relay [7]), 9, true, false⟩
    let at' (st : ClaimState) (e : TxEntry) :=
      let s := flying (inRecord { window1.claim.record with state := st, windowTimer := none }) e
      s.setLine { s.line with discards := 2 }
    (∀ st ∈ [ClaimState.queuedR1, .queuedR2], ∀ e ∈ [claimEntry false 9, claimEntry true 9, relay],
      (at' st e).line.transmitter = .sending ((at' st e).frameOf e) ((at' st e).frameOf e).line
        ∧ (at' st e).line.tx.find? TxEntry.inFlight = some e ∧ ((at' st e).frameOf e).line[1]? = some true
        ∧ 10 ≤ e.attempts + 1 ∧ (at' st e).line.tx.length ≤ 24 ∧ 2 ≤ (at' st e).line.discards
        ∧ (at' st e).line.degraded = false ∧ RoomFor (at' st e).notice .relayDiscarded 2
        ∧ RoomFor (at' st e).notice .lineDegraded 2)
      ∧ relay.kind = 7 ∧ relay.removed = false
      ∧ (run (.collision 1) (at' .queuedR2 (claimEntry false 9))).line.tx
        = [⟨255, .fixed (.withdraw 4), 0, false, false⟩]
      ∧ (run (.collision 1) (at' .queuedR1 relay)).notice.queue.length = 2
      ∧ (run (.collision 1) (at' .queuedR1 relay)).line.degraded = true := by decide +kernel

end Sys2Proof.Tests
end

section
/-! PROOFS. The configuration commands in SETUP: LOAD_SEGMENT (R1), SET_STATION (R22), LOAD_TAG_WINDOW (R6) and
SET_EDITION (R3). -/

namespace Sys2Proof.Machine

/-- In SETUP a command whose arguments were read runs its own rule, and the reply is placed. -/
theorem State.hostCommand_inSetup {α : Type} {s u : State} {kind : Nat} {args : List Byte} {read : Option α} {a : α}
    (run : State → α → Answer) (h : s.executing kind args = some u) (hs : u.control.state = .setup)
    (hr : read = some a) :
    s.hostCommand kind args (fun v => v.checked read inSetup run)
      = (run u a).state.placeReply ⟨kind, (run u a).status, (run u a).results⟩ := by
  rw [State.hostCommand_of_executing s u kind args _ h, hr, State.checked_taken u a inSetup run (by simp [inSetup, hs])]

theorem segOk_iff (n : Nat) : segOk n = true ↔ 1 ≤ n ∧ n ≤ 240 := by simp [segOk]

theorem stationOk_iff (n : Nat) : stationOk n = true ↔ 1 ≤ n ∧ n ≤ 60 := by simp [stationOk]

/-! ## The rows in SETUP -/

theorem exec_setStation_inSetup {s u : State} {args : List Byte} {a : StationArgs}
    (h : s.executing 1 args = some u) (hs : u.control.state = .setup) (hr : readStation args = some a) :
    exec (.setStation args) s
      = .next ((u.setStation a).state.placeReply ⟨1, (u.setStation a).status, (u.setStation a).results⟩) :=
  congrArg _ (State.hostCommand_inSetup State.setStation h hs hr)

theorem exec_loadSegment_inSetup {s u : State} {args : List Byte} {a : SegmentArgs}
    (h : s.executing 3 args = some u) (hs : u.control.state = .setup) (hr : readSegment args = some a) :
    exec (.loadSegment args) s
      = .next ((u.loadSegment a).state.placeReply ⟨3, (u.loadSegment a).status, (u.loadSegment a).results⟩) :=
  congrArg _ (State.hostCommand_inSetup State.loadSegment h hs hr)

theorem exec_loadTagWindow_inSetup {s u : State} {args : List Byte} {a : Nat × TagWindow}
    (h : s.executing 4 args = some u) (hs : u.control.state = .setup) (hr : readWindow args = some a) :
    exec (.loadTagWindow args) s
      = .next ((u.loadTagWindow a).state.placeReply ⟨4, (u.loadTagWindow a).status, (u.loadTagWindow a).results⟩) :=
  congrArg _ (State.hostCommand_inSetup State.loadTagWindow h hs hr)

theorem exec_setEdition_inSetup {s u : State} {args : List Byte} {e : Nat}
    (h : s.executing 5 args = some u) (hs : u.control.state = .setup) (hr : read2 args = some e) :
    exec (.setEdition args) s
      = .next ((u.setEdition e).state.placeReply ⟨5, (u.setEdition e).status, (u.setEdition e).results⟩) :=
  congrArg _ (State.hostCommand_inSetup State.setEdition h hs hr)

/-! ## SET_STATION, LOAD_TAG_WINDOW, SET_EDITION -/

theorem State.setStation_of_ok (u : State) (a : StationArgs) (h : 1 ≤ a.number ∧ a.number ≤ 60) :
    u.setStation a
      = ⟨u.setControl { u.control with number := a.number, group1 := a.group1, group2 := a.group2 }, .done, []⟩ := by
  simp [State.setStation, (stationOk_iff _).2 h]

theorem State.setStation_of_not_ok (u : State) (a : StationArgs) (h : ¬(1 ≤ a.number ∧ a.number ≤ 60)) :
    u.setStation a = ⟨u, .refusedArgument, []⟩ := by
  rw [← stationOk_iff] at h
  simp [State.setStation, h, State.refuse]

theorem State.loadTagWindow_of_ok (u : State) (i : Nat) (w : TagWindow) (hi : i < 8)
    (hb : 1 ≤ w.base ∧ w.base ≤ 240) :
    u.loadTagWindow (i, w) = ⟨u.setPos { u.pos with windows := u.pos.windows.set i w }, .done, []⟩ := by
  simp [State.loadTagWindow, hi, (segOk_iff _).2 hb]

theorem State.loadTagWindow_of_not_ok (u : State) (i : Nat) (w : TagWindow)
    (h : 8 ≤ i ∨ w.base = 0 ∨ 240 < w.base) : u.loadTagWindow (i, w) = ⟨u, .refusedArgument, []⟩ := by
  unfold State.loadTagWindow
  split
  · have hb : ¬ segOk w.base = true := by rw [segOk_iff]; omega
    simp [hb, State.refuse]
  · rfl

theorem State.setEdition_of_pos (u : State) (e : Nat) (h : e ≠ 0) :
    u.setEdition e = ⟨u.setPos { u.pos with edition := max 1 e }, .done, []⟩ := by
  simp [State.setEdition, statusOf, h]

theorem State.setEdition_of_zero (u : State) (e : Nat) (h : e = 0) :
    u.setEdition e = ⟨u.setPos { u.pos with edition := max 1 e }, .clamped, [1, 0]⟩ := by
  simp [State.setEdition, statusOf, h, bytes2]

/-! ## LOAD_SEGMENT -/

theorem readSegKind_isNone_iff (n : Nat) : (readSegKind n).isNone = true ↔ ¬n < 4 := by simp [readSegKind]

theorem readEnd_isSome_iff (n : Nat) : (readEnd n).isSome = true ↔ n < 2 := by simp [readEnd]

theorem readSegKind_code {n : Nat} (h : n < 4) : ((readSegKind n).getD .lane).code = n := by
  interval_cases n <;> rfl

theorem readEnd_code {n : Nat} (h : n < 2) : (readEnd n).map End.code = some n := by
  interval_cases n <;> rfl

theorem linkOk_iff (l : Nat × Nat) : linkOk l = true ↔ (1 ≤ l.1 ∧ l.1 ≤ 240) ∧ l.2 < 2 := by
  simp [linkOk, segOk_iff, readEnd_isSome_iff]

/-- Each condition of R1 holds exactly where its test does not fire. -/
theorem SegmentArgs.failed_tests (a : SegmentArgs) :
    (Safety.SegmentCheck a 1 ↔ ¬(!segOk a.number) = true)
      ∧ (Safety.SegmentCheck a 2 ↔ ¬(readSegKind a.kind).isNone = true)
      ∧ (Safety.SegmentCheck a 3 ↔ ¬(2 < a.aLinks.length ∨ 2 < a.bLinks.length))
      ∧ (Safety.SegmentCheck a 4 ↔ ¬(!(a.aLinks.all linkOk && a.bLinks.all linkOk)) = true)
      ∧ (Safety.SegmentCheck a 5 ↔ ¬(a.aLinks ++ a.bLinks).any (fun l => l.1 == a.number) = true)
      ∧ (Safety.SegmentCheck a 6
          ↔ ¬(!(decide (a.aLinks.map Prod.fst).Nodup && decide (a.bLinks.map Prod.fst).Nodup)) = true) := by
  refine ⟨?_, ?_, ?_, ?_, ?_, ?_⟩
  · simp only [Safety.SegmentCheck, ← segOk_iff]; simp
  · rw [readSegKind_isNone_iff, not_not]; rfl
  · simp only [Safety.SegmentCheck]; omega
  · simp only [Safety.SegmentCheck, ← linkOk_iff, List.forall_mem_append]; simp
  · simp only [Safety.SegmentCheck, List.any_eq_true, beq_iff_eq, not_exists, not_and, ne_eq]
  · simp [Safety.SegmentCheck]

theorem SegmentArgs.failed_of_checks (a : SegmentArgs) (h : ∀ n, 1 ≤ n → n ≤ 6 → Safety.SegmentCheck a n) :
    a.failed = none := by
  obtain ⟨t1, t2, t3, t4, t5, t6⟩ := a.failed_tests
  unfold SegmentArgs.failed
  rw [if_neg (t1.1 (h 1 (by decide) (by decide))), if_neg (t2.1 (h 2 (by decide) (by decide))),
    if_neg (t3.1 (h 3 (by decide) (by decide))), if_neg (t4.1 (h 4 (by decide) (by decide))),
    if_neg (t5.1 (h 5 (by decide) (by decide))), if_neg (t6.1 (h 6 (by decide) (by decide)))]

/-- The check names the first condition that fails. -/
theorem SegmentArgs.failed_of_first (a : SegmentArgs) (n : Nat) (h1 : 1 ≤ n) (h6 : n ≤ 6)
    (hn : ¬Safety.SegmentCheck a n) (hbefore : ∀ m, 1 ≤ m → m < n → Safety.SegmentCheck a m) :
    a.failed = some n := by
  obtain ⟨t1, t2, t3, t4, t5, t6⟩ := a.failed_tests
  unfold SegmentArgs.failed
  by_cases n1 : n = 1
  · subst n1; rw [if_pos (not_imp_comm.1 t1.2 hn)]
  rw [if_neg (t1.1 (hbefore 1 (by decide) (by omega)))]
  by_cases n2 : n = 2
  · subst n2; rw [if_pos (not_imp_comm.1 t2.2 hn)]
  rw [if_neg (t2.1 (hbefore 2 (by decide) (by omega)))]
  by_cases n3 : n = 3
  · subst n3; rw [if_pos (not_imp_comm.1 t3.2 hn)]
  rw [if_neg (t3.1 (hbefore 3 (by decide) (by omega)))]
  by_cases n4 : n = 4
  · subst n4; rw [if_pos (not_imp_comm.1 t4.2 hn)]
  rw [if_neg (t4.1 (hbefore 4 (by decide) (by omega)))]
  by_cases n5 : n = 5
  · subst n5; rw [if_pos (not_imp_comm.1 t5.2 hn)]
  rw [if_neg (t5.1 (hbefore 5 (by decide) (by omega)))]
  obtain rfl : n = 6 := by omega
  rw [if_pos (not_imp_comm.1 t6.2 hn)]

theorem readLink_codes {ls : List (Nat × Nat)} (h : ∀ l ∈ ls, l.2 < 2) :
    (ls.filterMap readLink).map (fun l => (l.seg, l.far.code)) = ls := by
  induction ls with
  | nil => rfl
  | cons l ls ih =>
    obtain ⟨n, e⟩ := l
    have hcode := readEnd_code (h (n, e) List.mem_cons_self)
    obtain ⟨x, hx, hxe⟩ := Option.map_eq_some_iff.1 hcode
    simp [readLink, hx, hxe, ih (fun l hl => h l (List.mem_cons_of_mem _ hl))]

theorem clamp_eq_iff {lo hi v : Nat} (h : lo ≤ hi) : clamp lo hi v = v ↔ lo ≤ v ∧ v ≤ hi := by
  unfold clamp; omega

theorem State.loadSegment_of_failed (u : State) (a : SegmentArgs) (n : Nat) (h : a.failed = some n) :
    u.loadSegment a = ⟨u, .refusedArgument, byte n⟩ := by
  simp [State.loadSegment, h, State.refuse]

theorem State.loadSegment_of_passed (u : State) (a : SegmentArgs) (h : a.failed = none) :
    u.loadSegment a
      = ⟨u.setPos { u.pos with map := Table.insert u.pos.map a.number a.record },
          if 500 ≤ a.length ∧ a.length ≤ 12000 ∧ 100 ≤ a.cap ∧ a.cap ≤ 1500 then .done else .clamped,
          if 500 ≤ a.length ∧ a.length ≤ 12000 ∧ 100 ≤ a.cap ∧ a.cap ≤ 1500 then []
          else bytes2 a.record.length ++ bytes2 a.record.cap⟩ := by
  have hrange : a.record.length = a.length ∧ a.record.cap = a.cap
      ↔ 500 ≤ a.length ∧ a.length ≤ 12000 ∧ 100 ≤ a.cap ∧ a.cap ≤ 1500 := by
    simp only [SegmentArgs.record, clamp_eq_iff (by decide : 500 ≤ 12000), clamp_eq_iff (by decide : 100 ≤ 1500),
      and_assoc]
  simp only [State.loadSegment, h, hrange]
  split <;> rfl

end Sys2Proof.Machine

namespace Sys2Proof.Proofs

open Sys2Proof.Machine Sys2Proof.Safety

/-- Settles O19: each of the three rows runs its command's rule, which has one case for arguments in range and one for
the others. -/
theorem stationWindowsAndEditionAreSet : Obligations.StationWindowsAndEditionAreSet := by
  refine ⟨fun s u n v1 m1 v2 m2 h hs => ⟨fun hn => ?_, fun hn => ?_⟩,
    fun s u i f0 f1 l0 l1 b h hs => ⟨fun hi hlo hhi => ?_, fun hbad => ?_⟩, fun s u e0 e1 h hs => ?_⟩
  · rw [exec_setStation_inSetup h hs rfl, State.setStation_of_ok u _ hn]
  · rw [exec_setStation_inSetup h hs rfl, State.setStation_of_not_ok u _ hn]
  · rw [exec_loadTagWindow_inSetup h hs rfl, State.loadTagWindow_of_ok u _ _ hi ⟨hlo, hhi⟩]; rfl
  · rw [exec_loadTagWindow_inSetup h hs rfl, State.loadTagWindow_of_not_ok u _ _ hbad]
  · split
    next he => rw [exec_setEdition_inSetup h hs rfl, State.setEdition_of_zero u (nat2 e0 e1) he]; rfl
    next he => rw [exec_setEdition_inSetup h hs rfl, State.setEdition_of_pos u (nat2 e0 e1) he]; rfl

/-- Settles O18: arguments that pass the six checks are written as the record they name, and the first check that fails
is the one the reply names. -/
theorem loadSegmentWritesTheRecord : Obligations.LoadSegmentWritesTheRecord := by
  refine ⟨fun s u args a h hs hr h1 h240 hk ha hb hl hna hnb => ⟨a.record, ?_, rfl, rfl, readSegKind_code hk, ?_, ?_⟩,
    fun s u args a n h hs hr h1 h6 hn hbefore => ?_⟩
  · have hpass : a.failed = none := by
      refine a.failed_of_checks (fun n hn hn6 => ?_)
      interval_cases n
      · exact ⟨h1, h240⟩
      · exact hk
      · exact ⟨ha, hb⟩
      · exact fun l hmem => ⟨⟨(hl l hmem).1, (hl l hmem).2.1⟩, (hl l hmem).2.2.1⟩
      · exact fun l hmem => (hl l hmem).2.2.2
      · exact ⟨hna, hnb⟩
    rw [exec_loadSegment_inSetup h hs hr, State.loadSegment_of_passed u a hpass]
    split <;> rfl
  · exact readLink_codes (fun l hmem => (hl l (List.mem_append_left _ hmem)).2.2.1)
  · exact readLink_codes (fun l hmem => (hl l (List.mem_append_right _ hmem)).2.2.1)
  · rw [exec_loadSegment_inSetup h hs hr, State.loadSegment_of_failed u a n (a.failed_of_first n h1 h6 hn hbefore)]
    rfl

end Sys2Proof.Proofs

end

section
/-! PROOFS. The configuration (R3, R6, R22, R184) and the SETUP state: which operations leave both as they are, and
that outside SETUP no command but power-on reset changes the configuration. -/

namespace Sys2Proof.Machine

open Sys2Proof.Safety

/-- The configuration is unchanged, and the station is in SETUP afterwards exactly where it was before. -/
abbrev SetupKept (s t : State) : Prop :=
  ConfigurationKept s t ∧ (t.control.state = .setup ↔ s.control.state = .setup)

/-- What every step of a fold keeps of configuration and SETUP, the fold keeps. -/
theorem foldl_setupKept {α : Type} (f : State → α → State) (h : ∀ s x, SetupKept s (f s x)) (l : List α) :
    ∀ s, SetupKept s (l.foldl f s) := by
  induction l with
  | nil => intro s; simp [SetupKept, ConfigurationKept]
  | cons x l ih =>
    intro s
    have hx := h s x
    have hrest := ih (f s x)
    simp_all [SetupKept, ConfigurationKept]

/-! ## The expected marker and the orders -/

@[simp] theorem State.chooseExpected_setupKept (s : State) : SetupKept s s.chooseExpected := by
  simp [SetupKept, ConfigurationKept, State.chooseExpected]

@[simp] theorem State.runChanged_setupKept (s : State) (l : List Nat) : SetupKept s (s.runChanged l) := by
  unfold State.runChanged; split <;> simp [SetupKept, ConfigurationKept]

@[simp] theorem State.removeOrder_setupKept (s : State) (n : Nat) : SetupKept s (s.removeOrder n) := by
  simp [SetupKept, ConfigurationKept, State.removeOrder]

@[simp] theorem State.orderDone_setupKept (s : State) (t : Nat) (o : Order) : SetupKept s (s.orderDone t o) := by
  simp [SetupKept, ConfigurationKept, State.orderDone]

@[simp] theorem State.orderCancelled_setupKept (s : State) (t : Nat) (o : Order) :
    SetupKept s (s.orderCancelled t o) := by
  simp [SetupKept, ConfigurationKept, State.orderCancelled]

@[simp] theorem State.orderFailed_setupKept (s : State) (t : Nat) (o : Order) (w : FailReason) (n : Option Nat) :
    SetupKept s (s.orderFailed t o w n) := by
  simp [SetupKept, ConfigurationKept, State.orderFailed]

@[simp] theorem State.suspend_setupKept (s : State) (n : Nat) (w : SuspendReason) : SetupKept s (s.suspend n w) := by
  simp [SetupKept, ConfigurationKept, State.suspend]

@[simp] theorem State.cancelMarked_setupKept (s : State) (t : Nat) (o : Order) : SetupKept s (s.cancelMarked t o) := by
  simp [SetupKept, ConfigurationKept, State.cancelMarked]

@[simp] theorem State.haltOrders_setupKept (s : State) (t : Nat) : SetupKept s (s.haltOrders t) := by
  unfold State.haltOrders; (repeat' split) <;> simp [SetupKept, ConfigurationKept]

/-! ## The station -/

@[simp] theorem State.addCause_setupKept (s : State) (c : Cause) : SetupKept s (s.addCause c) := by
  simp [SetupKept, ConfigurationKept, State.addCause]

@[simp] theorem State.dropCause_setupKept (s : State) (c : Cause) : SetupKept s (s.dropCause c) := by
  simp [SetupKept, ConfigurationKept, State.dropCause]

@[simp] theorem State.settleConflicts_setupKept (s : State) : SetupKept s s.settleConflicts := by
  unfold State.settleConflicts; split <;> simp [SetupKept, ConfigurationKept]

/-- A transition sets the state and no other field of Station Control. -/
@[simp] theorem State.changeState_control (s : State) (t : Nat) (x : StationState) :
    (s.changeState t x).control = { s.control with state := x } := by
  simp [State.changeState]

/-- The control block after the entry to HALTED. -/
@[simp] theorem State.enterHalted_control (s : State) (t : Nat) :
    (s.enterHalted t).control = { s.control with state := .halted, joinTimer := none } := by
  simp [State.enterHalted]

theorem State.enterHalted_configurationKept (s : State) (t : Nat) : ConfigurationKept s (s.enterHalted t) := by
  simp [ConfigurationKept, State.enterHalted]

@[simp] theorem State.halt_setupKept (s : State) (t : Nat) (c : Cause) : SetupKept s (s.halt t c) := by
  have h := State.enterHalted_configurationKept (s.addCause c) t
  unfold State.halt
  split <;> simp_all [SetupKept, ConfigurationKept]

@[simp] theorem State.haltWith_setupKept (s : State) (t : Nat) (r : HaltReport) : SetupKept s (s.haltWith t r) := by
  simp [SetupKept, ConfigurationKept, State.haltWith]

@[simp] theorem State.overrunCheck_setupKept (s : State) (t : Nat) : SetupKept s (s.overrunCheck t) := by
  unfold State.overrunCheck; (repeat' split) <;> simp [SetupKept, ConfigurationKept]

@[simp] theorem State.newAuthority_setupKept (s : State) (t : Nat) : SetupKept s (s.newAuthority t) := by
  simp [SetupKept, ConfigurationKept, State.newAuthority]

@[simp] theorem State.releaseReserved_setupKept (s : State) (t : Nat) : SetupKept s (s.releaseReserved t) := by
  unfold State.releaseReserved; split <;> simp [SetupKept, ConfigurationKept]

@[simp] theorem State.stopRelease_setupKept (s : State) (t : Nat) : SetupKept s (s.stopRelease t) := by
  simp [SetupKept, ConfigurationKept, State.stopRelease]

/-! ## Position and lift -/

@[simp] theorem State.positionLost_setupKept (s : State) (t n : Nat) : SetupKept s (s.positionLost t n) := by
  simp [SetupKept, ConfigurationKept, State.positionLost]

@[simp] theorem State.reckon_setupKept (s : State) (t um : Nat) : SetupKept s (s.reckon t um) := by
  simp only [State.reckon]; (repeat' split) <;> simp [SetupKept, ConfigurationKept]

@[simp] theorem State.missCheck_setupKept (s : State) (t : Nat) : SetupKept s (s.missCheck t) := by
  unfold State.missCheck; (repeat' split) <;> simp [SetupKept, ConfigurationKept]

@[simp] theorem State.positionStep_setupKept (s : State) (t n : Nat) : SetupKept s (s.positionStep t n) := by
  simp [SetupKept, ConfigurationKept, State.positionStep]

@[simp] theorem State.unmappedRead_setupKept (s : State) (t n : Nat) : SetupKept s (s.unmappedRead t n) := by
  unfold State.unmappedRead; split <;> simp [SetupKept, ConfigurationKept]

@[simp] theorem State.positionConflict_setupKept (s : State) (t n : Nat) (d : ConflictDetail) :
    SetupKept s (s.positionConflict t n d) := by
  simp [SetupKept, ConfigurationKept, State.positionConflict]

@[simp] theorem State.snap_setupKept (s : State) (t : Nat) (c : Centre) : SetupKept s (s.snap t c) := by
  simp [SetupKept, ConfigurationKept, State.snap]

@[simp] theorem State.mappedRead_setupKept (s : State) (t : Nat) (m : Marker) : SetupKept s (s.mappedRead t m) := by
  simp only [State.mappedRead]; (repeat' split) <;> simp [SetupKept, ConfigurationKept]

@[simp] theorem State.tagRead_setupKept (s : State) (t code : Nat) : SetupKept s (s.tagRead t code) := by
  unfold State.tagRead; (repeat' split) <;> simp [SetupKept, ConfigurationKept]

@[simp] theorem State.liftSuccess_setupKept (s : State) (t : Nat) : SetupKept s (s.liftSuccess t) := by
  unfold State.liftSuccess; (repeat' split) <;> simp [SetupKept, ConfigurationKept]

@[simp] theorem State.liftReached_setupKept (s : State) (t : Nat) : SetupKept s (s.liftReached t) := by
  unfold State.liftReached; split <;> simp [SetupKept, ConfigurationKept]

@[simp] theorem State.judgeSensors_setupKept (s : State) (t : Nat) : SetupKept s (s.judgeSensors t) := by
  unfold State.judgeSensors; split <;> simp [SetupKept, ConfigurationKept]

@[simp] theorem State.beginLift_setupKept (s : State) (t n : Nat) (a : EndAction) :
    SetupKept s (s.beginLift t n a) := by
  unfold State.beginLift; split <;> simp [SetupKept, ConfigurationKept]

@[simp] theorem State.liftTimeout_setupKept (s : State) (t : Nat) : SetupKept s (s.liftTimeout t) := by
  unfold State.liftTimeout; (repeat' split) <;> simp [SetupKept, ConfigurationKept]

/-! ## Frames from the buffer -/

@[simp] theorem State.holdConflict_setupKept (s : State) (t x n : Nat) (d : Option Nat) :
    SetupKept s (s.holdConflict t x n d) := by
  unfold State.holdConflict; split <;> simp [SetupKept, ConfigurationKept]

@[simp] theorem State.conflictCheck_setupKept (s : State) (t x : Nat) (own : List HeldEntry) (e : HeldEntry) :
    SetupKept s (s.conflictCheck t x own e) := by
  unfold State.conflictCheck; split <;> simp [SetupKept, ConfigurationKept]

@[simp] theorem State.omissionCheck_setupKept (s : State) (x : Nat) (l : List Nat) :
    SetupKept s (s.omissionCheck x l) := by
  simp [SetupKept, ConfigurationKept, State.omissionCheck]

@[simp] theorem State.responderBeacon_setupKept (s : State) (t x e : Nat) (l : List HeldEntry) :
    SetupKept s (s.responderBeacon t x e l) := by
  have h := foldl_setupKept (fun u e => u.conflictCheck t x s.claim.held e)
    (fun _ _ => by simp [SetupKept, ConfigurationKept]) l s
  unfold State.responderBeacon
  dsimp only
  split <;> simp_all [SetupKept, ConfigurationKept]

@[simp] theorem State.takeBeacon_setupKept (s : State) (t x e : Nat) (b : BeaconBody) :
    SetupKept s (s.takeBeacon t x e b) := by
  simp [SetupKept, ConfigurationKept, State.takeBeacon]

@[simp] theorem State.lateReserved_setupKept (s : State) (t x n : Nat) (m : Mark) :
    SetupKept s (s.lateReserved t x n m) := by
  simp [SetupKept, ConfigurationKept, State.lateReserved]

@[simp] theorem State.lateObjection_setupKept (s : State) (t x e n : Nat) (w : Reason) :
    SetupKept s (s.lateObjection t x e n w) := by
  unfold State.lateObjection; (repeat' split) <;> simp [SetupKept, ConfigurationKept]

@[simp] theorem State.takeObject_setupKept (s : State) (t x e k n : Nat) (w : Reason) (r : PeerReport) :
    SetupKept s (s.takeObject t x e k n w r) := by
  simp only [State.takeObject]; (repeat' split) <;> simp [SetupKept, ConfigurationKept]

@[simp] theorem State.process_setupKept (s : State) (r : Received) : SetupKept s (s.process r) := by
  simp only [State.process]; split <;> simp [SetupKept, ConfigurationKept]

@[simp] theorem State.takeHead_setupKept (s : State) : SetupKept s s.takeHead := by
  unfold State.takeHead; split <;> simp [SetupKept, ConfigurationKept]

@[simp] theorem State.takeKind_setupKept (s : State) (k : Nat) : SetupKept s (s.takeKind k) := by
  unfold State.takeKind; (repeat' split) <;> simp [SetupKept, ConfigurationKept]

@[simp] theorem State.takeFrames_setupKept (n : Nat) (s : State) : SetupKept s (State.takeFrames n s) := by
  induction n generalizing s with
  | zero => simp [SetupKept, ConfigurationKept, State.takeFrames]
  | succ n ih =>
    have h := ih s.takeHead
    rw [State.takeFrames_succ]
    simp_all [SetupKept, ConfigurationKept]


/-! ## The control step -/

@[simp] theorem State.figuresStep_setupKept (s : State) (t : Nat) : SetupKept s (s.figuresStep t) := by
  simp [SetupKept, ConfigurationKept, State.figuresStep]

@[simp] theorem State.obstacleCheck_setupKept (s : State) (t : Nat) : SetupKept s (s.obstacleCheck t) := by
  unfold State.obstacleCheck; (repeat' split) <;> simp [SetupKept, ConfigurationKept]

@[simp] theorem State.raiseStall_setupKept (s : State) (t : Nat) : SetupKept s (s.raiseStall t) := by
  simp [SetupKept, ConfigurationKept, State.raiseStall]

@[simp] theorem State.stallStep_setupKept (s : State) (t : Nat) : SetupKept s (s.stallStep t) := by
  unfold State.stallStep; (repeat' split) <;> simp [SetupKept, ConfigurationKept]

@[simp] theorem State.emergencyComplete_setupKept (s : State) (t : Nat) : SetupKept s (s.emergencyComplete t) := by
  simp only [State.emergencyComplete]; split <;> simp [SetupKept, ConfigurationKept]

@[simp] theorem State.latchStep_setupKept (s : State) (t : Nat) : SetupKept s (s.latchStep t) := by
  unfold State.latchStep; (repeat' split) <;> simp [SetupKept, ConfigurationKept]

@[simp] theorem State.yieldStopped_setupKept (s : State) (t : Nat) : SetupKept s (s.yieldStopped t) := by
  unfold State.yieldStopped; (repeat' split) <;> simp [SetupKept, ConfigurationKept]

@[simp] theorem State.cancelStopped_setupKept (s : State) (t : Nat) : SetupKept s (s.cancelStopped t) := by
  unfold State.cancelStopped; (repeat' split) <;> simp [SetupKept, ConfigurationKept]

@[simp] theorem State.serviceComplete_setupKept (s : State) (t : Nat) : SetupKept s (s.serviceComplete t) := by
  simp only [State.serviceComplete]; (repeat' split) <;> simp [SetupKept, ConfigurationKept]

@[simp] theorem State.serviceStep_setupKept (s : State) (t : Nat) : SetupKept s (s.serviceStep t) := by
  unfold State.serviceStep; (repeat' split) <;> simp [SetupKept, ConfigurationKept]

@[simp] theorem State.takeReversal_setupKept (s : State) (t : Nat) : SetupKept s (s.takeReversal t) := by
  simp [SetupKept, ConfigurationKept, State.takeReversal]

@[simp] theorem State.reversalStep_setupKept (s : State) (t : Nat) : SetupKept s (s.reversalStep t) := by
  simp only [State.reversalStep]; (repeat' split) <;> simp [SetupKept, ConfigurationKept]

@[simp] theorem State.endAction_setupKept (s : State) (t : Nat) (o : Order) : SetupKept s (s.endAction t o) := by
  unfold State.endAction; (repeat' split) <;> simp [SetupKept, ConfigurationKept]

@[simp] theorem State.arrivalStep_setupKept (s : State) (t : Nat) (b : Bool) : SetupKept s (s.arrivalStep t b) := by
  unfold State.arrivalStep; (repeat' split) <;> simp [SetupKept, ConfigurationKept]

@[simp] theorem State.activate_setupKept (s : State) (t : Nat) (o : Order) (p : List Nat) :
    SetupKept s (s.activate t o p) := by
  simp [SetupKept, ConfigurationKept, State.activate]

theorem State.judgeActivation_setupKept (t : Nat) : ∀ (n : Nat) (s : State), SetupKept s (s.judgeActivation t n) := by
  intro n
  induction n with
  | zero => intro s; simp [SetupKept, ConfigurationKept, State.judgeActivation]
  | succ n ih =>
    intro s
    unfold State.judgeActivation
    (repeat' split) <;> simp [SetupKept, ConfigurationKept, ih]

@[simp] theorem State.activationStep_setupKept (s : State) (t : Nat) : SetupKept s (s.activationStep t) := by
  have h := State.judgeActivation_setupKept t 9 s
  unfold State.activationStep
  split
  · exact h
  · simp [SetupKept, ConfigurationKept]

@[simp] theorem State.motionStep_setupKept (s : State) (t : Nat) : SetupKept s (s.motionStep t) := by
  simp [SetupKept, ConfigurationKept, State.motionStep]

@[simp] theorem State.controlStep_setupKept (s : State) : SetupKept s s.controlStep := by
  simp only [State.controlStep]; split <;> simp [SetupKept, ConfigurationKept]

/-! ## The line -/

@[simp] theorem State.countLine_setupKept (s : State) (f : LineCounters → LineCounters) :
    SetupKept s (s.countLine f) := by
  simp [SetupKept, ConfigurationKept, State.countLine]

@[simp] theorem State.duplicateFrame_setupKept (s : State) (t : Nat) (f : Frame) :
    SetupKept s (s.duplicateFrame t f) := by
  unfold State.duplicateFrame; (repeat' split) <;> simp [SetupKept, ConfigurationKept]

@[simp] theorem State.bufferFrame_setupKept (s : State) (t : Nat) (f : Frame) : SetupKept s (s.bufferFrame t f) := by
  unfold State.bufferFrame; (repeat' split) <;> simp [SetupKept, ConfigurationKept]

@[simp] theorem State.goodFrame_setupKept (s : State) (t : Nat) (f : Frame) : SetupKept s (s.goodFrame t f) := by
  unfold State.goodFrame; (repeat' split) <;> simp [SetupKept, ConfigurationKept]

@[simp] theorem State.closeFrame_setupKept (s : State) (t : Nat) (c : Closing) : SetupKept s (s.closeFrame t c) := by
  unfold State.closeFrame; (repeat' split) <;> simp [SetupKept, ConfigurationKept]

@[simp] theorem State.receive_setupKept (s : State) (t : Nat) (bits : List Bool) : SetupKept s (s.receive t bits) := by
  have h := foldl_setupKept (fun u c => u.closeFrame t c) (fun _ _ => by simp [SetupKept, ConfigurationKept])
  simp only [State.receive]
  split
  · simp [SetupKept, ConfigurationKept]
  · simpa [SetupKept, ConfigurationKept] using
      h _ (s.setLine { s.line with receiver := (s.line.receiver.takeAll bits).1 })

@[simp] theorem State.beginSending_setupKept (s : State) : SetupKept s (s.beginSending) := by
  unfold State.beginSending; (repeat' split) <;> simp [SetupKept, ConfigurationKept]

@[simp] theorem State.roundSent_setupKept (s : State) : SetupKept s (s.roundSent) := by
  unfold State.roundSent; (repeat' split) <;> simp [SetupKept, ConfigurationKept]

@[simp] theorem State.removalSent_setupKept (s : State) (t : Nat) : SetupKept s (s.removalSent t) := by
  simp only [State.removalSent]; (repeat' split) <;> simp [SetupKept, ConfigurationKept]

@[simp] theorem State.sent_setupKept (s : State) (t : Nat) (e : TxEntry) : SetupKept s (s.sent t e) := by
  simp only [State.sent]; (repeat' split) <;> simp [SetupKept, ConfigurationKept]

@[simp] theorem State.completeSending_setupKept (s : State) : SetupKept s (s.completeSending) := by
  unfold State.completeSending; (repeat' split) <;> simp [SetupKept, ConfigurationKept]

@[simp] theorem State.tellOwner_setupKept (s : State) (t : Nat) (e : TxEntry) : SetupKept s (s.tellOwner t e) := by
  simp only [State.tellOwner, State.removalNotSent]; (repeat' split) <;> simp [SetupKept, ConfigurationKept]

@[simp] theorem State.degradeCheck_setupKept (s : State) (t : Nat) : SetupKept s (s.degradeCheck t) := by
  unfold State.degradeCheck; (repeat' split) <;> simp [SetupKept, ConfigurationKept]

@[simp] theorem State.afterCollision_setupKept (s : State) (t bit n : Nat) (bits : List Bool) (e : TxEntry) :
    SetupKept s (s.afterCollision t bit n bits e) := by
  simp only [State.afterCollision, State.removalNotSent]; (repeat' split) <;> simp [SetupKept, ConfigurationKept]

@[simp] theorem State.collide_setupKept (s : State) (bit : Nat) : SetupKept s (s.collide bit) := by
  unfold State.collide; (repeat' split) <;> simp [SetupKept, ConfigurationKept]

@[simp] theorem State.endBackoff_setupKept (s : State) : SetupKept s (s.endBackoff) := by
  unfold State.endBackoff; (repeat' split) <;> simp [SetupKept, ConfigurationKept]

/-! ## Clocks -/

@[simp] theorem State.beaconDue_setupKept (s : State) : SetupKept s (s.beaconDue) := by
  unfold State.beaconDue; (repeat' split) <;> simp [SetupKept, ConfigurationKept]

@[simp] theorem State.windowR1Due_setupKept (s : State) : SetupKept s (s.windowR1Due) := by
  unfold State.windowR1Due State.secondRound; split <;> simp [SetupKept, ConfigurationKept]

@[simp] theorem State.grant_setupKept (s : State) (t : Nat) : SetupKept s (s.grant t) := by
  simp [SetupKept, ConfigurationKept, State.grant]

@[simp] theorem State.windowR2Due_setupKept (s : State) : SetupKept s (s.windowR2Due) := by
  unfold State.windowR2Due; (repeat' split) <;> simp [SetupKept, ConfigurationKept]

@[simp] theorem State.staleDue_setupKept (s : State) (k : Nat) : SetupKept s (s.staleDue k) := by
  unfold State.staleDue; (repeat' split) <;> simp [SetupKept, ConfigurationKept]

@[simp] theorem State.serviceStopDue_setupKept (s : State) : SetupKept s s.serviceStopDue := by
  unfold State.serviceStopDue; split <;> simp [SetupKept, ConfigurationKept]

@[simp] theorem State.emergencyStopDue_setupKept (s : State) : SetupKept s s.emergencyStopDue := by
  unfold State.emergencyStopDue; split <;> simp [SetupKept, ConfigurationKept]

@[simp] theorem State.stallDue_setupKept (s : State) : SetupKept s s.stallDue := by
  unfold State.stallDue; split <;> simp [SetupKept, ConfigurationKept]

@[simp] theorem State.waitDue_setupKept (s : State) : SetupKept s s.waitDue := by
  unfold State.waitDue; split <;> simp [SetupKept, ConfigurationKept, State.passWaitLimit]

@[simp] theorem State.contestDue_setupKept (s : State) : SetupKept s s.contestDue := by
  unfold State.contestDue; split <;> simp [SetupKept, ConfigurationKept]

@[simp] theorem State.holdoffDue_setupKept (s : State) : SetupKept s s.holdoffDue := by
  unfold State.holdoffDue; split <;> simp [SetupKept, ConfigurationKept]

@[simp] theorem State.liftDue_setupKept (s : State) : SetupKept s s.liftDue := by
  unfold State.liftDue; split <;> simp [SetupKept, ConfigurationKept]

theorem State.joinDue_configurationKept (s : State) : ConfigurationKept s s.joinDue := by
  unfold State.joinDue; split <;> simp [ConfigurationKept, State.joined]

/-! ## Host commands -/

@[simp] theorem State.clearJam_setupKept (s : State) (t : Nat) : SetupKept s (s.clearJam t) := by
  simp only [State.clearJam]; split <;> simp [SetupKept, ConfigurationKept]

@[simp] theorem State.lineReset_setupKept (s : State) (t : Nat) : SetupKept s (s.lineReset t) := by
  simp only [State.lineReset, State.relaysLost]; split <;> simp [SetupKept, ConfigurationKept]

@[simp] theorem State.forgetHoldings_setupKept (s : State) (ways : List Nat) : SetupKept s (s.forgetHoldings ways) :=
  foldl_setupKept (fun u k => u.freeWay none k) (fun _ _ => by simp [SetupKept, ConfigurationKept]) ways s

@[simp] theorem State.forgetWait_setupKept (s : State) (n : Nat) : SetupKept s (s.forgetWait n) := by
  simp only [State.forgetWait]; split <;> simp [SetupKept, ConfigurationKept]

@[simp] theorem State.forget_setupKept (s : State) (n : Nat) : SetupKept s (s.forget n) := by
  simp [SetupKept, ConfigurationKept, State.forget]

@[simp] theorem State.placeFront_setupKept (s : State) (t : Nat) (o : Order) : SetupKept s (s.placeFront t o) := by
  simp only [State.placeFront, State.setList, State.frontSuspend]
  (repeat' split) <;> simp [SetupKept, ConfigurationKept]

@[simp] theorem State.placeOrder_setupKept (s : State) (t : Nat) (o : Order) : SetupKept s (s.placeOrder t o) := by
  simp only [State.placeOrder, State.setList]; split <;> simp [SetupKept, ConfigurationKept]

theorem State.submitOrder_configurationKept (s : State) (a : OrderArgs) :
    ConfigurationKept s (s.submitOrder a).state := by
  simp only [State.submitOrder, State.refuse]; (repeat' split) <;> simp [ConfigurationKept]

theorem State.cancelOrder_configurationKept (s : State) (tag : Nat) :
    ConfigurationKept s (s.cancelOrder tag).state := by
  simp only [State.cancelOrder, State.refuse, State.cancelActive]; (repeat' split) <;> simp [ConfigurationKept]

theorem State.resume_configurationKept (s : State) : ConfigurationKept s s.resume.state := by
  simp only [State.resume, State.refuse, State.resumed]; (repeat' split) <;> simp [ConfigurationKept]

theorem State.restart_configurationKept (s : State) : ConfigurationKept s s.restart.state := by
  simp only [State.restart, State.refuse]
  split <;> simp [ConfigurationKept, State.restarted, PositionUnit.restart]

theorem State.sendRelay_configurationKept (s : State) (a : Nat × List Byte) :
    ConfigurationKept s (s.sendRelay a).state := by
  simp only [State.sendRelay, State.refuse]; (repeat' split) <;> simp [ConfigurationKept]

theorem State.clearLift_configurationKept (s : State) : ConfigurationKept s s.clearLift.state := by
  simp only [State.clearLift, State.refuse]; split <;> simp [ConfigurationKept]

theorem State.forgetStation_configurationKept (s : State) (n : Nat) :
    ConfigurationKept s (s.forgetStation n).state := by
  simp only [State.forgetStation, State.refuse]; split <;> simp [ConfigurationKept]

theorem State.readCacheEntry_configurationKept (s : State) (a : Nat × Nat) :
    ConfigurationKept s (s.readCacheEntry a).state := by
  simp only [State.readCacheEntry, State.refuse]; split <;> simp [ConfigurationKept]

theorem State.invalidateEntry_configurationKept (s : State) (a : Nat × Nat) :
    ConfigurationKept s (s.invalidateEntry a).state := by
  simp only [State.invalidateEntry, State.invalidated, State.refuse]; split <;> simp [ConfigurationKept]

theorem State.invalidateSegment_configurationKept (s : State) (n : Nat) :
    ConfigurationKept s (s.invalidateSegment n).state := by
  simp only [State.invalidateSegment, State.invalidated, State.refuse, State.invalidateFound]
  (repeat' split) <;> simp [ConfigurationKept]

theorem State.invalidateSet_configurationKept (s : State) (n : Nat) :
    ConfigurationKept s (s.invalidateSet n).state := by
  simp only [State.invalidateSet, State.invalidated, State.refuse, State.invalidateWays]
  split <;> simp [ConfigurationKept]

theorem State.enableNotices_configurationKept (s : State) (codes : List Nat) :
    ConfigurationKept s (s.enableNotices codes).state := by
  simp only [State.enableNotices, State.refuse]; split <;> simp [ConfigurationKept]

theorem State.disableNotices_configurationKept (s : State) (codes : List Nat) :
    ConfigurationKept s (s.disableNotices codes).state := by
  simp only [State.disableNotices, State.refuse]; split <;> simp [ConfigurationKept]

theorem State.transaction_configurationKept (s : State) (hdi : List Bool) (began : Bool) :
    ConfigurationKept s (s.transaction hdi began) := by
  simp only [State.transaction, State.judgeCommand, State.takeCommand]
  (repeat' split) <;> simp [ConfigurationKept]

/-! ## A host command outside SETUP -/

theorem configurationKept_refl (s : State) : ConfigurationKept s s := ⟨rfl, rfl, rfl, rfl, rfl, rfl, rfl⟩

theorem configurationKept_trans {s u t : State} (h : ConfigurationKept s u) (k : ConfigurationKept u t) :
    ConfigurationKept s t := by
  simp_all [ConfigurationKept]

/-- The frames that go before a command keep the configuration, and do not bring the station into SETUP. -/
theorem State.executing_setupKept {s u : State} {kind : Nat} {args : List Byte} (h : s.executing kind args = some u) :
    SetupKept s u := by
  have hframes := State.takeFrames_setupKept
  simp only [State.executing, State.hostReady, Option.map_eq_some_iff] at h
  obtain ⟨v, hv, rfl⟩ := h
  have hready : SetupKept s v := by
    split at hv
    · split at hv <;> simp_all [SetupKept, ConfigurationKept]
    all_goals cases hv; simp [SetupKept, ConfigurationKept, State.takeCommand]
  simp_all [SetupKept, ConfigurationKept]

/-- A command whose answer keeps the configuration outside SETUP keeps it outside SETUP. -/
theorem State.hostCommand_configurationKept {s : State} {kind : Nat} {args : List Byte} {run : State → Answer}
    (hs : s.control.state ≠ .setup)
    (h : ∀ u, u.control.state ≠ .setup → ConfigurationKept u (run u).state) :
    ConfigurationKept s (s.hostCommand kind args run) := by
  cases he : s.executing kind args with
  | none => rw [State.hostCommand_of_other s kind args run he]; simp [ConfigurationKept]
  | some u =>
    obtain ⟨hcfg, hsetup⟩ := State.executing_setupKept he
    rw [State.hostCommand_of_executing s u kind args run he]
    exact configurationKept_trans hcfg
      (configurationKept_trans (h u (hsetup.not.2 hs)) (by simp [ConfigurationKept]))

/-- A command whose own rule keeps the configuration, whatever the checks before the rule say. -/
theorem State.checked_configurationKept {α : Type} (u : State) (args : Option α) (taken : StationState → Bool)
    {run : State → α → Answer} (h : ∀ a, ConfigurationKept u (run u a).state) :
    ConfigurationKept u (u.checked args taken run).state := by
  unfold State.checked
  split
  · simp [State.refuse, ConfigurationKept]
  · split
    · exact h _
    · simp [State.refuse, ConfigurationKept]

/-- A command taken in SETUP alone is refused outside it. -/
theorem State.checked_inSetup_configurationKept {α : Type} {u : State} (hu : u.control.state ≠ .setup)
    (args : Option α) (run : State → α → Answer) : ConfigurationKept u (u.checked args inSetup run).state := by
  cases args with
  | none => simp [State.checked_short, ConfigurationKept]
  | some a => rw [State.checked_wrong_state u a inSetup run (by simp [inSetup, hu])]; simp [ConfigurationKept]

/-- Outside SETUP a configuration command is refused, and nothing is configured. -/
theorem State.hostCommand_inSetup_configurationKept {α : Type} {s : State} {kind : Nat} {args : List Byte}
    (hs : s.control.state ≠ .setup) (read : Option α) (run : State → α → Answer) :
    ConfigurationKept s (s.hostCommand kind args (fun u => u.checked read inSetup run)) :=
  State.hostCommand_configurationKept hs (fun _ hu => State.checked_inSetup_configurationKept hu read run)

/-- A command whose own rule keeps the configuration keeps it outside SETUP. -/
theorem State.hostCommand_checked_configurationKept {α : Type} {s : State} {kind : Nat} {args : List Byte}
    (hs : s.control.state ≠ .setup) (read : Option α) (taken : StationState → Bool) {run : State → α → Answer}
    (h : ∀ u a, ConfigurationKept u (run u a).state) :
    ConfigurationKept s (s.hostCommand kind args (fun u => u.checked read taken run)) :=
  State.hostCommand_configurationKept hs (fun u _ => State.checked_configurationKept u read taken (h u))

/-! ## Clocks, pins and the line -/

theorem State.outsideSetup_configurationKept {s : State} {f : State → State} (h : ConfigurationKept s (f s)) :
    ConfigurationKept s (s.outsideSetup f) := by
  unfold State.outsideSetup; split
  · simp [ConfigurationKept]
  · exact h

theorem State.bringObst_configurationKept (s : State) (b : Bool) : ConfigurationKept s (s.bringObst b) := by
  simp only [State.bringObst]; split <;> simp [ConfigurationKept]

theorem State.stepped_configurationKept (s : State) (b : Bool) (c : LoadClass) :
    ConfigurationKept s (((s.bringObst b).bringLoad c).outsideSetup State.controlStep) :=
  configurationKept_trans (State.bringObst_configurationKept s b)
    (configurationKept_trans (by simp [ConfigurationKept, State.bringLoad])
      (State.outsideSetup_configurationKept (State.controlStep_setupKept _).1))

end Sys2Proof.Machine

namespace Sys2Proof.Proofs

open Sys2Proof.Machine Sys2Proof.Safety

/-- Settles O12, by cases over the commands: outside SETUP the configuration commands are refused, and the operations
of every other command leave the configuration as it is. -/
theorem configurationHoldsOutsideSetup : Obligations.ConfigurationHoldsOutsideSetup := by
  intro c s t hc hs h
  cases c with
  | powerOnReset => exact absurd rfl hc
  | setStation args => cases h; exact State.hostCommand_inSetup_configurationKept hs _ _
  | setParameter args => cases h; exact State.hostCommand_inSetup_configurationKept hs _ _
  | loadSegment args => cases h; exact State.hostCommand_inSetup_configurationKept hs _ _
  | loadTagWindow args => cases h; exact State.hostCommand_inSetup_configurationKept hs _ _
  | setEdition args => cases h; exact State.hostCommand_inSetup_configurationKept hs _ _
  | start args => cases h; exact State.hostCommand_inSetup_configurationKept hs _ _
  | submitOrder args =>
    cases h
    exact State.hostCommand_checked_configurationKept hs _ _ State.submitOrder_configurationKept
  | cancelOrder args =>
    cases h
    exact State.hostCommand_checked_configurationKept hs _ _ State.cancelOrder_configurationKept
  | stop args => cases h; exact State.hostCommand_checked_configurationKept hs _ _ (fun u _ => (u.halt_setupKept _ _).1)
  | resume args =>
    cases h
    exact State.hostCommand_checked_configurationKept hs _ _ (fun u _ => u.resume_configurationKept)
  | restart args =>
    cases h
    exact State.hostCommand_checked_configurationKept hs _ _ (fun u _ => u.restart_configurationKept)
  | sendRelay args =>
    cases h
    exact State.hostCommand_checked_configurationKept hs _ _ State.sendRelay_configurationKept
  | lineReset args =>
    cases h
    exact State.hostCommand_checked_configurationKept hs _ _ (fun u _ => (u.lineReset_setupKept _).1)
  | clearLift args =>
    cases h
    exact State.hostCommand_checked_configurationKept hs _ _ (fun u _ => u.clearLift_configurationKept)
  | forgetStation args =>
    cases h
    exact State.hostCommand_checked_configurationKept hs _ _ State.forgetStation_configurationKept
  | queryStatus args =>
    cases h
    exact State.hostCommand_checked_configurationKept hs _ _ (fun u _ => configurationKept_refl u)
  | queryOrders args =>
    cases h
    exact State.hostCommand_checked_configurationKept hs _ _ (fun u _ => configurationKept_refl u)
  | queryCounters args =>
    cases h
    exact State.hostCommand_checked_configurationKept hs _ _ (fun u _ => configurationKept_refl u)
  | readCacheEntry args =>
    cases h
    exact State.hostCommand_checked_configurationKept hs _ _ State.readCacheEntry_configurationKept
  | invalidateCacheEntry args =>
    cases h
    exact State.hostCommand_checked_configurationKept hs _ _ State.invalidateEntry_configurationKept
  | invalidateCacheSegment args =>
    cases h
    exact State.hostCommand_checked_configurationKept hs _ _ State.invalidateSegment_configurationKept
  | invalidateCacheSet args =>
    cases h
    exact State.hostCommand_checked_configurationKept hs _ _ State.invalidateSet_configurationKept
  | readNotices args =>
    cases h
    exact State.hostCommand_checked_configurationKept hs _ _ (fun u _ => configurationKept_refl u)
  | enableNotices args =>
    cases h
    exact State.hostCommand_checked_configurationKept hs _ _ State.enableNotices_configurationKept
  | disableNotices args =>
    cases h
    exact State.hostCommand_checked_configurationKept hs _ _ State.disableNotices_configurationKept
  | setAttention args =>
    cases h
    exact State.hostCommand_checked_configurationKept hs _ _ (fun u _ => configurationKept_refl u)
  | readFaultRecord args =>
    cases h
    exact State.hostCommand_checked_configurationKept hs _ _ (fun u _ => configurationKept_refl u)
  | clearFaultRecord args =>
    cases h
    exact State.hostCommand_checked_configurationKept hs _ _ (fun u _ => configurationKept_refl u)
  | unknownCommand kind args =>
    change execUnknownCommand kind args s = .next t at h
    unfold execUnknownCommand at h
    split at h <;> cases h
    · exact configurationKept_refl s
    · exact State.hostCommand_configurationKept hs (fun u _ => configurationKept_refl u)
  | commandTransaction hdi began => cases h; exact s.transaction_configurationKept hdi began
  | readTransaction hdi began => cases h; exact s.transaction_configurationKept hdi began
  | encoderPulse => cases h; exact State.outsideSetup_configurationKept (configurationKept_refl s)
  | tagRead code => cases h; exact State.outsideSetup_configurationKept (s.tagRead_setupKept _ _).1
  | obstDeasserted => cases h; exact s.bringObst_configurationKept false
  | controlStep obst loadc => cases h; exact s.stepped_configurationKept obst loadc
  | serviceStopComplete => cases h; exact s.serviceStopDue_setupKept.1
  | emergencyStopComplete => cases h; exact s.emergencyStopDue_setupKept.1
  | driveStall => cases h; exact s.stallDue_setupKept.1
  | waitExpired => cases h; exact s.waitDue_setupKept.1
  | joinTimerExpiry => cases h; exact s.joinDue_configurationKept
  | beaconTimerExpiry => cases h; exact s.beaconDue_setupKept.1
  | windowR1Expiry => cases h; exact s.windowR1Due_setupKept.1
  | grant => cases h; exact s.windowR2Due_setupKept.1
  | contestTimerExpiry => cases h; exact s.contestDue_setupKept.1
  | editionRetryExpiry => cases h; exact configurationKept_refl s
  | holdoffTimerExpiry => cases h; exact s.holdoffDue_setupKept.1
  | entryStale set way => cases h; exact (s.staleDue_setupKept _).1
  | liftSensorChange sup sdn loadc =>
    cases h
    exact configurationKept_trans (configurationKept_refl s) ((s.bringSensors sup sdn loadc).judgeSensors_setupKept _).1
  | liftTimeout => cases h; exact s.liftDue_setupKept.1
  | frameClosed bits => cases h; exact (s.receive_setupKept _ bits).1
  | beaconReceived => cases h; exact (s.takeKind_setupKept _).1
  | claimReceived => cases h; exact (s.takeKind_setupKept _).1
  | enquireReceived => cases h; exact (s.takeKind_setupKept _).1
  | objectReceived => cases h; exact (s.takeKind_setupKept _).1
  | releaseReceived => cases h; exact (s.takeKind_setupKept _).1
  | withdrawReceived => cases h; exact (s.takeKind_setupKept _).1
  | relayReceived => cases h; exact (s.takeKind_setupKept _).1
  | transmissionStart => cases h; exact s.beginSending_setupKept.1
  | transmissionComplete => cases h; exact s.completeSending_setupKept.1
  | collision bit => cases h; exact (s.collide_setupKept bit).1
  | backoffEnd => cases h; exact s.endBackoff_setupKept.1

end Sys2Proof.Proofs
end

section
/-! PROOFS. What the operations of a halt keep of the position, the held list and the motion, and which operations of a
control step leave the pulse count and the measured speed as they are (R11, R26, R130). -/

namespace Sys2Proof.Machine

open Sys2Proof.Safety

/-- The pulse count and the measured speed are unchanged. -/
abbrev CountKept (s t : State) : Prop :=
  t.pos.pulses = s.pos.pulses ∧ t.motion.measured = s.motion.measured

/-- The position record, the held list, the waited counter and the judgement of a reversal are unchanged, and so is an
expected marker that is absent at a miss count of 2. -/
abbrev BodyKept (s t : State) : Prop :=
  t.pos.centre = s.pos.centre ∧ t.pos.misses = s.pos.misses ∧ t.pos.endLost = s.pos.endLost
    ∧ t.pos.unmapped = s.pos.unmapped ∧ t.claim.held = s.claim.held ∧ t.claim.waited = s.claim.waited
    ∧ t.motion.reversalPending = s.motion.reversalPending
    ∧ (s.pos.misses = 2 → s.pos.expected = none → t.pos.expected = none)

/-! ## Claims -/

@[simp] theorem State.askStop_bodyKept (s : State) (m : StopMember) :
    CountKept s (s.askStop m) ∧ BodyKept s (s.askStop m) := by
  simp +contextual [CountKept, BodyKept, State.askStop]

@[simp] theorem State.withdrawStop_bodyKept (s : State) (m : StopMember) :
    CountKept s (s.withdrawStop m) ∧ BodyKept s (s.withdrawStop m) := by
  simp +contextual [CountKept, BodyKept, State.withdrawStop]

@[simp] theorem State.toIdle_bodyKept (s : State) :
    CountKept s (s.toIdle) ∧ BodyKept s (s.toIdle) := by
  simp only [State.toIdle]; (repeat' split) <;> simp +contextual [CountKept, BodyKept]

@[simp] theorem State.askRemoval_bodyKept (s : State) (o : Bool) :
    CountKept s (s.askRemoval o) ∧ BodyKept s (s.askRemoval o) := by
  simp only [State.askRemoval]; (repeat' split) <;> simp +contextual [CountKept, BodyKept]

@[simp] theorem State.endClaim_bodyKept (s : State) (t : Nat) :
    CountKept s (s.endClaim t) ∧ BodyKept s (s.endClaim t) := by
  unfold State.endClaim; (repeat' split) <;> simp +contextual [CountKept, BodyKept]

@[simp] theorem State.abandonClaim_bodyKept (s : State) (t : Nat) :
    CountKept s (s.abandonClaim t) ∧ BodyKept s (s.abandonClaim t) := by
  simp +contextual [CountKept, BodyKept, State.abandonClaim]

/-! ## Orders and halts -/

@[simp] theorem State.chooseExpected_bodyKept (s : State) :
    CountKept s (s.chooseExpected) ∧ BodyKept s (s.chooseExpected) := by
  simp +contextual [CountKept, BodyKept, State.chooseExpected]

@[simp] theorem State.runChanged_bodyKept (s : State) (l : List Nat) :
    CountKept s (s.runChanged l) ∧ BodyKept s (s.runChanged l) := by
  unfold State.runChanged; (repeat' split) <;> simp +contextual [CountKept, BodyKept]

@[simp] theorem State.removeOrder_bodyKept (s : State) (n : Nat) :
    CountKept s (s.removeOrder n) ∧ BodyKept s (s.removeOrder n) := by
  simp +contextual [CountKept, BodyKept, State.removeOrder]

@[simp] theorem State.orderDone_bodyKept (s : State) (t : Nat) (o : Order) :
    CountKept s (s.orderDone t o) ∧ BodyKept s (s.orderDone t o) := by
  simp +contextual [CountKept, BodyKept, State.orderDone]

@[simp] theorem State.orderCancelled_bodyKept (s : State) (t : Nat) (o : Order) :
    CountKept s (s.orderCancelled t o) ∧ BodyKept s (s.orderCancelled t o) := by
  simp +contextual [CountKept, BodyKept, State.orderCancelled]

@[simp] theorem State.orderFailed_bodyKept (s : State) (t : Nat) (o : Order) (w : FailReason) (n : Option Nat) :
    CountKept s (s.orderFailed t o w n) ∧ BodyKept s (s.orderFailed t o w n) := by
  simp +contextual [CountKept, BodyKept, State.orderFailed]

@[simp] theorem State.suspend_bodyKept (s : State) (n : Nat) (w : SuspendReason) :
    CountKept s (s.suspend n w) ∧ BodyKept s (s.suspend n w) := by
  simp +contextual [CountKept, BodyKept, State.suspend]

@[simp] theorem State.cancelMarked_bodyKept (s : State) (t : Nat) (o : Order) :
    CountKept s (s.cancelMarked t o) ∧ BodyKept s (s.cancelMarked t o) := by
  simp +contextual [CountKept, BodyKept, State.cancelMarked]

@[simp] theorem State.haltOrders_bodyKept (s : State) (t : Nat) :
    CountKept s (s.haltOrders t) ∧ BodyKept s (s.haltOrders t) := by
  unfold State.haltOrders; (repeat' split) <;> simp +contextual [CountKept, BodyKept]

@[simp] theorem State.enterHalted_bodyKept (s : State) (t : Nat) :
    CountKept s (s.enterHalted t) ∧ BodyKept s (s.enterHalted t) := by
  simp +contextual [CountKept, BodyKept, State.enterHalted, Motion.emergencyStop]

@[simp] theorem State.halt_bodyKept (s : State) (t : Nat) (c : Cause) :
    CountKept s (s.halt t c) ∧ BodyKept s (s.halt t c) := by
  unfold State.halt; (repeat' split) <;> simp +contextual [CountKept, BodyKept]

@[simp] theorem State.haltWith_bodyKept (s : State) (t : Nat) (r : HaltReport) :
    CountKept s (s.haltWith t r) ∧ BodyKept s (s.haltWith t r) := by
  simp +contextual [CountKept, BodyKept, State.haltWith]

@[simp] theorem State.overrunCheck_bodyKept (s : State) (t : Nat) :
    CountKept s (s.overrunCheck t) ∧ BodyKept s (s.overrunCheck t) := by
  unfold State.overrunCheck; (repeat' split) <;> simp +contextual [CountKept, BodyKept, State.setOverrunMark]

@[simp] theorem State.newAuthority_bodyKept (s : State) (t : Nat) :
    CountKept s (s.newAuthority t) ∧ BodyKept s (s.newAuthority t) := by
  simp +contextual [CountKept, BodyKept, State.newAuthority]

/-! ## The items of a control step -/

@[simp] theorem State.capEntry_countKept (s : State) (t : Nat) (l : List Nat) : CountKept s (s.capEntry t l) := by
  simp only [State.capEntry]; (repeat' split) <;> simp [CountKept, State.setCommanded]

@[simp] theorem State.bodyMoved_countKept (s : State) (t : Nat) (l : List Nat) : CountKept s (s.bodyMoved t l) := by
  simp [CountKept, State.bodyMoved]

@[simp] theorem State.positionLost_countKept (s : State) (t : Nat) (n : Nat) : CountKept s (s.positionLost t n) := by
  simp [CountKept, State.positionLost]

@[simp] theorem State.reckon_countKept (s : State) (t : Nat) (um : Nat) : CountKept s (s.reckon t um) := by
  simp only [State.reckon]; (repeat' split) <;> simp [CountKept]

@[simp] theorem State.missCheck_countKept (s : State) (t : Nat) : CountKept s (s.missCheck t) := by
  simp only [State.missCheck]; (repeat' split) <;> simp [CountKept]

@[simp] theorem State.releaseReserved_countKept (s : State) (t : Nat) : CountKept s (s.releaseReserved t) := by
  unfold State.releaseReserved; (repeat' split) <;> simp [CountKept]

@[simp] theorem State.stopRelease_countKept (s : State) (t : Nat) : CountKept s (s.stopRelease t) := by
  simp [CountKept, State.stopRelease]

@[simp] theorem State.figuresStep_countKept (s : State) (t : Nat) : CountKept s (s.figuresStep t) := by
  simp [CountKept, State.figuresStep]

@[simp] theorem State.obstacleCheck_countKept (s : State) (t : Nat) : CountKept s (s.obstacleCheck t) := by
  unfold State.obstacleCheck; (repeat' split) <;> simp [CountKept]

@[simp] theorem State.driveStep_countKept (s : State) (b : Bool) : CountKept s (s.driveStep b) := by
  unfold State.driveStep; (repeat' split) <;> simp [CountKept]

@[simp] theorem State.raiseStall_countKept (s : State) (t : Nat) : CountKept s (s.raiseStall t) := by
  simp [CountKept, State.raiseStall]

@[simp] theorem State.stallStep_countKept (s : State) (t : Nat) : CountKept s (s.stallStep t) := by
  unfold State.stallStep; (repeat' split) <;> simp [CountKept]

@[simp] theorem State.emergencyComplete_countKept (s : State) (t : Nat) : CountKept s (s.emergencyComplete t) := by
  simp only [State.emergencyComplete]; (repeat' split) <;> simp [CountKept]

@[simp] theorem State.latchStep_countKept (s : State) (t : Nat) : CountKept s (s.latchStep t) := by
  unfold State.latchStep; (repeat' split) <;> simp [CountKept]

@[simp] theorem State.yieldStopped_countKept (s : State) (t : Nat) : CountKept s (s.yieldStopped t) := by
  unfold State.yieldStopped; (repeat' split) <;> simp [CountKept]

@[simp] theorem State.cancelStopped_countKept (s : State) (t : Nat) : CountKept s (s.cancelStopped t) := by
  unfold State.cancelStopped; (repeat' split) <;> simp [CountKept]

@[simp] theorem State.serviceComplete_countKept (s : State) (t : Nat) : CountKept s (s.serviceComplete t) := by
  simp only [State.serviceComplete]; (repeat' split) <;> simp [CountKept]

@[simp] theorem State.serviceStep_countKept (s : State) (t : Nat) : CountKept s (s.serviceStep t) := by
  unfold State.serviceStep; (repeat' split) <;> simp [CountKept]

@[simp] theorem State.takeReversal_countKept (s : State) (t : Nat) : CountKept s (s.takeReversal t) := by
  simp [CountKept, State.takeReversal]

@[simp] theorem State.reversalStep_countKept (s : State) (t : Nat) : CountKept s (s.reversalStep t) := by
  simp only [State.reversalStep]; (repeat' split) <;> simp [CountKept]

@[simp] theorem State.liftSuccess_countKept (s : State) (t : Nat) : CountKept s (s.liftSuccess t) := by
  simp only [State.liftSuccess]; (repeat' split) <;> simp [CountKept]

@[simp] theorem State.liftReached_countKept (s : State) (t : Nat) : CountKept s (s.liftReached t) := by
  simp only [State.liftReached]; (repeat' split) <;> simp [CountKept]

@[simp] theorem State.judgeSensors_countKept (s : State) (t : Nat) : CountKept s (s.judgeSensors t) := by
  unfold State.judgeSensors; (repeat' split) <;> simp [CountKept]

@[simp] theorem State.beginLift_countKept (s : State) (t : Nat) (n : Nat) (a : EndAction) :
    CountKept s (s.beginLift t n a) := by
  simp only [State.beginLift]; (repeat' split) <;> simp [CountKept]

@[simp] theorem State.endAction_countKept (s : State) (t : Nat) (o : Order) : CountKept s (s.endAction t o) := by
  unfold State.endAction; (repeat' split) <;> simp [CountKept]

@[simp] theorem State.arrivalStep_countKept (s : State) (t : Nat) (b : Bool) : CountKept s (s.arrivalStep t b) := by
  unfold State.arrivalStep; (repeat' split) <;> simp [CountKept]

@[simp] theorem State.claimUndelivered_countKept (s : State) (t : Nat) : CountKept s (s.claimUndelivered t) := by
  unfold State.claimUndelivered; (repeat' split) <;> simp [CountKept]

@[simp] theorem State.offerClaim_countKept (s : State) (t : Nat) : CountKept s (s.offerClaim t) := by
  simp only [State.offerClaim]; (repeat' split) <;> simp [CountKept]

@[simp] theorem State.newAttempt_countKept (s : State) (t : Nat) (l : List Nat) (u : Nat) :
    CountKept s (s.newAttempt t l u) := by
  simp [CountKept, State.newAttempt]

@[simp] theorem State.formClaim_countKept (s : State) (t : Nat) : CountKept s (s.formClaim t) := by
  unfold State.formClaim; (repeat' split) <;> simp [CountKept]

@[simp] theorem State.beginWaitLimitYield_countKept (s : State) : CountKept s (s.beginWaitLimitYield) := by
  simp [CountKept, State.beginWaitLimitYield]

@[simp] theorem State.expireWait_countKept (s : State) (t : Nat) : CountKept s (s.expireWait t) := by
  simp only [State.expireWait]; (repeat' split) <;> simp [CountKept]

@[simp] theorem State.waitLimitStep_countKept (s : State) (t : Nat) : CountKept s (s.waitLimitStep t) := by
  unfold State.waitLimitStep; (repeat' split) <;> simp [CountKept]

@[simp] theorem State.beginYield_countKept (s : State) (x w : Nat) : CountKept s (s.beginYield x w) := by
  simp only [State.beginYield]; (repeat' split) <;> simp [CountKept]

@[simp] theorem State.cycleStep_countKept (s : State) : CountKept s (s.cycleStep) := by
  unfold State.cycleStep; (repeat' split) <;> simp [CountKept]

@[simp] theorem State.claimStep_countKept (s : State) (t : Nat) (b : Bool) : CountKept s (s.claimStep t b) := by
  cases b <;> simp [CountKept, State.claimStep]

@[simp] theorem State.activate_countKept (s : State) (t : Nat) (o : Order) (p : List Nat) :
    CountKept s (s.activate t o p) := by
  simp [CountKept, State.activate]

theorem State.judgeActivation_countKept (t : Nat) : ∀ (n : Nat) (s : State), CountKept s (s.judgeActivation t n) := by
  intro n
  induction n with
  | zero => intro s; simp [CountKept, State.judgeActivation]
  | succ n ih =>
    intro s
    unfold State.judgeActivation
    (repeat' split) <;> simp [CountKept, ih]

@[simp] theorem State.activationStep_countKept (s : State) (t : Nat) : CountKept s (s.activationStep t) := by
  have h := State.judgeActivation_countKept t 9 s
  unfold State.activationStep
  split
  · exact h
  · simp [CountKept]

@[simp] theorem State.motionStep_countKept (s : State) (t : Nat) : CountKept s (s.motionStep t) := by
  simp [CountKept, State.motionStep]

/-- A control step takes the pulse count and computes the measured speed from it (R11, R130). -/
theorem State.controlStep_count (s : State) :
    s.controlStep.pos.pulses = 0 ∧ s.controlStep.motion.measured = measuredSpeed s.params s.pos.pulses := by
  simp only [State.controlStep, State.positionStep]
  split <;> simp

end Sys2Proof.Machine
end

section
/-! PROOFS. Encoder pulses, the OBST line and the control step as the composition of its items (R11, R28, R130). -/

namespace Sys2Proof.Machine

open Sys2Proof.Safety

/-- The state in which a control step begins: its pin levels brought, and OBSTACLE gone where OBST is deasserted. -/
theorem State.bringPins_eq (s : State) (obst : Bool) (loadc : LoadClass) :
    (s.bringObst obst).bringLoad loadc
      = (s.setPins { s.pins with obst := obst, loadc := loadc }).setControl
          { s.control with
            causes := if obst then s.control.causes else s.control.causes.filter (fun x => x != .obstacle) } := by
  cases obst <;> rfl

theorem exec_controlStep_inSetup {s : State} (obst : Bool) (loadc : LoadClass) (hs : s.control.state = .setup) :
    exec (.controlStep obst loadc) s = .next ((s.bringObst obst).bringLoad loadc) := by
  change Host.Outcome.next (State.outsideSetup _ _) = _
  rw [State.outsideSetup, if_pos (by rw [State.bringPins_eq]; exact hs)]

theorem exec_controlStep_outsideSetup {s : State} (obst : Bool) (loadc : LoadClass) (hs : s.control.state ≠ .setup) :
    exec (.controlStep obst loadc) s = .next ((s.bringObst obst).bringLoad loadc).controlStep := by
  change Host.Outcome.next (State.outsideSetup _ _) = _
  rw [State.outsideSetup, if_neg (by rw [State.bringPins_eq]; exact hs)]

theorem exec_encoderPulse_outsideSetup {s : State} (hs : s.control.state ≠ .setup) :
    exec .encoderPulse s = .next (s.setPos { s.pos with pulses := min 65535 (s.pos.pulses + 1) }) := by
  change Host.Outcome.next (State.outsideSetup _ _) = _
  rw [State.outsideSetup, if_neg hs]
  rfl

theorem exec_encoderPulse_inSetup {s : State} (hs : s.control.state = .setup) : exec .encoderPulse s = .next s := by
  change Host.Outcome.next (State.outsideSetup _ _) = _
  rw [State.outsideSetup, if_pos hs]

theorem State.mayActivate_iff (s : State) :
    s.mayActivate = true ↔ s.currentOrder = none ∧ s.motion.requests = [] := by
  simp [State.mayActivate]

/-- The claim items of a step, where a holdoff at the step's start leaves the forming to the next one (R110). -/
theorem State.claimStep_eq (s : State) (t : Nat) (x : ClaimState) :
    s.claimStep t (x != .holdoff)
      = ((((if x = .holdoff then s else s.formClaim t).enquiryStep t).waitedStep.waitLimitStep t).cycleStep) := by
  by_cases h : x = .holdoff <;> simp [State.claimStep, h]

end Sys2Proof.Machine

namespace Sys2Proof.Proofs

open Sys2Proof.Machine Sys2Proof.Safety

/-- Settles O39: the fields a control step keeps and sets come from the frames of its items; its composition is its
definition. -/
theorem pulsesAreCountedAndTaken : Obligations.PulsesAreCountedAndTaken := by
  refine ⟨fun s => ⟨exec_encoderPulse_inSetup, exec_encoderPulse_outsideSetup, rfl⟩,
    fun s obst loadc => ⟨fun hs => ?_, fun hs => ?_, fun hs => ?_⟩⟩
  · obtain ⟨hpulses, hmeasured⟩ := ((s.bringObst obst).bringLoad loadc).controlStep_count
    obtain ⟨-, -, hpins, hparams, hresp, hport⟩ := ((s.bringObst obst).bringLoad loadc).controlStep_frame
    obtain ⟨hconfig, -⟩ := ((s.bringObst obst).bringLoad loadc).controlStep_setupKept
    have hrun := exec_controlStep_outsideSetup obst loadc hs
    rw [State.bringPins_eq] at *
    exact ⟨_, hrun, hpulses, hmeasured, hpins, hparams, hresp, hport, hconfig⟩
  · refine ⟨_, _, _, _, _, _, _, rfl, rfl, rfl, rfl, rfl, rfl, rfl, ?_⟩
    rw [exec_controlStep_outsideSetup obst loadc hs, State.bringPins_eq]
    simp only [State.controlStep, State.motionStep, State.claimStep_eq, State.mayActivate_iff]
    rfl
  · rw [exec_controlStep_inSetup obst loadc hs, State.bringPins_eq]

end Sys2Proof.Proofs
end

section
/-! PROOFS. Notices are added behind the ones queued and a captured fault stands (R187, R191); what a detected halting
cause reports (section 2.4, R26, R27). -/

namespace Sys2Proof.Machine

open Sys2Proof.Safety

/-- At most `k` notices have been added behind the ones queued, none of them a DRIFT; the enables are the same, and a
captured fault stands. -/
structure NoticesAdded (k : Nat) (s t : State) : Prop where
  disabled : t.notice.disabled = s.notice.disabled
  queued : ∃ l, t.notice.queue = s.notice.queue ++ l ∧ l.length ≤ k ∧ ∀ n ∈ l, n.kind ≠ .drift
  fault : ∀ r, s.notice.fault = some r → ∃ q, t.notice.fault = some q ∧ SameCapture r q

namespace NoticesAdded

theorem of_same {s t : State} (k : Nat) (h : t.notice = s.notice) : NoticesAdded k s t :=
  ⟨by rw [h], ⟨[], by simp [h]⟩, fun r hr => ⟨r, by rw [h, hr], rfl, rfl, rfl, rfl, rfl, rfl, rfl, rfl⟩⟩

theorem trans {k m : Nat} {s u t : State} (h : NoticesAdded k s u) (g : NoticesAdded m u t) :
    NoticesAdded (k + m) s t := by
  obtain ⟨hd, ⟨l, hl, hk, hn⟩, hf⟩ := h
  obtain ⟨gd, ⟨l', gl, gm, gn⟩, gf⟩ := g
  refine ⟨gd.trans hd, ⟨l ++ l', by rw [gl, hl, List.append_assoc], by simp; omega, ?_⟩, fun r hr => ?_⟩
  · intro n hmem
    exact (List.mem_append.1 hmem).elim (hn n) (gn n)
  · obtain ⟨q, hq, hsame⟩ := hf r hr
    obtain ⟨p, hp, gsame⟩ := gf q hq
    exact ⟨p, hp, by simp_all [SameCapture]⟩

/-- What a further change that leaves the Notice Unit alone makes of it. -/
theorem then_same {k : Nat} {s u t : State} (h : NoticesAdded k s u) (e : t.notice = u.notice) : NoticesAdded k s t :=
  h.trans (of_same 0 e)

theorem after_same {k : Nat} {s u t : State} (h : NoticesAdded k u t) (e : u.notice = s.notice) :
    NoticesAdded k s t := by
  simpa using (of_same 0 e).trans h

theorem mono {k m : Nat} {s t : State} (h : NoticesAdded k s t) (hk : k ≤ m) : NoticesAdded m s t := by
  obtain ⟨hd, ⟨l, hl, hlk, hn⟩, hf⟩ := h
  exact ⟨hd, ⟨l, hl, hlk.trans hk, hn⟩, hf⟩

/-- A queued notice stays queued. -/
theorem mem {k : Nat} {s t : State} (h : NoticesAdded k s t) {n : Notice} (hn : n ∈ s.notice.queue) :
    n ∈ t.notice.queue := by
  obtain ⟨l, hl, -, -⟩ := h.queued
  rw [hl]; exact List.mem_append_left l hn

/-- A DRIFT that is queued was queued before. -/
theorem drift_mem {k : Nat} {s t : State} (h : NoticesAdded k s t) {n : Notice} (hn : n ∈ t.notice.queue)
    (hd : n.kind = .drift) : n ∈ s.notice.queue := by
  obtain ⟨l, hl, -, hno⟩ := h.queued
  rw [hl] at hn
  exact (List.mem_append.1 hn).resolve_right (fun hmem => hno n hmem hd)

/-- Room for `k` notices more than a step adds is room for them after it. -/
theorem room {k m : Nat} {s t : State} {x : NoticeKind} (h : NoticesAdded k s t) (hr : RoomFor s.notice x (k + m)) :
    RoomFor t.notice x m := by
  obtain ⟨l, hl, hk, -⟩ := h.queued
  obtain ⟨hx, hlen⟩ := hr
  refine ⟨by rw [h.disabled]; exact hx, ?_⟩
  rw [hl, List.length_append]; omega

end NoticesAdded

/-! ## Raising a notice and offering a fault -/

theorem State.raise_queue {s : State} {n : Notice} (h : RoomFor s.notice n.kind 1) :
    (s.raise n).notice.queue = s.notice.queue ++ [n] := by
  obtain ⟨hx, hlen⟩ := h
  have hd : s.notice.disabled.contains n.kind = false := by simpa using hx
  simp [State.raise, NoticeUnit.raise, hx, show s.notice.queue.length < 32 by omega]

theorem State.raise_mem {s : State} {n : Notice} (h : RoomFor s.notice n.kind 1) : n ∈ (s.raise n).notice.queue := by
  rw [State.raise_queue h]; simp

/-- Raising a notice touches neither the enables nor the Fault Record. -/
@[simp] theorem State.raise_noticeFields (s : State) (n : Notice) :
    (s.raise n).notice.disabled = s.notice.disabled ∧ (s.raise n).notice.fault = s.notice.fault
      ∧ (s.raise n).notice.now = s.notice.now := by
  simp only [State.raise, NoticeUnit.raise]; (repeat' split) <;> simp

theorem State.raise_added (s : State) (n : Notice) (h : n.kind ≠ .drift) : NoticesAdded 1 s (s.raise n) := by
  refine ⟨(s.raise_noticeFields n).1, ?_, fun r hr => ⟨r, by simp [hr], rfl, rfl, rfl, rfl, rfl, rfl, rfl, rfl⟩⟩
  obtain hq | ⟨-, hq⟩ | ⟨-, hq⟩ := NoticeUnit.raise_cases s.notice n
  · exact ⟨[], by simp [State.raise, hq]⟩
  · exact ⟨[n], by simp [State.raise, hq, h]⟩
  · exact ⟨[], by simp [State.raise, hq]⟩

theorem State.offerFault_added (s : State) (f : FaultOffer) : NoticesAdded 0 s (s.offerFault f) := by
  unfold State.offerFault
  split
  next r hr =>
    refine ⟨rfl, ⟨[], by simp⟩, fun q hq => ⟨_, rfl, ?_⟩⟩
    rw [hr] at hq; cases hq
    exact ⟨rfl, rfl, rfl, rfl, rfl, rfl, rfl, rfl⟩
  next hr => exact ⟨rfl, ⟨[], by simp⟩, fun q hq => by rw [hr] at hq; cases hq⟩

/-- An empty Fault Record takes what the offer names (R191). -/
theorem State.offerFault_captures (s : State) (f : FaultOffer) (h : s.notice.fault = none) :
    ∃ r, (s.offerFault f).notice.fault = some r ∧ r.kind = f.kind ∧ r.time = f.time ∧ r.seg = f.seg
      ∧ r.station = f.station ∧ r.detail = f.detail := by
  unfold State.offerFault
  simp only [h]
  exact ⟨_, rfl, rfl, rfl, rfl, rfl, rfl⟩

/-! ## The line and the claim -/

theorem State.relayDiscarded_added (s : State) (t dest : Nat) : NoticesAdded 1 s (s.relayDiscarded t dest) :=
  State.raise_added s _ (by simp [Notice.plain])

theorem State.displace_added (s : State) (t cls : Nat) (e : TxEntry) : NoticesAdded 1 s (s.displace t cls e) := by
  simp only [State.displace]
  split
  · exact (State.relayDiscarded_added _ t e.dest).after_same rfl
  · exact NoticesAdded.of_same 1 rfl

/-- An offer raises RELAY_DISCARDED at most, and offers TX_OVERFLOW at most (R47). -/
theorem State.offer_added (s : State) (t dest : Nat) (content : TxContent) :
    NoticesAdded 1 s (s.offer t dest content).1 := by
  unfold State.offer
  split
  · exact NoticesAdded.of_same 1 rfl
  split
  · exact NoticesAdded.of_same 1 rfl
  split
  · exact NoticesAdded.of_same 1 rfl
  split
  · split
    · exact (State.displace_added s t 3 _).then_same rfl
    · split
      · exact (State.displace_added s t 2 _).then_same rfl
      · exact ((State.offerFault_added s.dropFrame _).mono (Nat.zero_le 1)).after_same rfl
  split
  · exact NoticesAdded.of_same 1 rfl
  · exact NoticesAdded.of_same 1 rfl

theorem State.send_added (s : State) (t dest : Nat) (body : Body) : NoticesAdded 1 s (s.send t dest body) :=
  State.offer_added s t dest (.fixed body)

theorem State.giveBack_added (s : State) (t : Nat) (segs : List Nat) : NoticesAdded 1 s (s.giveBack t segs) := by
  unfold State.giveBack
  split
  · exact NoticesAdded.of_same 1 rfl
  · exact (State.send_added _ t 255 _).after_same rfl

theorem State.endClaim_added (s : State) (t : Nat) : NoticesAdded 1 s (s.endClaim t) := by
  unfold State.endClaim State.sendWithdraw
  split
  · exact NoticesAdded.of_same 1 (by simp)
  · exact ((State.send_added (s.askRemoval false) t 255 (.withdraw s.claim.record.number)).after_same
      (by simp)).then_same (by simp)
  · exact (State.send_added s t 255 (.withdraw s.claim.record.number)).then_same (by simp)
  · exact (State.send_added s t 255 (.withdraw s.claim.record.number)).then_same (by simp)
  all_goals exact NoticesAdded.of_same 1 rfl

theorem State.abandonClaim_added (s : State) (t : Nat) : NoticesAdded 1 s (s.abandonClaim t) :=
  (State.endClaim_added s t).then_same (by simp [State.abandonClaim])

/-! ## Orders and halts -/

theorem State.orderCancelled_added (s : State) (t : Nat) (o : Order) : NoticesAdded 1 s (s.orderCancelled t o) :=
  (State.raise_added (s.removeOrder o.tag) _ (by simp [Notice.plain])).after_same (by simp)

theorem State.cancelMarked_added (s : State) (t : Nat) (o : Order) : NoticesAdded 1 s (s.cancelMarked t o) :=
  (State.orderCancelled_added s t o).then_same rfl

theorem State.haltOrders_added (s : State) (t : Nat) : NoticesAdded 1 s (s.haltOrders t) := by
  unfold State.haltOrders
  split
  · exact NoticesAdded.of_same 1 rfl
  · split
    · exact State.cancelMarked_added s t _
    · exact NoticesAdded.of_same 1 (by simp)

theorem State.changeState_added (s : State) (t : Nat) (x : StationState) : NoticesAdded 1 s (s.changeState t x) :=
  (State.raise_added (s.setControl { s.control with state := x }) _ (by simp [Notice.plain])).after_same rfl

theorem State.enterHalted_added (s : State) (t : Nat) : NoticesAdded 3 s (s.enterHalted t) := by
  simp only [State.enterHalted]
  refine NoticesAdded.trans (k := 1) (m := 2) ?_ ((State.abandonClaim_added _ t).trans (State.haltOrders_added _ t))
  exact ((State.changeState_added _ t .halted).after_same rfl).then_same rfl

theorem State.halt_added (s : State) (t : Nat) (c : Cause) : NoticesAdded 3 s (s.halt t c) := by
  unfold State.halt
  split
  · exact NoticesAdded.of_same 3 rfl
  · exact NoticesAdded.of_same 3 rfl
  all_goals exact (State.enterHalted_added (s.addCause c) t).after_same rfl

/-! ## A detected halting cause -/

theorem mem_addCause (l : List Cause) (c : Cause) : c ∈ addCause l c := by
  cases c <;> simp [addCause, Cause.all]

/-- Outside SETUP a halting cause leaves the station in HALTED with the cause in the set (R26, R27). -/
theorem State.halt_control {s : State} (t : Nat) (c : Cause) (hs : s.control.state ≠ .setup) :
    (s.halt t c).control.state = .halted ∧ c ∈ (s.halt t c).control.causes := by
  have hmem := mem_addCause s.control.causes c
  unfold State.halt
  split <;> simp_all [State.addCause]

theorem State.haltWith_control {s : State} (t : Nat) (r : HaltReport) (hs : s.control.state ≠ .setup) :
    (s.haltWith t r).control.state = .halted ∧ r.cause ∈ (s.haltWith t r).control.causes :=
  State.halt_control t r.cause (by simpa using hs)

/-- The notice of the cause is queued where there is room for it (R187). -/
theorem State.haltWith_notice {s : State} (t : Nat) (r : HaltReport) (hr : RoomFor s.notice r.notice 1) :
    { Notice.plain r.notice t with seg := r.seg, station := r.station, detail := r.detail }
      ∈ (s.haltWith t r).notice.queue :=
  ((State.offerFault_added _ _).trans (State.halt_added _ t r.cause)).mem (State.raise_mem hr)

/-- An empty Fault Record captures the cause (R191). -/
theorem State.haltWith_fault {s : State} (t : Nat) (r : HaltReport) (h : s.notice.fault = none) :
    ∃ q, (s.haltWith t r).notice.fault = some q ∧ q.kind = r.fault ∧ q.time = t ∧ q.seg = r.seg
      ∧ q.station = r.station ∧ q.detail = r.faultDetail := by
  obtain ⟨f, hf, hkind, htime, hseg, hstation, hdetail⟩ := State.offerFault_captures
    (s.raise { Notice.plain r.notice t with seg := r.seg, station := r.station, detail := r.detail })
    { kind := r.fault, time := t, station := r.station, seg := r.seg, detail := r.faultDetail } (by simp [h])
  obtain ⟨q, hq, qkind, qtime, -, -, -, qstation, qseg, qdetail⟩ := (State.halt_added _ t r.cause).fault f hf
  exact ⟨q, hq, qkind.trans hkind, qtime.trans htime, qseg.trans hseg, qstation.trans hstation,
    qdetail.trans hdetail⟩

/-! ## A moved body -/

theorem State.capEntry_added (s : State) (t : Nat) (before : List Nat) : NoticesAdded 1 s (s.capEntry t before) := by
  unfold State.capEntry
  split
  · split
    · exact NoticesAdded.of_same 1 rfl
    · exact (State.raise_added (s.setCommanded _) _ (by simp [Notice.plain])).after_same rfl
  · exact NoticesAdded.of_same 1 rfl

theorem State.bodyMoved_added (s : State) (t : Nat) (before : List Nat) : NoticesAdded 2 s (s.bodyMoved t before) := by
  simp only [State.bodyMoved, State.exitEvents]
  refine NoticesAdded.trans (k := 1) (m := 1) ?_ (State.giveBack_added _ t _)
  exact (State.capEntry_added s t before).then_same rfl

end Sys2Proof.Machine
end

section
/-! PROOFS. Tag reads: an unmapped code, a snap, and the four reasons of POSITION_CONFLICT (R7, R8, R14, R15). -/

namespace Sys2Proof.Machine

open Sys2Proof.Safety

theorem exec_tagRead_inSetup {s : State} (code : BitVec 16) (hs : s.control.state = .setup) :
    exec (.tagRead code) s = .next s := by
  change Host.Outcome.next (State.outsideSetup _ _) = _
  rw [State.outsideSetup, if_pos hs]

theorem exec_tagRead_outsideSetup {s : State} (code : BitVec 16) (hs : s.control.state ≠ .setup) :
    exec (.tagRead code) s = .next (s.tagRead s.notice.now code.toNat) := by
  change Host.Outcome.next (State.outsideSetup _ _) = _
  rw [State.outsideSetup, if_neg hs]
  rfl

/-! ## What a code names -/

theorem State.tagRead_of_unmapped {s : State} (t code : Nat)
    (h : ∀ m, decodeTag s.pos.windows.toList code = some m → 240 < m.seg ∨ Table.find s.pos.map m.seg = none) :
    s.tagRead t code = s.unmappedRead t code := by
  unfold State.tagRead
  split
  next => rfl
  next m hm =>
    rw [if_neg]
    rintro ⟨hle, hsome⟩
    obtain hgt | hnone := h m hm
    · omega
    · simp [hnone] at hsome

theorem State.tagRead_of_mapped {s : State} (t : Nat) {code : Nat} {m : Marker}
    (hm : decodeTag s.pos.windows.toList code = some m) (hle : m.seg ≤ 240)
    (hsome : (Table.find s.pos.map m.seg).isSome = true) : s.tagRead t code = s.mappedRead t m := by
  simp [State.tagRead, hm, hle, hsome]

theorem State.unmappedRead_of_marked {s : State} (t : Nat) {code : Nat} (h : code ∈ s.pos.unmapped) :
    s.unmappedRead t code = s := by
  simp [State.unmappedRead, h]

theorem State.unmappedRead_of_new {s : State} (t : Nat) {code : Nat} (h : code ∉ s.pos.unmapped) :
    s.unmappedRead t code
      = (s.setPos { s.pos with unmapped := insertNum s.pos.unmapped code }).raise
          { Notice.plain .tagUnmapped t with detail := some code } := by
  simp [State.unmappedRead, h]

/-! ## A mapped read, by the first check that fails (R15) -/

/-- The offset of a plate of the map in µm from the A end (R5). -/
def State.plateUm (s : State) (m : Marker) : Nat := 1000 * plateOffset (lengthOf s.pos.map m.seg) m.plate

theorem State.mappedRead_of_far {s : State} (t : Nat) {m : Marker} {c : Centre} (hc : s.pos.centre = some c)
    (hp : (nearby s.pos.map s.runSegs c).find? (fun p => p.seg == m.seg) = none) :
    s.mappedRead t m = s.positionConflict t m.seg .wrongSegment := by
  simp [State.mappedRead, hc, hp]

theorem State.mappedRead_of_large {s : State} (t : Nat) {m : Marker} {c : Centre} {p : Placed}
    (hc : s.pos.centre = some c) (hp : (nearby s.pos.map s.runSegs c).find? (fun p => p.seg == m.seg) = some p)
    (he : 4000 * s.params.tolerance < (p.at (s.plateUm m : Nat)).natAbs) :
    s.mappedRead t m = s.positionConflict t m.seg .errorLarge := by
  rw [← Int.natAbs_neg] at he
  simp only [State.mappedRead, hc, hp]
  exact if_pos he

theorem State.mappedRead_of_fault {s : State} (t : Nat) {m : Marker} {c : Centre} {p : Placed} {d : ConflictDetail}
    (hc : s.pos.centre = some c) (hp : (nearby s.pos.map s.runSegs c).find? (fun p => p.seg == m.seg) = some p)
    (he : (p.at (s.plateUm m : Nat)).natAbs ≤ 4000 * s.params.tolerance)
    (hd : s.snapFault ⟨m.seg, s.plateUm m, p.dir⟩ = some d) : s.mappedRead t m = s.positionConflict t m.seg d := by
  rw [← Int.natAbs_neg] at he
  simp only [State.mappedRead, hc, hp]
  refine (if_neg (Nat.not_lt.2 he)).trans ?_
  simp only [State.plateUm] at hd
  rw [hd]

theorem State.mappedRead_of_snap {s : State} (t : Nat) {m : Marker} {c : Centre} {p : Placed}
    (hc : s.pos.centre = some c) (hp : (nearby s.pos.map s.runSegs c).find? (fun p => p.seg == m.seg) = some p)
    (he : (p.at (s.plateUm m : Nat)).natAbs ≤ 4000 * s.params.tolerance)
    (hok : s.snapFault ⟨m.seg, s.plateUm m, p.dir⟩ = none) :
    s.mappedRead t m
      = (s.drift t m.seg (-(p.at (s.plateUm m : Nat)))).snap t ⟨m.seg, s.plateUm m, p.dir⟩ := by
  rw [← Int.natAbs_neg] at he
  simp only [State.mappedRead, hc, hp]
  refine (if_neg (Nat.not_lt.2 he)).trans ?_
  simp only [State.plateUm] at hok
  rw [hok]
  rfl

theorem State.snapFault_of_rear {s : State} {c : Centre}
    (h : ∃ q, (layOut s.pos.map s.runSegs c).head? = some q ∧ -s.half < q.lo) : s.snapFault c = some .rearUnheld := by
  obtain ⟨q, hq, hlo⟩ := h
  simp [State.snapFault, hq, hlo]

theorem State.snapFault_of_front {s : State} {c : Centre}
    (hrear : ∀ q, (layOut s.pos.map s.runSegs c).head? = some q → q.lo ≤ -s.half)
    (h : ∃ d, authorityUm s (layOut s.pos.map s.runSegs c) = some d ∧ d < 0) : s.snapFault c = some .frontBeyond := by
  obtain ⟨d, hd, hneg⟩ := h
  simp only [State.snapFault]
  rw [if_neg, if_pos (by simp [hd, hneg])]
  simp only [Option.any_eq_true, decide_eq_true_eq, not_exists, not_and, not_lt]
  exact hrear

/-! ## What a POSITION_CONFLICT does -/

/-- Outside SETUP a POSITION_CONFLICT halts the station, is reported with the plate's segment and the check that failed,
and leaves the centre, the miss count and the held list as they are (R14, R15). -/
theorem State.positionConflict_spec {s : State} (t seg : Nat) (d : ConflictDetail) (hs : s.control.state ≠ .setup) :
    (s.positionConflict t seg d).control.state = .halted
      ∧ Cause.positionConflict ∈ (s.positionConflict t seg d).control.causes
      ∧ (s.positionConflict t seg d).pos.centre = s.pos.centre
      ∧ (s.positionConflict t seg d).pos.misses = s.pos.misses
      ∧ (s.notice.fault = none → ∃ r, (s.positionConflict t seg d).notice.fault = some r
          ∧ r.kind = .positionConflict ∧ r.time = t ∧ r.seg = some seg ∧ r.detail = some d.code ∧ r.station = none)
      ∧ (RoomFor s.notice .positionConflict 1 →
          { Notice.plain .positionConflict t with seg := some seg, detail := some d.code }
            ∈ (s.positionConflict t seg d).notice.queue)
      ∧ (s.positionConflict t seg d).claim.held = s.claim.held := by
  obtain ⟨hstate, hcause⟩ := State.haltWith_control t
    { notice := .positionConflict, fault := .positionConflict, cause := .positionConflict, station := none,
      seg := some seg, detail := some d.code, faultDetail := some d.code } hs
  refine ⟨hstate, hcause, by simp [State.positionConflict], by simp [State.positionConflict], fun hfault => ?_,
    fun hroom => State.haltWith_notice t _ hroom, by simp [State.positionConflict]⟩
  obtain ⟨q, hq, hkind, htime, hseg, hstation, hdetail⟩ := State.haltWith_fault t
    { notice := .positionConflict, fault := .positionConflict, cause := .positionConflict, station := none,
      seg := some seg, detail := some d.code, faultDetail := some d.code } hfault
  exact ⟨q, hq, hkind, htime, hseg, hdetail, hstation⟩

/-! ## What a snap does -/

theorem State.chooseExpected_pos (s : State) :
    s.chooseExpected.pos
      = { s.pos with expected := if s.pos.misses < 2 then plateAhead s.pos.map s.layout else none } := rfl

/-- A snap moves the centre, clears a miss count below 2 and chooses the expected marker afresh (R14, R16). -/
theorem State.snap_pos (s : State) (t : Nat) (c : Centre) :
    (s.snap t c).pos.centre = some c ∧ (s.snap t c).pos.misses = (if s.pos.misses < 2 then 0 else s.pos.misses)
      ∧ (¬s.pos.misses < 2 → (s.snap t c).pos.expected = none)
      ∧ (s.snap t c).pos.unmapped = s.pos.unmapped := by
  refine ⟨by simp [State.snap], by simp [State.snap], fun h => ?_, by simp [State.snap]⟩
  simp only [State.snap, State.bodyMoved_frame, State.chooseExpected_pos, State.setPos_pos, if_neg h]
  exact if_neg h

theorem State.snap_added (s : State) (t : Nat) (c : Centre) : NoticesAdded 2 s (s.snap t c) := by
  simp only [State.snap]
  exact (State.bodyMoved_added _ t _).after_same (by simp)

theorem State.drift_of_within {s : State} (t seg : Nat) {e : Int} (h : e.natAbs ≤ 1000 * s.params.tolerance) :
    s.drift t seg e = s := if_pos h

theorem State.drift_of_beyond {s : State} (t seg : Nat) {e : Int} (h : 1000 * s.params.tolerance < e.natAbs) :
    s.drift t seg e
      = s.raise { Notice.plain .drift t with seg := some seg, detail := some (e.tdiv 1000 % 65536).toNat } :=
  if_neg (Nat.not_le.2 h)

/-- A read that snaps queues a DRIFT exactly where its error is above T and there is room (R14). -/
theorem State.driftSnap_notices (s : State) (t seg : Nat) (e : Int) (c : Centre) :
    (e.natAbs ≤ 1000 * s.params.tolerance →
        ∀ n ∈ ((s.drift t seg e).snap t c).notice.queue, n.kind = .drift → n ∈ s.notice.queue)
      ∧ (1000 * s.params.tolerance < e.natAbs → RoomFor s.notice .drift 1 →
        { Notice.plain .drift t with seg := some seg, detail := some (e.tdiv 1000 % 65536).toNat }
          ∈ ((s.drift t seg e).snap t c).notice.queue) := by
  refine ⟨fun he n hn hd => ?_, fun he hroom => ?_⟩
  · rw [State.drift_of_within t seg he] at hn
    exact (State.snap_added s t c).drift_mem hn hd
  · rw [State.drift_of_beyond t seg he]
    exact (State.snap_added _ t c).mem (State.raise_mem hroom)

end Sys2Proof.Machine

namespace Sys2Proof.Proofs

open Sys2Proof.Machine Sys2Proof.Safety

/-- Settles O38: a code is unmapped or names a plate; a read of a plate snaps, or fails one of the four checks. -/
theorem tagReadSnapsOrReports : Obligations.TagReadSnapsOrReports := by
  refine fun s code => ⟨exec_tagRead_inSetup code, fun hs hunmapped => ⟨fun hin => ?_, fun hnew => ?_⟩,
    fun m c p hs hm hle hsome hc hp he hok => ?_, fun m c detail hs hm hle hsome hc hfail => ?_⟩
  · rw [exec_tagRead_outsideSetup code hs, State.tagRead_of_unmapped _ _ hunmapped, State.unmappedRead_of_marked _ hin]
  · rw [exec_tagRead_outsideSetup code hs, State.tagRead_of_unmapped _ _ hunmapped, State.unmappedRead_of_new _ hnew]
    refine ⟨_, rfl, ?_, ?_, fun hroom => State.raise_queue hroom, ?_, ?_, ?_⟩
    · simp [mem_insertNum]
    all_goals simp
  · rw [exec_tagRead_outsideSetup code hs, State.tagRead_of_mapped _ hm hle hsome,
      State.mappedRead_of_snap _ hc hp he hok]
    obtain ⟨hsmall, hlarge⟩ := s.driftSnap_notices s.notice.now m.seg (-(p.at (s.plateUm m : Nat)))
      ⟨m.seg, s.plateUm m, p.dir⟩
    obtain ⟨hcentre, hmisses, hexpected, hmarks⟩ := (s.drift s.notice.now m.seg (-(p.at (s.plateUm m : Nat)))).snap_pos
      s.notice.now ⟨m.seg, s.plateUm m, p.dir⟩
    simp only [State.drift_frame] at hmisses hexpected hmarks
    rw [Int.natAbs_neg] at hsmall hlarge
    refine ⟨_, rfl, hcentre, fun hlt => by rw [hmisses, if_pos hlt], fun htwo => ?_, hsmall, hlarge, ?_, ?_, hmarks, ?_,
      ?_, ?_⟩
    · exact ⟨by rw [hmisses, if_neg (by omega), htwo], hexpected (by omega)⟩
    all_goals simp
  · have hrun : ∃ d : ConflictDetail, d.code = detail
        ∧ s.mappedRead s.notice.now m = s.positionConflict s.notice.now m.seg d := by
      obtain ⟨hp, rfl⟩ | ⟨p, e, lay, hp, rfl, rfl, ⟨he, rfl⟩ | ⟨he, hrear, rfl⟩ | ⟨he, hrear, hfront, rfl⟩⟩ := hfail
      · exact ⟨.wrongSegment, rfl, State.mappedRead_of_far _ hc hp⟩
      · exact ⟨.errorLarge, rfl, State.mappedRead_of_large _ hc hp he⟩
      · exact ⟨.rearUnheld, rfl, State.mappedRead_of_fault _ hc hp he (State.snapFault_of_rear hrear)⟩
      · exact ⟨.frontBeyond, rfl, State.mappedRead_of_fault _ hc hp he (State.snapFault_of_front hrear hfront)⟩
    obtain ⟨d, rfl, hd⟩ := hrun
    obtain ⟨hstate, hcause, hcentre, hmisses, hfault, hnotice, hheld⟩ :=
      s.positionConflict_spec s.notice.now m.seg d hs
    rw [exec_tagRead_outsideSetup code hs, State.tagRead_of_mapped _ hm hle hsome, hd]
    exact ⟨_, rfl, hstate, hcause, hcentre, hmisses, hfault, hnotice, hheld, by simp, by simp⟩

end Sys2Proof.Proofs
end

section
/-! PROOFS. Track geometry: the run laid out link by link around the centre (R10), the plates in their order along it
(R5, R16), and the centre moved along it (R11, R12). -/

namespace Sys2Proof.Machine

open Sys2Proof.Safety

/-! ## A list about an element -/

theorem beforeSeg_afterSeg {l : List Nat} {n : Nat} (h : n ∈ l) :
    l = beforeSeg l n ++ n :: afterSeg l n ∧ n ∉ beforeSeg l n := by
  induction l with
  | nil => simp at h
  | cons a l ih =>
    by_cases ha : a = n
    · simp [beforeSeg, afterSeg, ha]
    · obtain ⟨hl, hn⟩ := ih ((List.mem_cons.1 h).resolve_left (Ne.symm ha))
      exact ⟨by simpa [beforeSeg, afterSeg, ha] using hl, by simpa [beforeSeg, ha, Ne.symm ha] using hn⟩

theorem afterSeg_append {a b : List Nat} {n : Nat} (h : n ∉ a) : afterSeg (a ++ n :: b) n = b := by
  induction a with
  | nil => simp [afterSeg]
  | cons x a ih =>
    obtain ⟨hx, ha⟩ := not_or.1 (mt List.mem_cons.2 h)
    simpa [afterSeg, Ne.symm hx] using ih ha

/-! ## Two neighbours on the run (R10) -/

/-- The leaving end of one segment is the entering end of the next, through a link of one to the other. -/
def Joined (map : Table Segment) (p q : Placed) : Prop :=
  q.lo = p.hi
    ∧ ((∃ l, linkTo map p.seg p.dir.leaving q.seg = some l ∧ q.dir = l.far.enterDir)
      ∨ ∃ l, linkTo map q.seg q.dir.entering p.seg = some l ∧ p.dir = l.far.leaveDir)

theorem placeAhead_chain (map : Table Segment) (l : List Nat) : ∀ p : Placed,
    (p :: placeAhead map p.seg p.dir p.hi l).IsChain (Joined map) := by
  induction l with
  | nil => intro p; simp [placeAhead]
  | cons n rest ih =>
    intro p
    simp only [placeAhead]
    split
    next => simp
    next k hk =>
      exact List.isChain_cons_cons.2 ⟨⟨rfl, .inl ⟨k, hk, rfl⟩⟩, ih ⟨n, k.far.enterDir, p.hi, p.hi + lengthUm map n⟩⟩

theorem placeBehind_chain (map : Table Segment) (l : List Nat) : ∀ p : Placed,
    (p :: placeBehind map p.seg p.dir p.lo l).IsChain (fun q r => Joined map r q) := by
  induction l with
  | nil => intro p; simp [placeBehind]
  | cons n rest ih =>
    intro p
    simp only [placeBehind]
    split
    next => simp
    next k hk =>
      exact List.isChain_cons_cons.2 ⟨⟨rfl, .inr ⟨k, hk, rfl⟩⟩, ih ⟨n, k.far.leaveDir, p.lo - lengthUm map n, p.lo⟩⟩

/-- The segments before the centre segment on the run, nearest first. -/
def segsBehind (segs : List Nat) (n : Nat) : List Nat := if segs.contains n then (beforeSeg segs n).reverse else []

/-- The segments after the centre segment on the run. -/
def segsAhead (segs : List Nat) (n : Nat) : List Nat := if segs.contains n then afterSeg segs n else []

/-- What stands behind the centre segment, nearest first. -/
def placedBehind (map : Table Segment) (segs : List Nat) (c : Centre) : List Placed :=
  placeBehind map c.seg c.dir (placeCentre map c).lo (segsBehind segs c.seg)

theorem layOut_eq (map : Table Segment) (segs : List Nat) (c : Centre) :
    layOut map segs c
      = (placedBehind map segs c).reverse
        ++ placeCentre map c :: placeAhead map c.seg c.dir (placeCentre map c).hi (segsAhead segs c.seg) := rfl

theorem layOut_chain (map : Table Segment) (segs : List Nat) (c : Centre) :
    (layOut map segs c).IsChain (Joined map) := by
  have hbehind : ((placedBehind map segs c).reverse ++ [placeCentre map c]).IsChain (Joined map) := by
    rw [← List.reverse_cons, List.isChain_reverse]
    exact placeBehind_chain map (segsBehind segs c.seg) (placeCentre map c)
  have hahead : (placeCentre map c :: placeAhead map c.seg c.dir (placeCentre map c).hi
      (segsAhead segs c.seg)).IsChain (Joined map) := placeAhead_chain map (segsAhead segs c.seg) (placeCentre map c)
  rw [layOut_eq]
  simpa using List.IsChain.append_overlap (l₂ := [placeCentre map c]) hbehind hahead (by simp)

/-! ## Each segment over its length -/

theorem placeAhead_length (map : Table Segment) (l : List Nat) : ∀ (n : Nat) (d : Direction) (x : Int),
    ∀ p ∈ placeAhead map n d x l, p.hi = p.lo + lengthUm map p.seg := by
  induction l with
  | nil => simp [placeAhead]
  | cons m rest ih =>
    intro n d x p hp
    simp only [placeAhead] at hp
    split at hp
    · simp at hp
    · obtain rfl | hp := List.mem_cons.1 hp
      · rfl
      · exact ih _ _ _ p hp

theorem placeBehind_length (map : Table Segment) (l : List Nat) : ∀ (n : Nat) (d : Direction) (x : Int),
    ∀ p ∈ placeBehind map n d x l, p.hi = p.lo + lengthUm map p.seg := by
  induction l with
  | nil => simp [placeBehind]
  | cons m rest ih =>
    intro n d x p hp
    simp only [placeBehind] at hp
    split at hp
    · simp at hp
    · obtain rfl | hp := List.mem_cons.1 hp
      · simp
      · exact ih _ _ _ p hp

theorem layOut_length (map : Table Segment) (segs : List Nat) (c : Centre) :
    ∀ p ∈ layOut map segs c, p.hi = p.lo + lengthUm map p.seg := by
  intro p hp
  rw [layOut_eq, List.mem_append, List.mem_reverse, List.mem_cons] at hp
  obtain hp | rfl | hp := hp
  · exact placeBehind_length map _ _ _ _ p hp
  · simp only [placeCentre]; omega
  · exact placeAhead_length map _ _ _ _ p hp

/-! ## The segments laid out are a stretch of the run -/

theorem placeAhead_segs (map : Table Segment) (l : List Nat) : ∀ (n : Nat) (d : Direction) (x : Int),
    (placeAhead map n d x l).map Placed.seg <+: l := by
  induction l with
  | nil => simp [placeAhead]
  | cons m rest ih =>
    intro n d x
    simp only [placeAhead]
    split
    · simp
    · exact (List.prefix_cons_inj m).2 (ih _ _ _)

theorem placeBehind_segs (map : Table Segment) (l : List Nat) : ∀ (n : Nat) (d : Direction) (x : Int),
    (placeBehind map n d x l).map Placed.seg <+: l := by
  induction l with
  | nil => simp [placeBehind]
  | cons m rest ih =>
    intro n d x
    simp only [placeBehind]
    split
    · simp
    · exact (List.prefix_cons_inj m).2 (ih _ _ _)

theorem layOut_segs (map : Table Segment) {segs : List Nat} {c : Centre} (h : c.seg ∈ segs) :
    (layOut map segs c).map Placed.seg <:+: segs := by
  obtain ⟨hsegs, -⟩ := beforeSeg_afterSeg h
  have hcontains : segs.contains c.seg = true := by simpa using h
  obtain ⟨far, hfar⟩ : (placedBehind map segs c).map Placed.seg <+: (beforeSeg segs c.seg).reverse := by
    simpa only [placedBehind, segsBehind, hcontains, if_true] using placeBehind_segs map _ _ _ _
  obtain ⟨beyond, hbeyond⟩ :
      (placeAhead map c.seg c.dir (placeCentre map c).hi (segsAhead segs c.seg)).map Placed.seg
        <+: afterSeg segs c.seg := by
    simpa only [segsAhead, hcontains, if_true] using placeAhead_segs map _ _ _ _
  refine ⟨far.reverse, beyond, ?_⟩
  rw [← List.reverse_reverse (beforeSeg segs c.seg), ← hfar, ← hbeyond] at hsegs
  conv_rhs => rw [hsegs]
  simp [layOut_eq, placeCentre]

theorem State.layout_of_centre {s : State} {c : Centre} (h : s.pos.centre = some c) :
    s.layout = layOut s.pos.map s.runSegs c := by
  simp [State.layout, h]

theorem State.layout_chain (s : State) : s.layout.IsChain (Joined s.pos.map) := by
  unfold State.layout
  split
  · exact List.isChain_nil
  · exact layOut_chain _ _ _

theorem State.layout_length (s : State) : ∀ p ∈ s.layout, p.hi = p.lo + lengthUm s.pos.map p.seg := by
  unfold State.layout
  split
  · simp
  · exact layOut_length _ _ _

/-! ## Plates along the run (R5, R16) -/

theorem plateOffset_le {len k : Nat} (h : k ≤ 4) : plateOffset len k ≤ len := by
  unfold plateOffset
  exact Nat.div_le_of_le_mul (by nlinarith)

theorem plateOffset_mono {len j k : Nat} (h : j ≤ k) : plateOffset len j ≤ plateOffset len k :=
  Nat.div_le_div_right (Nat.mul_le_mul_right len h)

/-- The plates of a segment come in the order of travel. -/
theorem platesOf_sorted (map : Table Segment) (p : Placed) : (platesOf map p).Pairwise (fun x y => x.2 ≤ y.2) := by
  have h01 := plateOffset_mono (len := lengthOf map p.seg) (show 0 ≤ 1 by decide)
  have h12 := plateOffset_mono (len := lengthOf map p.seg) (show 1 ≤ 2 by decide)
  have h23 := plateOffset_mono (len := lengthOf map p.seg) (show 2 ≤ 3 by decide)
  cases hd : p.dir <;> simp [platesOf, Placed.at, hd] <;> omega

/-- The plates of a segment stand between its two ends. -/
theorem platesOf_within {map : Table Segment} {p : Placed} (h : p.hi = p.lo + lengthUm map p.seg) :
    ∀ x ∈ platesOf map p, p.lo ≤ x.2 ∧ x.2 ≤ p.hi := by
  intro x hx
  obtain ⟨k, hk, rfl⟩ : ∃ k ≤ 4, x = (⟨p.seg, k⟩, p.at (1000 * (plateOffset (lengthOf map p.seg) k : Int))) := by
    simp only [platesOf, List.mem_map] at hx
    obtain ⟨k, hk, rfl⟩ := hx
    refine ⟨k, ?_, rfl⟩
    split at hk <;> simp at hk <;> omega
  have hle := plateOffset_le (len := lengthOf map p.seg) hk
  simp only [lengthUm] at h
  cases hd : p.dir <;> simp only [Placed.at, hd] <;> omega

theorem lengthUm_nonneg (map : Table Segment) (n : Nat) : 0 ≤ lengthUm map n := by
  unfold lengthUm; omega

/-- On a run laid out link by link every later segment begins at or beyond the end of an earlier one. -/
theorem chain_ordered {map : Table Segment} {lay : List Placed} (hchain : lay.IsChain (Joined map))
    (hlen : ∀ p ∈ lay, p.hi = p.lo + lengthUm map p.seg) : lay.Pairwise (fun p q => p.hi ≤ q.lo) := by
  induction lay with
  | nil => simp
  | cons p rest ih =>
    have hrest := ih hchain.tail (fun q hq => hlen q (List.mem_cons_of_mem _ hq))
    refine List.pairwise_cons.2 ⟨fun q hq => ?_, hrest⟩
    cases rest with
    | nil => simp at hq
    | cons r rest =>
      have hjoin : r.lo = p.hi := (List.isChain_cons_cons.1 hchain).1.1
      have hr := hlen r (by simp)
      have hpos := lengthUm_nonneg map r.seg
      obtain rfl | hq := List.mem_cons.1 hq
      · omega
      · have := (List.pairwise_cons.1 hrest).1 q hq
        omega

theorem platesOn_sorted {map : Table Segment} {lay : List Placed} (hchain : lay.IsChain (Joined map))
    (hlen : ∀ p ∈ lay, p.hi = p.lo + lengthUm map p.seg) :
    (platesOn map lay).Pairwise (fun x y => x.2 ≤ y.2) := by
  unfold platesOn
  rw [List.pairwise_flatMap]
  refine ⟨fun p _ => platesOf_sorted map p, ?_⟩
  refine (List.Pairwise.and_mem.1 (chain_ordered hchain hlen)).imp ?_
  rintro p q ⟨hp, hq, hle⟩ x hx y hy
  have hxp := platesOf_within (hlen p hp) x hx
  have hyq := platesOf_within (hlen q hq) y hy
  omega

/-- In a list sorted by a coordinate, the first entry ahead of 0 is the nearest one ahead. -/
theorem find_ahead_le {α : Type} {l : List (α × Int)} (h : l.Pairwise (fun x y => x.2 ≤ y.2)) {x : α × Int}
    (hx : l.find? (fun m => decide (0 < m.2)) = some x) : ∀ y ∈ l, 0 < y.2 → x.2 ≤ y.2 := by
  intro y hy hpos
  obtain ⟨-, as, bs, rfl, has⟩ := List.find?_eq_some_iff_append.1 hx
  rw [List.pairwise_append, List.pairwise_cons] at h
  obtain ⟨-, ⟨hbs, -⟩, -⟩ := h
  rw [List.mem_append, List.mem_cons] at hy
  obtain hy | rfl | hy := hy
  · simpa [hpos] using has y hy
  · exact le_rfl
  · exact hbs y hy

theorem State.plateAhead_none {s : State} (h : plateAhead s.pos.map s.layout = none) :
    ∀ y ∈ platesOn s.pos.map s.layout, y.2 ≤ 0 := by
  simpa [plateAhead] using h

theorem State.plateAhead_some {s : State} {m : Marker} (h : plateAhead s.pos.map s.layout = some m) :
    ∃ x, (m, x) ∈ platesOn s.pos.map s.layout ∧ 0 < x
      ∧ ∀ y ∈ platesOn s.pos.map s.layout, 0 < y.2 → x ≤ y.2 := by
  obtain ⟨⟨n, x⟩, hfind, rfl⟩ := Option.map_eq_some_iff.1 h
  have hpos := List.find?_some hfind
  exact ⟨x, List.mem_of_find?_eq_some hfind, by simpa using hpos,
    find_ahead_le (platesOn_sorted s.layout_chain s.layout_length) hfind⟩

/-! ## Moving the centre (R11, R12) -/

/-- The distance from the centre to the end it travels toward, in µm. -/
def Centre.room (map : Table Segment) (c : Centre) : Nat :=
  match c.dir with
  | .forward => 1000 * lengthOf map c.seg - c.offset
  | .reverse => c.offset

theorem placeCentre_hi {map : Table Segment} {c : Centre} (h : c.offset ≤ 1000 * lengthOf map c.seg) :
    (placeCentre map c).hi = (c.room map : Int) := by
  cases hd : c.dir <;> simp only [placeCentre, centreIn, Centre.room, lengthUm, hd] <;> omega

/-- The point `d` µm ahead in the centre segment. -/
theorem placeCentre_centreAt (map : Table Segment) (c : Centre) (d : Nat) :
    (placeCentre map c).centreAt d
      = { c with offset := match c.dir with | .forward => c.offset + d | .reverse => c.offset - d } := by
  cases hdir : c.dir <;>
    simp only [placeCentre, Placed.centreAt, centreIn, hdir, Centre.mk.injEq, true_and, and_true] <;> omega

/-- A move that stays in the centre segment. -/
theorem moveCentre_within {map : Table Segment} {segs : List Nat} {c : Centre} {d : Nat} (hpos : 0 < d)
    (h : c.offset ≤ 1000 * lengthOf map c.seg) (hd : d < c.room map) :
    moveCentre (placedAhead map segs c) c d
      = ({ c with offset := match c.dir with | .forward => c.offset + d | .reverse => c.offset - d }, false) := by
  have hhi := placeCentre_hi h
  have hfind : (placedAhead map segs c).find? (fun p => decide ((d : Int) < p.hi)) = some (placeCentre map c) := by
    simp only [placedAhead, List.find?_cons]
    rw [show decide ((d : Int) < (placeCentre map c).hi) = true by rw [hhi]; simpa using hd]
  simp only [moveCentre, Nat.pos_iff_ne_zero.1 hpos, if_false, hfind]
  rw [placeCentre_centreAt]

/-- What stands ahead of a centre that is on the run. -/
theorem placedAhead_of_run {map : Table Segment} {before after : List Nat} {c : Centre} (h : c.seg ∉ before) :
    placedAhead map (before ++ c.seg :: after) c
      = placeCentre map c :: placeAhead map c.seg c.dir (placeCentre map c).hi after := by
  simp [placedAhead, afterSeg_append h]

/-- A move through the link at the leaving end into the next segment. -/
theorem moveCentre_next {map : Table Segment} {before after : List Nat} {n : Nat} {c : Centre} {l : Link} {d : Nat}
    (hpos : 0 < d) (h : c.offset ≤ 1000 * lengthOf map c.seg) (hbefore : c.seg ∉ before)
    (hlink : linkTo map c.seg c.dir.leaving n = some l) (hroom : c.room map ≤ d)
    (hnext : d - c.room map < 1000 * lengthOf map n) :
    moveCentre (placedAhead map (before ++ c.seg :: n :: after) c) c d
      = ({ seg := n, dir := l.far.enterDir,
           offset := match l.far with
             | .a => d - c.room map
             | .b => 1000 * lengthOf map n - (d - c.room map) }, false) := by
  have hhi := placeCentre_hi h
  have hfind : (placedAhead map (before ++ c.seg :: n :: after) c).find? (fun p => decide ((d : Int) < p.hi))
      = some ⟨n, l.far.enterDir, (placeCentre map c).hi, (placeCentre map c).hi + lengthUm map n⟩ := by
    rw [placedAhead_of_run hbefore]
    simp only [placeAhead, hlink, List.find?_cons]
    rw [show decide ((d : Int) < (placeCentre map c).hi) = false by rw [hhi]; simpa using hroom,
      show decide ((d : Int) < (placeCentre map c).hi + lengthUm map n) = true by
        simp only [hhi, lengthUm, decide_eq_true_eq]; omega]
  simp only [moveCentre, Nat.pos_iff_ne_zero.1 hpos, if_false, hfind, Placed.centreAt, hhi, lengthUm]
  cases l.far <;> simp only [End.enterDir, Prod.mk.injEq, Centre.mk.injEq, true_and, and_true] <;> omega

/-- A move to the end of a run that has no more. -/
theorem moveCentre_end {map : Table Segment} {before : List Nat} {c : Centre} {d : Nat} (hpos : 0 < d)
    (h : c.offset ≤ 1000 * lengthOf map c.seg) (hbefore : c.seg ∉ before) (hroom : c.room map ≤ d) :
    moveCentre (placedAhead map (before ++ [c.seg]) c) c d
      = ({ c with offset := match c.dir with | .forward => 1000 * lengthOf map c.seg | .reverse => 0 },
          decide (c.room map < d)) := by
  have hhi := placeCentre_hi h
  have hfind : (placedAhead map (before ++ [c.seg]) c).find? (fun p => decide ((d : Int) < p.hi)) = none := by
    rw [placedAhead_of_run hbefore]
    simpa [placeAhead, hhi] using hroom
  have hlast : (placedAhead map (before ++ [c.seg]) c).getLast? = some (placeCentre map c) := by
    rw [placedAhead_of_run hbefore]; rfl
  simp only [moveCentre, Nat.pos_iff_ne_zero.1 hpos, if_false, hfind, hlast, hhi, Nat.cast_lt]
  rw [placeCentre_centreAt]
  congr 2
  cases hd : c.dir <;> simp only [Centre.room, hd] <;> omega

end Sys2Proof.Machine
end

section
/-! PROOFS. Dead reckoning, the miss check and the entry and exit events of a control step (R11, R12, R16, R19, R20). -/

namespace Sys2Proof.Machine

open Sys2Proof.Safety

/-! ## POSITION_LOST -/

/-- POSITION_LOST puts the miss count at 2 and clears the expected marker; outside SETUP it halts the station, and an
empty Fault Record captures it (R12, R16). -/
theorem State.positionLost_spec (s : State) (t seg : Nat) :
    (s.positionLost t seg).pos.centre = s.pos.centre ∧ (s.positionLost t seg).pos.misses = 2
      ∧ (s.positionLost t seg).pos.expected = none
      ∧ (s.control.state ≠ .setup → (s.positionLost t seg).control.state = .halted
          ∧ Cause.positionLost ∈ (s.positionLost t seg).control.causes)
      ∧ (s.notice.fault = none → ∃ r, (s.positionLost t seg).notice.fault = some r ∧ r.kind = .positionLost
          ∧ r.seg = some seg) := by
  obtain ⟨-, hcentre, hmisses, -, -, -, -, -, hexpected⟩ :=
    State.haltWith_bodyKept (s.setPos { s.pos with expected := none, misses := 2 }) t
      { notice := .positionLost, fault := .positionLost, cause := .positionLost, station := none, seg := some seg,
        detail := none, faultDetail := none }
  refine ⟨hcentre, hmisses, hexpected rfl rfl, fun hs => State.haltWith_control t _ hs, fun hfault => ?_⟩
  obtain ⟨q, hq, hkind, -, hseg, -, -⟩ := State.haltWith_fault
    (s := s.setPos { s.pos with expected := none, misses := 2 }) t
    { notice := .positionLost, fault := .positionLost, cause := .positionLost, station := none, seg := some seg,
      detail := none, faultDetail := none } hfault
  exact ⟨q, hq, hkind, hseg⟩

/-! ## Dead reckoning -/

theorem State.reckon_of_moved {s : State} {c c' : Centre} (t : Nat) {um : Nat} (hc : s.pos.centre = some c)
    (hmove : moveCentre (placedAhead s.pos.map s.runSegs c) c um = (c', false)) :
    s.reckon t um = s.setPos { s.pos with centre := some c' } := by
  simp [State.reckon, hc, hmove]

/-- A centre that comes to the end of the run but no further, or whose POSITION_LOST was raised before, is only moved. -/
theorem State.reckon_of_stopped {s : State} {c c' : Centre} (t : Nat) {um : Nat} {past : Bool}
    (hc : s.pos.centre = some c) (hmove : moveCentre (placedAhead s.pos.map s.runSegs c) c um = (c', past))
    (h : past = false ∨ s.pos.endLost = true) : s.reckon t um = s.setPos { s.pos with centre := some c' } := by
  simp only [State.reckon, hc, hmove]
  obtain rfl | h := h
  · simp
  · simp [h]

/-- The first step past the end of the run raises POSITION_LOST with the segment the centre stops in (R12). -/
theorem State.reckon_of_lost {s : State} {c c' : Centre} (t : Nat) {um : Nat} (hc : s.pos.centre = some c)
    (hmove : moveCentre (placedAhead s.pos.map s.runSegs c) c um = (c', true)) (h : s.pos.endLost = false) :
    s.reckon t um
      = (s.setPos { s.pos with centre := some c', endLost := true }).positionLost t c'.seg := by
  simp only [State.reckon, hc, hmove, h]
  rfl

/-- What reckoning does at the end of a run, `c'` being the centre at that end. -/
theorem State.reckon_at_end {s : State} {c c' : Centre} (t : Nat) {um room : Nat} (hc : s.pos.centre = some c)
    (hmove : moveCentre (placedAhead s.pos.map s.runSegs c) c um = (c', decide (room < um))) :
    (s.reckon t um).pos.centre = some c'
      ∧ (room < um → s.pos.endLost = false → s.control.state = .joining ∨ s.control.state = .running →
          (s.reckon t um).control.state = .halted ∧ Cause.positionLost ∈ (s.reckon t um).control.causes
          ∧ (s.reckon t um).pos.misses = 2 ∧ (s.reckon t um).pos.expected = none
          ∧ (s.notice.fault = none → ∃ r, (s.reckon t um).notice.fault = some r ∧ r.kind = .positionLost
              ∧ r.seg = some c'.seg))
      ∧ (room = um ∨ s.pos.endLost = true → (s.reckon t um).control = s.control) := by
  by_cases hlost : room < um ∧ s.pos.endLost = false
  · obtain ⟨hpast, hfirst⟩ := hlost
    rw [State.reckon_of_lost t hc (by rw [hmove, decide_eq_true hpast]) hfirst]
    obtain ⟨hcentre, hmisses, hexpected, hhalt, hfault⟩ :=
      (s.setPos { s.pos with centre := some c', endLost := true }).positionLost_spec t c'.seg
    refine ⟨hcentre, fun _ _ hs => ?_, fun h => ?_⟩
    · obtain ⟨hstate, hcause⟩ := hhalt (by obtain hs | hs := hs <;> simp [hs])
      exact ⟨hstate, hcause, hmisses, hexpected, hfault⟩
    · obtain h | h := h
      · omega
      · simp [hfirst] at h
  · have hstop : decide (room < um) = false ∨ s.pos.endLost = true := by
      by_cases h : room < um
      · exact .inr (by simpa using not_and.1 hlost h)
      · exact .inl (decide_eq_false h)
    rw [State.reckon_of_stopped t hc hmove hstop]
    exact ⟨rfl, fun hpast hfirst => absurd ⟨hpast, hfirst⟩ hlost, fun _ => rfl⟩

/-! ## The miss check -/

theorem State.missCheck_of_ahead {s : State} (t : Nat) {m : Marker} {x : Int} (hm : s.pos.expected = some m)
    (hx : plateAt s.pos.map s.layout m = some x) (h : -x ≤ 2000 * (s.params.tolerance : Int)) : s.missCheck t = s := by
  simp only [State.missCheck, hm, hx]
  exact if_pos (by simp only [State.tol]; omega)

/-- A marker passed by more than 2T is missed, by the miss count so far. -/
theorem State.missCheck_of_passed {s : State} (t : Nat) {m : Marker} {x : Int} (hm : s.pos.expected = some m)
    (hx : plateAt s.pos.map s.layout m = some x) (h : 2000 * (s.params.tolerance : Int) < -x) :
    s.missCheck t
      = if s.pos.misses = 0 then
          ((s.setPos { s.pos with misses := 1 }).chooseExpected).raise
            { Notice.plain .tagMissed t with seg := some m.seg, detail := some m.plate }
        else if s.pos.misses = 1 then s.positionLost t m.seg
        else s := by
  simp only [State.missCheck, hm, hx]
  exact if_neg (by simp only [State.tol]; omega)

/-! ## Entry and exit events -/

theorem reached_contains (lay : List Placed) (h tol : Int) (n : Nat) :
    (reached lay h tol).contains n = true ↔ ∃ p ∈ lay, p.seg = n ∧ p.lo ≤ h + tol := by
  simp only [reached, List.contains_eq_mem, decide_eq_true_eq, List.mem_map, List.mem_filter, and_assoc]
  exact exists_congr (fun p => and_congr_right (fun _ => and_comm))

theorem cleared_contains (lay : List Placed) (h tol : Int) (n : Nat) :
    (cleared lay h tol).contains n = true ↔ ∃ p ∈ lay, p.seg = n ∧ p.hi < -h - tol := by
  simp only [cleared, List.contains_eq_mem, decide_eq_true_eq, List.mem_map, List.mem_filter, and_assoc]
  exact exists_congr (fun p => and_congr_right (fun _ => and_comm))

theorem State.giveBack_nil (s : State) (t : Nat) : s.giveBack t [] = s := rfl

theorem State.giveBack_of_ne_nil (s : State) (t : Nat) {segs : List Nat} (h : segs ≠ []) :
    s.giveBack t segs
      = (s.setClaim { s.claim with held := s.claim.held.filter (fun e => !segs.contains e.seg) }).send t 255
          (.release segs) := by
  simp [State.giveBack, h]

/-- A RELEASE offered to a transmit queue with room joins it at the tail (R44, R45). -/
theorem State.send_release {s : State} (t : Nat) (segs : List Nat) (h : s.line.tx.length < 24) :
    s.send t 255 (.release segs) = s.enqueue 255 (.fixed (.release segs)) := by
  have hmerge : s.line.tx.any (mergesWith 255 (.fixed (.release segs))) = false := by
    simp [mergesWith]
  simp [State.send, State.offer, hmerge, TxContent.kind, Body.kind, h]

end Sys2Proof.Machine

namespace Sys2Proof.Proofs

open Sys2Proof.Machine Sys2Proof.Safety

/-- R10: the layout holds the centre segment about the centre, each segment over its length, in the order of the run,
neighbours joined by their links. -/
theorem layout_follows_the_run {s : State} {c : Centre} (hc : s.pos.centre = some c) :
    (∃ p ∈ s.layout, p.seg = c.seg ∧ p.dir = c.dir ∧ (c.dir = .forward → p.lo = -(c.offset : Int))
      ∧ (c.dir = .reverse → p.hi = (c.offset : Int)))
    ∧ (∀ p ∈ s.layout, p.hi = p.lo + 1000 * (lengthOf s.pos.map p.seg : Int))
    ∧ (c.seg ∈ s.runSegs → s.layout.map Placed.seg <:+: s.runSegs)
    ∧ ∀ i p q, s.layout[i]? = some p → s.layout[i + 1]? = some q → q.lo = p.hi
        ∧ ((∃ l, linkTo s.pos.map p.seg p.dir.leaving q.seg = some l ∧ q.dir = l.far.enterDir)
          ∨ ∃ l, linkTo s.pos.map q.seg q.dir.entering p.seg = some l ∧ p.dir = l.far.leaveDir) := by
  refine ⟨⟨placeCentre s.pos.map c, ?_, rfl, rfl, fun hd => ?_, fun hd => ?_⟩, s.layout_length, fun hin => ?_,
    fun i p q hp hq => ?_⟩
  · rw [State.layout_of_centre hc, layOut_eq]; simp
  · simp [placeCentre, centreIn, hd]
  · simp [placeCentre, centreIn, hd]
  · rw [State.layout_of_centre hc]; exact layOut_segs _ hin
  · obtain ⟨hi, rfl⟩ := List.getElem?_eq_some_iff.1 hp
    obtain ⟨hj, rfl⟩ := List.getElem?_eq_some_iff.1 hq
    exact List.isChain_iff_getElem.1 s.layout_chain i hj

/-- R11, R12: where a step takes the centre. -/
theorem reckon_moves_the_centre (s : State) (t um room : Nat) (c : Centre) (hc : s.pos.centre = some c) (hum : 0 < um)
    (hoff : c.offset ≤ 1000 * lengthOf s.pos.map c.seg) (hroom : room = c.room s.pos.map) :
    (um < room → s.reckon t um = s.setPos
      { s.pos with
        centre := some { c with offset := match c.dir with | .forward => c.offset + um | .reverse => c.offset - um } })
    ∧ (∀ before n after l, s.runSegs = before ++ c.seg :: n :: after → c.seg ∉ before →
        linkTo s.pos.map c.seg c.dir.leaving n = some l → room ≤ um → um - room < 1000 * lengthOf s.pos.map n →
        s.reckon t um = s.setPos
          { s.pos with
            centre := some
              { seg := n, dir := l.far.enterDir
                offset := match l.far with
                  | .a => um - room
                  | .b => 1000 * lengthOf s.pos.map n - (um - room) } })
    ∧ (∀ before, s.runSegs = before ++ [c.seg] → c.seg ∉ before → room ≤ um →
        (s.reckon t um).pos.centre = some
          { c with offset := match c.dir with | .forward => 1000 * lengthOf s.pos.map c.seg | .reverse => 0 }
        ∧ (room < um → s.pos.endLost = false → s.control.state = .joining ∨ s.control.state = .running →
            (s.reckon t um).control.state = .halted ∧ Cause.positionLost ∈ (s.reckon t um).control.causes
            ∧ (s.reckon t um).pos.misses = 2 ∧ (s.reckon t um).pos.expected = none
            ∧ (s.notice.fault = none → ∃ r, (s.reckon t um).notice.fault = some r ∧ r.kind = .positionLost
                ∧ r.seg = some c.seg))
        ∧ (room = um ∨ s.pos.endLost = true → (s.reckon t um).control = s.control)) := by
  subst hroom
  refine ⟨fun hlt => ?_, fun before n after l hrun hbefore hlink hle hnext => ?_, fun before hrun hbefore hle => ?_⟩
  · exact State.reckon_of_moved t hc (moveCentre_within hum hoff hlt)
  · refine State.reckon_of_moved t hc ?_
    rw [hrun]
    exact moveCentre_next hum hoff hbefore hlink hle hnext
  · have hmove := moveCentre_end hum hoff hbefore hle
    rw [← hrun] at hmove
    exact State.reckon_at_end t hc hmove

/-- R16: what the miss check makes of an expected marker that is on the layout. -/
theorem missCheck_judges_the_marker (s : State) (t : Nat) (m : Marker) (x : Int) (hm : s.pos.expected = some m)
    (hx : plateAt s.pos.map s.layout m = some x) :
    (-x ≤ 2000 * (s.params.tolerance : Int) → s.missCheck t = s)
    ∧ (2000 * (s.params.tolerance : Int) < -x →
      (s.pos.misses = 0 →
        (s.missCheck t).pos
          = { s.pos with misses := 1, expected := plateAhead s.pos.map s.layout }
        ∧ (RoomFor s.notice .tagMissed 1 →
            (s.missCheck t).notice.queue
              = s.notice.queue ++ [{ Notice.plain .tagMissed t with seg := some m.seg, detail := some m.plate }]))
      ∧ (s.pos.misses = 1 →
        (s.missCheck t).pos.misses = 2 ∧ (s.missCheck t).pos.expected = none
        ∧ (s.missCheck t).pos.centre = s.pos.centre
        ∧ (s.control.state = .joining ∨ s.control.state = .running →
            (s.missCheck t).control.state = .halted ∧ Cause.positionLost ∈ (s.missCheck t).control.causes)
        ∧ (s.notice.fault = none → ∃ r, (s.missCheck t).notice.fault = some r ∧ r.kind = .positionLost
            ∧ r.seg = some m.seg))
      ∧ (s.pos.misses = 2 → s.missCheck t = s)) := by
  refine ⟨State.missCheck_of_ahead t hm hx, fun hpassed => ?_⟩
  rw [State.missCheck_of_passed t hm hx hpassed]
  refine ⟨fun h0 => ?_, fun h1 => ?_, fun h2 => ?_⟩
  · rw [if_pos h0]
    refine ⟨?_, fun hroom => State.raise_queue hroom⟩
    obtain ⟨-, -, -, -, -, hpos, -⟩ := State.raise_frame
      ((s.setPos { s.pos with misses := 1 }).chooseExpected)
      { Notice.plain .tagMissed t with seg := some m.seg, detail := some m.plate }
    rw [hpos]
    rfl
  · rw [if_neg (by omega), if_pos h1]
    obtain ⟨hcentre, hmisses, hexpected, hhalt, hfault⟩ := s.positionLost_spec t m.seg
    exact ⟨hmisses, hexpected, hcentre, fun hs => hhalt (by obtain hs | hs := hs <;> simp [hs]), hfault⟩
  · rw [if_neg (by omega), if_neg (by omega)]

/-- R20, R62: the held segments left behind leave the held list in one RELEASE. -/
theorem exitEvents_release (s : State) (t : Nat) (gone : List Nat)
    (hgone : gone = (heldSegs s.claim.held).filter (fun n =>
      decide (∃ p ∈ s.layout, p.seg = n ∧ p.hi < -s.half - 1000 * (s.params.tolerance : Int)))) :
    (gone = [] → s.exitEvents t = s)
      ∧ (gone ≠ [] →
        (s.exitEvents t).claim
          = { s.claim with held := s.claim.held.filter (fun e => !gone.contains e.seg) }
        ∧ (s.line.tx.length < 24 →
            (s.exitEvents t).line.tx = s.line.tx ++ [⟨255, .fixed (.release gone), 0, false, false⟩])) := by
  have hexit : s.exitEvents t = s.giveBack t gone := by
    simp only [State.exitEvents]
    rw [hgone]
    congr 1
    refine List.filter_congr (fun n _ => ?_)
    rw [Bool.eq_iff_iff, cleared_contains, decide_eq_true_eq]
    rfl
  rw [hexit]
  refine ⟨fun h => by rw [h, State.giveBack_nil], fun h => ?_⟩
  rw [State.giveBack_of_ne_nil s t h]
  refine ⟨by simp, fun hroom => ?_⟩
  rw [State.send_release t gone]
  · rfl
  · exact hroom

/-- Settles O40: the layout, the moves of the centre, the miss check and the two kinds of event, each by its own
theorem. -/
theorem positionStepMovesTheBody : Obligations.PositionStepMovesTheBody := by
  refine ⟨fun _ _ _ => rfl, fun s c hc => layout_follows_the_run hc, fun s t um room c hc hum hoff hroom => ?_,
    fun _ => rfl, fun s => ⟨State.plateAhead_none, fun m hm => State.plateAhead_some hm⟩,
    fun s t m x hm hx => missCheck_judges_the_marker s t m x hm hx, fun s => ?_, exitEvents_release⟩
  · exact reckon_moves_the_centre s t um room c hc hum hoff hroom
  · simp only [State.entryEvents, reached_contains]
    rfl

end Sys2Proof.Proofs
end

section
/-! PROOFS. When a reversal is pending and what taking it does (R13, R148); when an order has arrived and what its end
action does (R149, R163, R168). -/

namespace Sys2Proof.Machine

open Sys2Proof.Safety

/-! ## Judging a reversal (R148) -/

theorem linkTo_isSome_iff {map : Table Segment} {seg n : Nat} {e : End} :
    (linkTo map seg e n).isSome = true ↔ HasLink map seg e n := by
  simp [linkTo, HasLink]

theorem linkTo_isNone_iff {map : Table Segment} {seg n : Nat} {e : End} :
    (linkTo map seg e n).isNone = true ↔ ¬HasLink map seg e n := by
  rw [← linkTo_isSome_iff, Option.isNone_iff_eq_none, Option.not_isSome_iff_eq_none]

/-- The path's next segment asks for the other direction. -/
theorem State.wantsReversal_of_next {s : State} {o : Order} {c : Centre} {before after : List Nat} {n : Nat}
    (ho : s.activeOrder = some o) (hc : s.pos.centre = some c) (hpath : o.path = before ++ c.seg :: n :: after)
    (hbefore : c.seg ∉ before) :
    s.wantsReversal = true
      ↔ HasLink s.pos.map c.seg c.dir.entering n ∧ ¬HasLink s.pos.map c.seg c.dir.leaving n := by
  have hafter : (afterSeg o.path c.seg).head? = some n := by rw [hpath, afterSeg_append hbefore]; rfl
  have hon : o.path.contains c.seg = true := by simp [hpath]
  simp only [State.wantsReversal, ho, hc, hon, if_true, hafter, Bool.and_eq_true, linkTo_isSome_iff,
    linkTo_isNone_iff]

/-- In the path's last segment the end point asks for it: it lies more than 10 mm behind the centre. -/
theorem State.wantsReversal_of_last {s : State} {o : Order} {c : Centre} {before : List Nat}
    (ho : s.activeOrder = some o) (hc : s.pos.centre = some c) (hpath : o.path = before ++ [c.seg])
    (hbefore : c.seg ∉ before) :
    s.wantsReversal = true
      ↔ (c.dir = .forward ∧ 1000 * o.endOffset + 10000 < c.offset)
        ∨ (c.dir = .reverse ∧ c.offset + 10000 < 1000 * o.endOffset) := by
  have hafter : (afterSeg o.path c.seg).head? = none := by rw [hpath, afterSeg_append hbefore]; rfl
  have hon : o.path.contains c.seg = true := by simp [hpath]
  simp only [State.wantsReversal, ho, hc, hon, if_true, hafter, decide_eq_true_eq]
  cases hd : c.dir <;> simp [Placed.at, placeCentre, centreIn, hd] <;> omega

/-- A pending reversal has an ACTIVE order whose path goes through the centre segment. -/
theorem State.path_of_wantsReversal {s : State} (h : s.wantsReversal = true) :
    ∃ o c before after, s.activeOrder = some o ∧ s.pos.centre = some c
      ∧ o.path = before ++ c.seg :: after ∧ c.seg ∉ before := by
  cases ho : s.activeOrder with
  | none => simp [State.wantsReversal, ho] at h
  | some o =>
    cases hc : s.pos.centre with
    | none => simp [State.wantsReversal, ho, hc] at h
    | some c =>
      have hon : c.seg ∈ o.path := by
        by_contra hoff
        simp [State.wantsReversal, ho, hc, hoff] at h
      obtain ⟨hpath, hbefore⟩ := beforeSeg_afterSeg hon
      exact ⟨o, c, _, _, rfl, rfl, hpath, hbefore⟩

theorem State.wantsReversal_iff (s : State) :
    s.wantsReversal = true ↔
      ∃ o c before, s.activeOrder = some o ∧ s.pos.centre = some c ∧ c.seg ∉ before
        ∧ ((∃ n after, o.path = before ++ c.seg :: n :: after
              ∧ HasLink s.pos.map c.seg c.dir.entering n ∧ ¬HasLink s.pos.map c.seg c.dir.leaving n)
          ∨ (o.path = before ++ [c.seg]
              ∧ ((c.dir = .forward ∧ 1000 * o.endOffset + 10000 < c.offset)
                ∨ (c.dir = .reverse ∧ c.offset + 10000 < 1000 * o.endOffset)))) := by
  constructor
  · intro h
    obtain ⟨o, c, before, after, ho, hc, hpath, hbefore⟩ := State.path_of_wantsReversal h
    refine ⟨o, c, before, ho, hc, hbefore, ?_⟩
    cases after with
    | nil => exact .inr ⟨hpath, (State.wantsReversal_of_last ho hc hpath hbefore).1 h⟩
    | cons n after => exact .inl ⟨n, after, hpath, (State.wantsReversal_of_next ho hc hpath hbefore).1 h⟩
  · rintro ⟨o, c, before, ho, hc, hbefore, ⟨n, after, hpath, hturn⟩ | ⟨hpath, hbehind⟩⟩
    · exact (State.wantsReversal_of_next ho hc hpath hbefore).2 hturn
    · exact (State.wantsReversal_of_last ho hc hpath hbefore).2 hbehind

/-! ## What taking a reversal makes of the held list (R13, R19, R20) -/

/-- The marks of the held entries play no part in the layout. -/
theorem State.layout_congr {s u : State} (hmap : u.pos.map = s.pos.map) (hcentre : u.pos.centre = s.pos.centre)
    (hheld : heldSegs u.claim.held = heldSegs s.claim.held) (horders : u.orders = s.orders) :
    u.layout = s.layout := by
  simp only [State.layout, State.runSegs, State.currentOrder, State.frontMost, hmap, hcentre, hheld, horders]

@[simp] theorem State.entryEvents_heldSegs (s : State) :
    heldSegs s.entryEvents.claim.held = heldSegs s.claim.held := by
  simp only [State.entryEvents, heldSegs, State.setClaim_claim, List.map_map]
  exact List.map_congr_left (fun e _ => by simp only [Function.comp]; split <;> rfl)

@[simp] theorem State.capEntry_reversalPending (s : State) (t : Nat) (before : List Nat) :
    (s.capEntry t before).motion.reversalPending = s.motion.reversalPending := by
  unfold State.capEntry; (repeat' split) <;> simp [State.setCommanded]

/-- The exit events keep exactly the held entries whose segment is not wholly behind. -/
theorem State.exitEvents_held (s : State) (t : Nat) :
    (s.exitEvents t).claim.held
      = s.claim.held.filter (fun e => !(cleared s.layout s.half s.tol).contains e.seg)
    ∧ (s.exitEvents t).claim.waited = s.claim.waited := by
  have hfilter : ∀ gone, gone = (heldSegs s.claim.held).filter (fun n => (cleared s.layout s.half s.tol).contains n) →
      s.claim.held.filter (fun e => !gone.contains e.seg)
        = s.claim.held.filter (fun e => !(cleared s.layout s.half s.tol).contains e.seg) := by
    rintro gone rfl
    refine List.filter_congr (fun e he => ?_)
    have hseg : e.seg ∈ heldSegs s.claim.held := List.mem_map_of_mem he
    simp [hseg]
  simp only [State.exitEvents]
  generalize hgone : (heldSegs s.claim.held).filter (fun n => (cleared s.layout s.half s.tol).contains n) = gone
  rw [← hfilter gone hgone.symm]
  by_cases hnil : gone = []
  · subst hnil
    rw [State.giveBack_nil]
    simp
  · rw [State.giveBack_of_ne_nil s t hnil]
    simp

/-- The held list after the events of a moved body, in terms of the layout before them. -/
theorem State.bodyMoved_held (s : State) (t : Nat) (before : List Nat) :
    (s.bodyMoved t before).claim.held
      = (s.claim.held.map (fun e =>
          if (reached s.layout s.half s.tol).contains e.seg then { e with mark := .occupied } else e)).filter
        (fun e => !(cleared s.layout s.half s.tol).contains e.seg)
    ∧ (s.bodyMoved t before).claim.waited = s.claim.waited
    ∧ (s.bodyMoved t before).motion.reversalPending = s.motion.reversalPending := by
  have hcap : (s.capEntry t before).layout = s.layout :=
    State.layout_congr (by simp) (by simp) (by simp) (by simp)
  have hentry : (s.capEntry t before).entryEvents.layout = s.layout :=
    (State.layout_congr (by simp) (by simp) (by simp) (by simp)).trans hcap
  obtain ⟨hheld, hwaited⟩ := State.exitEvents_held (s.capEntry t before).entryEvents t
  simp only [State.bodyMoved, hheld, hwaited, hentry, State.half, State.halfLength, State.tol]
  simp [State.entryEvents, hcap, State.half, State.halfLength, State.tol]

/-- The turned body: the centre's direction flipped and the held list reversed. -/
def State.turned (s : State) : State :=
  (s.setPos { s.pos with centre := s.pos.centre.map (fun c => { c with dir := c.dir.flip }) }).setClaim
    { s.claim with held := s.claim.held.reverse }

theorem State.takeReversal_body (s : State) (t : Nat) :
    (s.takeReversal t).pos.centre = s.turned.pos.centre ∧ (s.takeReversal t).pos.misses = s.pos.misses
      ∧ (s.takeReversal t).motion.reversalPending = false ∧ (s.takeReversal t).claim.waited = s.claim.waited
      ∧ (s.takeReversal t).claim.held
        = (s.claim.held.reverse.map (fun e =>
            if (reached s.turned.layout s.half s.tol).contains e.seg then { e with mark := .occupied } else e)).filter
          (fun e => !(cleared s.turned.layout s.half s.tol).contains e.seg) := by
  have hlayout : ((s.turned.setMotion { s.motion with reversalPending := false }).chooseExpected).layout
      = s.turned.layout := State.layout_congr (by simp [State.chooseExpected]) (by simp) (by simp) (by simp)
  obtain ⟨hheld, hwaited, hpending⟩ := State.bodyMoved_held
    ((s.turned.setMotion { s.motion with reversalPending := false }).chooseExpected) t (underBody s.layout s.half)
  rw [hlayout] at hheld
  obtain ⟨-, hcentre, hmisses, -, -, hkept, hkeptWaited, hkeptPending, -⟩ := State.newAuthority_bodyKept
    (((s.turned.setMotion { s.motion with reversalPending := false }).chooseExpected).bodyMoved t
      (underBody s.layout s.half)) t
  have htake : s.takeReversal t
      = (((s.turned.setMotion { s.motion with reversalPending := false }).chooseExpected).bodyMoved t
          (underBody s.layout s.half)).newAuthority t := rfl
  rw [htake, hcentre, hmisses, hkept, hkeptWaited, hkeptPending, hheld, hwaited, hpending]
  refine ⟨by simp, by simp [State.turned], by simp, by simp [State.turned], ?_⟩
  simp [State.turned, State.half, State.halfLength, State.tol]

theorem Direction.flip_eq (d : Direction) :
    d.flip = match d with | .forward => .reverse | .reverse => .forward := by
  cases d <;> rfl

/-- A segment under the body that the layout places once is not wholly behind the rear. -/
theorem not_cleared_of_underBody {lay : List Placed} {h tol : Int} {n : Nat} (hnodup : (lay.map Placed.seg).Nodup)
    (htol : 0 ≤ tol) (hn : n ∈ underBody lay h) : ¬∃ p ∈ lay, p.seg = n ∧ p.hi < -h - tol := by
  rintro ⟨p, hp, hseg, hbehind⟩
  simp only [underBody, List.mem_map, List.mem_filter, Bool.and_eq_true, decide_eq_true_eq] at hn
  obtain ⟨q, ⟨hq, -, hunder⟩, hqn⟩ := hn
  obtain rfl : p = q := List.inj_on_of_nodup_map hnodup hp hq (hseg.trans hqn.symm)
  omega

/-- A list filtered after a map that keeps the segments names a sublist of the segments. -/
theorem heldSegs_map_filter_sublist (l : List HeldEntry) (f : HeldEntry → HeldEntry) (p : HeldEntry → Bool)
    (hf : ∀ e, (f e).seg = e.seg) : (heldSegs ((l.map f).filter p)).Sublist (heldSegs l) := by
  have hsegs : heldSegs (l.map f) = heldSegs l := by simp [heldSegs, hf]
  rw [← hsegs]
  exact List.filter_sublist.map HeldEntry.seg

theorem mem_heldSegs_map_filter {l : List HeldEntry} {f : HeldEntry → HeldEntry} {gone : Nat → Bool} {n : Nat}
    (hf : ∀ e, (f e).seg = e.seg) (hn : n ∈ heldSegs l) (hstay : gone n = false) :
    n ∈ heldSegs ((l.map f).filter (fun e => !gone e.seg)) := by
  obtain ⟨e, he, rfl⟩ := List.mem_map.1 hn
  refine List.mem_map.2 ⟨f e, List.mem_filter.2 ⟨List.mem_map_of_mem he, ?_⟩, hf e⟩
  simp [hf, hstay]

/-! ## Arrival (R149) -/

theorem getLast?_filter_eq_some {α : Type} {l : List α} {p : α → Bool} {a : α} :
    (l.filter p).getLast? = some a
      ↔ ∃ before after, l = before ++ a :: after ∧ p a = true ∧ ∀ b ∈ after, p b = false := by
  rw [List.getLast?_eq_head?_reverse, ← List.filter_reverse, List.head?_filter, List.find?_eq_some_iff_append]
  constructor
  · rintro ⟨hp, after, before, hl, hafter⟩
    refine ⟨before.reverse, after.reverse, ?_, hp, by simpa using hafter⟩
    rw [← List.reverse_reverse l, hl]
    simp
  · rintro ⟨before, after, rfl, hp, hafter⟩
    exact ⟨hp, after.reverse, before.reverse, by simp, by simpa using hafter⟩

theorem State.endDistance_eq_some {s : State} {o : Order} {d : Int} :
    s.endDistance o = some d ↔ ∃ n before p after, o.path.getLast? = some n ∧ s.layout = before ++ p :: after
      ∧ p.seg = n ∧ (∀ q ∈ after, q.seg ≠ n) ∧ p.at (1000 * (o.endOffset : Int)) / 1000 = d := by
  unfold State.endDistance
  cases hn : o.path.getLast? with
  | none => simp
  | some n =>
    simp only [Option.map_eq_some_iff, getLast?_filter_eq_some, Option.some.injEq]
    constructor
    · rintro ⟨p, ⟨before, after, hlay, hp, hafter⟩, hd⟩
      exact ⟨n, before, p, after, rfl, hlay, by simpa using hp, by simpa using hafter, hd⟩
    · rintro ⟨m, before, p, after, rfl, hlay, hp, hafter, hd⟩
      exact ⟨p, ⟨before, after, hlay, by simpa using hp, by simpa using hafter⟩, hd⟩

/-! ## The orders and the end action (R163, R168) -/

theorem State.removeOrder_list (s : State) (tag : Nat) :
    (s.removeOrder tag).orders.list = s.orders.list.filter (fun x => x.tag != tag) := by
  simp [State.removeOrder]

theorem State.orderDone_list (s : State) (t : Nat) (o : Order) :
    (s.orderDone t o).orders.list = s.orders.list.filter (fun x => x.tag != o.tag) := by
  simp [State.orderDone, State.removeOrder_list]

theorem State.orderFailed_list (s : State) (t : Nat) (o : Order) (w : FailReason) (n : Option Nat) :
    (s.orderFailed t o w n).orders.list = s.orders.list.filter (fun x => x.tag != o.tag) := by
  simp [State.orderFailed, State.removeOrder_list]

/-- The order becomes FINISHING (R163). -/
def State.finish (s : State) (tag : Nat) : State := s.setOrder tag (fun o => { o with state := .finishing })

theorem State.finish_list (s : State) (tag : Nat) :
    (s.finish tag).orders.list
      = s.orders.list.map (fun x => if x.tag = tag then { x with state := .finishing } else x) := by
  simp [State.finish, State.setOrder]

theorem State.filter_finish (s : State) (tag : Nat) :
    (s.finish tag).orders.list.filter (fun x => x.tag != tag) = s.orders.list.filter (fun x => x.tag != tag) := by
  rw [State.finish_list]
  induction s.orders.list with
  | nil => rfl
  | cons x rest ih => by_cases hx : x.tag = tag <;> simp [hx, ih]

/-- An order made FINISHING is found by its tag. -/
theorem State.finishingOrder_finish {s : State} {o : Order} (ho : o ∈ s.orders.list) :
    ∃ q, (s.finish o.tag).finishingOrder o.tag = some q ∧ q.tag = o.tag := by
  have hfound : ((s.finish o.tag).finishingOrder o.tag).isSome = true := by
    rw [State.finishingOrder, State.finish_list, List.find?_isSome]
    exact ⟨{ o with state := .finishing }, List.mem_map.2 ⟨o, ho, by simp⟩, by simp⟩
  obtain ⟨q, hq⟩ := Option.isSome_iff_exists.1 hfound
  have hqtag := List.find?_some hq
  simp only [Bool.and_eq_true, beq_iff_eq] at hqtag
  exact ⟨q, hq, hqtag.1⟩

/-- Success of an operation whose order is FINISHING removes that order and ends the operation (R164, R168). -/
theorem State.liftSuccess_of_finishing {s : State} (t : Nat) {op : LiftOperation} {o : Order}
    (hop : s.lift.operation = some op) (ho : s.finishingOrder op.tag = some o) :
    (s.liftSuccess t).orders.list = s.orders.list.filter (fun x => x.tag != o.tag)
      ∧ (s.liftSuccess t).lift = { s.lift with operation := none } := by
  simp [State.liftSuccess, hop, ho, State.orderDone_list]

theorem State.loadCheck_orders (s : State) (t : Nat) (tag : Option Nat) :
    (s.loadCheck t tag).orders.list = s.orders.list ∧ (s.loadCheck t tag).lift.state = s.lift.state
      ∧ (s.loadCheck t tag).lift.operation = s.lift.operation := by
  unfold State.loadCheck; split <;> simp [State.setEffective]

theorem State.liftDownReset_orders (s : State) :
    s.liftDownReset.orders.list = s.orders.list ∧ s.liftDownReset.lift.state = s.lift.state
      ∧ s.liftDownReset.lift.operation = s.lift.operation := by
  simp [State.liftDownReset, State.setEffective]

/-- A lift that already stands where the action takes it ends the order at once (R168). -/
theorem State.beginLift_of_reached {s : State} (t : Nat) {a : EndAction} {o : Order} (ho : o ∈ s.orders.list)
    (h : a = .lift ∧ s.lift.state = .up ∨ a = .lower ∧ s.lift.state = .down) :
    ((s.finish o.tag).beginLift t o.tag a).orders.list = s.orders.list.filter (fun x => x.tag != o.tag)
      ∧ ((s.finish o.tag).beginLift t o.tag a).lift.state = s.lift.state
      ∧ ((s.finish o.tag).beginLift t o.tag a).lift.operation = none := by
  have hlift : (s.finish o.tag).lift = s.lift := by simp [State.finish]
  obtain ⟨q, hq, hqtag⟩ := State.finishingOrder_finish ho
  have hsuccess : ∀ u : State, u.orders.list = (s.finish o.tag).orders.list → u.lift.state = s.lift.state →
      u.lift.operation = some ⟨a, o.tag⟩ →
      (u.liftSuccess t).orders.list = s.orders.list.filter (fun x => x.tag != o.tag)
        ∧ (u.liftSuccess t).lift.state = s.lift.state ∧ (u.liftSuccess t).lift.operation = none := by
    intro u hlist hstate hop
    obtain ⟨horders, hl⟩ := State.liftSuccess_of_finishing t hop (o := q)
      (by simpa [State.finishingOrder, hlist] using hq)
    rw [horders, hl, hlist, hqtag, State.filter_finish]
    exact ⟨rfl, hstate, rfl⟩
  obtain ⟨rfl, hs⟩ | ⟨rfl, hs⟩ := h
  · simp only [State.beginLift, hlift, hs]
    obtain ⟨hlist, hstate, hop⟩ := State.loadCheck_orders
      ((s.finish o.tag).setLift { s.lift with operation := some ⟨.lift, o.tag⟩ }) t (some o.tag)
    rw [← hs]
    exact hsuccess _ hlist hstate hop
  · simp only [State.beginLift, hlift, hs]
    obtain ⟨hlist, hstate, hop⟩ := State.liftDownReset_orders
      ((s.finish o.tag).setLift { s.lift with operation := some ⟨.lower, o.tag⟩ })
    rw [← hs]
    exact hsuccess _ hlist hstate hop

theorem State.judgeSensors_of_raising {s : State} (t : Nat) (h : s.lift.state = .raising)
    (hr : s.pins.reading ≠ .upShown) : s.judgeSensors t = s := by
  unfold State.judgeSensors
  split <;> simp_all

theorem State.judgeSensors_of_lowering {s : State} (t : Nat) (h : s.lift.state = .lowering)
    (hr : s.pins.reading ≠ .downShown) : s.judgeSensors t = s := by
  unfold State.judgeSensors
  split <;> simp_all

/-- A lift at the other end begins to travel, unless its sensors already show the end it travels to (R168, R169). -/
theorem State.beginLift_of_travel {s : State} (t tag : Nat) {a : EndAction}
    (h : a = .lift ∧ s.lift.state = .down ∧ ¬(s.pins.sup = true ∧ s.pins.sdn = false)
      ∨ a = .lower ∧ s.lift.state = .up ∧ ¬(s.pins.sdn = true ∧ s.pins.sup = false)) :
    s.beginLift t tag a = s.setLift
      { s.lift with
        state := if a = .lift then .raising else .lowering
        timer := some (1000 * s.params.liftTimeout), operation := some ⟨a, tag⟩ } := by
  obtain ⟨rfl, hs, hpins⟩ | ⟨rfl, hs, hpins⟩ := h
  · have hreading : s.pins.reading ≠ .upShown := by
      unfold Pins.reading; (repeat' split) <;> simp_all
    simp only [State.beginLift, hs, if_true]
    rw [State.judgeSensors_of_raising]
    · rfl
    · rfl
    · exact hreading
  · have hreading : s.pins.reading ≠ .downShown := by
      unfold Pins.reading; (repeat' split) <;> simp_all
    simp only [State.beginLift, hs]
    rw [State.judgeSensors_of_lowering]
    · rfl
    · rfl
    · exact hreading

/-- What the arrival of an order comes to: its claim and wait are abandoned and its end action is run (R73, R163). -/
theorem State.arrivalStep_of_arrived {s : State} {reversal : Bool} {o : Order} (t : Nat)
    (h : s.hasArrived reversal = true) (ho : s.activeOrder = some o) :
    s.arrivalStep t reversal = (s.abandonClaim t).endAction t o := by
  simp [State.arrivalStep, h, ho]

@[simp] theorem State.toIdle_recordState (s : State) : s.toIdle.claim.record.state = .idle := by
  unfold State.toIdle
  split <;> simp [State.withdrawStop, ClaimRecord.toIdle]

end Sys2Proof.Machine

namespace Sys2Proof.Proofs

open Sys2Proof.Machine Sys2Proof.Safety

/-- R13, R19, R20, R60: what taking a reversal at standstill does. -/
theorem reversal_turns_the_body (s : State) (t : Nat) (hrun : s.control.state = .running) (c : Centre)
    (hc : s.pos.centre = some c) (hwants : s.wantsReversal = true) (hcommanded : s.motion.commanded = 0)
    (hmeasured : s.motion.measured = 0) :
    (s.reversalStep t).pos.centre
        = some { c with dir := match c.dir with | .forward => .reverse | .reverse => .forward }
      ∧ (s.reversalStep t).motion.reversalPending = false ∧ (s.reversalStep t).pos.misses = s.pos.misses
      ∧ (heldSegs (s.reversalStep t).claim.held).Sublist (heldSegs s.claim.held).reverse
      ∧ (∀ u : State, u = (s.setPos { s.pos with centre := (s.reversalStep t).pos.centre }).setClaim
            { s.claim with held := s.claim.held.reverse } →
          (s.reversalStep t).claim.held
            = (s.claim.held.reverse.map (fun e =>
                if ∃ p ∈ u.layout, p.seg = e.seg ∧ p.lo ≤ u.half + 1000 * (u.params.tolerance : Int)
                then { e with mark := .occupied } else e)).filter (fun e =>
              !decide (∃ p ∈ u.layout, p.seg = e.seg ∧ p.hi < -u.half - 1000 * (u.params.tolerance : Int)))
          ∧ ((u.layout.map Placed.seg).Nodup →
            ∀ n ∈ heldSegs s.claim.held, n ∈ underBody u.layout u.half →
              n ∈ heldSegs (s.reversalStep t).claim.held))
      ∧ (s.reversalStep t).claim.waited = s.claim.waited := by
  have hstep : s.reversalStep t = (s.setMotion { s.motion with reversalPending := true }).takeReversal t := by
    simp [State.reversalStep, hrun, hwants, Motion.standing, hcommanded, hmeasured]
  obtain ⟨hcentre, hmisses, hpending, hwaited, hheld⟩ :=
    (s.setMotion { s.motion with reversalPending := true }).takeReversal_body t
  rw [← hstep] at hcentre hmisses hpending hwaited hheld
  have hmark (g : Nat → Bool) (e : HeldEntry) :
      (if g e.seg then { e with mark := .occupied } else e).seg = e.seg := by split <;> rfl
  refine ⟨?_, hpending, hmisses, ?_, ?_, hwaited⟩
  · rw [hcentre, ← Direction.flip_eq]
    simp [State.turned, hc]
  · rw [hheld]
    refine (heldSegs_map_filter_sublist _ _ _ (hmark _)).trans ?_
    simp [heldSegs]
  · rintro u rfl
    rw [hheld]
    have hturn : (s.setPos { s.pos with centre := (s.reversalStep t).pos.centre }).setClaim
        { s.claim with held := s.claim.held.reverse } = s.turned := by rw [hcentre]; rfl
    have hlayout : (s.setMotion { s.motion with reversalPending := true }).turned.layout = s.turned.layout := rfl
    rw [hturn, hlayout]
    constructor
    · simp only [← reached_contains, ← cleared_contains, Bool.decide_eq_true]
      rfl
    · intro hnodup n hn hunder
      have hstay : ¬∃ p ∈ s.turned.layout, p.seg = n ∧ p.hi < -s.half - s.tol :=
        not_cleared_of_underBody hnodup (by simp only [State.tol]; omega) hunder
      rw [← cleared_contains, Bool.not_eq_true] at hstay
      refine mem_heldSegs_map_filter (hmark _) ?_ hstay
      simpa [heldSegs] using hn

/-- R163, R168: what the arrival of an order does. -/
theorem arrival_runs_the_end_action (s : State) (t : Nat) (reversal : Bool) (o : Order)
    (harrived : s.hasArrived reversal = true) (ho : s.activeOrder = some o) :
    (s.arrivalStep t reversal).claim.record.state = .idle ∧ (s.arrivalStep t reversal).claim.held = s.claim.held
    ∧ (s.arrivalStep t reversal).motion = (s.abandonClaim t).motion
    ∧ (o.endAction = .none →
      (s.arrivalStep t reversal).orders.list = s.orders.list.filter (fun x => x.tag != o.tag)
      ∧ (RoomFor s.notice .orderDone 2 →
          { Notice.plain .orderDone t with tag := some o.tag, seg := o.path.getLast?, detail := some 0 }
            ∈ (s.arrivalStep t reversal).notice.queue)
      ∧ (s.arrivalStep t reversal).lift = s.lift)
    ∧ (o.endAction ≠ .none → s.lift.state = .jammed →
      (s.arrivalStep t reversal).orders.list = s.orders.list.filter (fun x => x.tag != o.tag)
      ∧ (RoomFor s.notice .orderFailed 2 →
          { Notice.plain .orderFailed t with tag := some o.tag, detail := some 4 }
            ∈ (s.arrivalStep t reversal).notice.queue)
      ∧ (s.arrivalStep t reversal).lift = s.lift)
    ∧ (o.endAction = .lift ∧ s.lift.state = .down ∧ ¬(s.pins.sup = true ∧ s.pins.sdn = false)
        ∨ o.endAction = .lower ∧ s.lift.state = .up ∧ ¬(s.pins.sdn = true ∧ s.pins.sup = false) →
      (s.arrivalStep t reversal).orders.list
        = s.orders.list.map (fun x => if x.tag = o.tag then { x with state := .finishing } else x)
      ∧ (s.arrivalStep t reversal).lift
        = { s.lift with
            state := if o.endAction = .lift then .raising else .lowering
            timer := some (1000 * s.params.liftTimeout), operation := some ⟨o.endAction, o.tag⟩ })
    ∧ (o.endAction = .lift ∧ s.lift.state = .up ∨ o.endAction = .lower ∧ s.lift.state = .down →
      (s.arrivalStep t reversal).orders.list = s.orders.list.filter (fun x => x.tag != o.tag)
      ∧ (s.arrivalStep t reversal).lift.state = s.lift.state ∧ (s.arrivalStep t reversal).lift.operation = none) := by
  rw [State.arrivalStep_of_arrived t harrived ho]
  have hmem : o ∈ (s.abandonClaim t).orders.list := by simpa using List.mem_of_find?_eq_some ho
  refine ⟨?_, ?_, by simp, fun hend => ?_, fun hend hjam => ?_, fun htravel => ?_, fun hreached => ?_⟩
  · simp [State.abandonClaim]
  · simp
  · simp only [State.endAction, hend]
    refine ⟨by simp [State.orderDone_list], fun hroom => ?_, by simp⟩
    have hroom' := (State.abandonClaim_added s t).room (m := 1) hroom
    simpa [State.orderDone, hend, EndAction.code] using State.raise_mem
      (s := (s.abandonClaim t).removeOrder o.tag)
      (n := { Notice.plain .orderDone t with tag := some o.tag, seg := o.path.getLast?, detail := some 0 })
      (by simpa [Notice.plain] using hroom')
  · have hfail : (s.abandonClaim t).endAction t o = (s.abandonClaim t).orderFailed t o .liftJammed none := by
      cases h : o.endAction <;> simp_all [State.endAction]
    rw [hfail]
    refine ⟨by simp [State.orderFailed_list], fun hroom => ?_, by simp⟩
    have hroom' := (State.abandonClaim_added s t).room (m := 1) hroom
    simpa [State.orderFailed, FailReason.code, Notice.plain] using State.raise_mem
      (s := (s.abandonClaim t).removeOrder o.tag)
      (n := { Notice.plain .orderFailed t with tag := some o.tag, detail := some 4 })
      (by simpa [Notice.plain] using hroom')
  · have hbegin : (s.abandonClaim t).endAction t o
        = ((s.abandonClaim t).finish o.tag).beginLift t o.tag o.endAction := by
      obtain ⟨hend, hs, -⟩ | ⟨hend, hs, -⟩ := htravel <;> simp [State.endAction, State.finish, hend, hs]
    rw [hbegin, State.beginLift_of_travel t o.tag (by simpa [State.finish] using htravel)]
    exact ⟨by simp [State.finish_list], by simp [State.finish]⟩
  · have hbegin : (s.abandonClaim t).endAction t o
        = ((s.abandonClaim t).finish o.tag).beginLift t o.tag o.endAction := by
      obtain ⟨hend, hs⟩ | ⟨hend, hs⟩ := hreached <;> simp [State.endAction, State.finish, hend, hs]
    rw [hbegin]
    simpa using State.beginLift_of_reached t hmem (by simpa using hreached)

/-- Settles O44: the judgement of a reversal, the reversal taken, the judgement of an arrival and the arrival taken, each
by its own theorem. -/
theorem reversalsAndArrivalsAreTaken : Obligations.ReversalsAndArrivalsAreTaken := by
  refine ⟨State.wantsReversal_iff, fun s t hrun => by simp [State.reversalStep, hrun], fun s t hrun => ⟨fun h => ?_,
    reversal_turns_the_body s t hrun⟩, fun s reversal => ?_, fun s t reversal h => by simp [State.arrivalStep, h],
    fun s t reversal o harrived ho _ => arrival_runs_the_end_action s t reversal o harrived ho⟩
  · have hnot : (s.wantsReversal && s.motion.standing) = false := by
      obtain h | h | h := h <;> simp [h, Motion.standing]
    simp [State.reversalStep, hrun, hnot]
  · rw [State.hasArrived_iff]
    refine and_congr_right fun _ => and_congr_right fun _ => and_congr_right fun _ => and_congr_right fun _ => ?_
    simp only [State.endNow, Option.bind_eq_some_iff, State.endDistance_eq_some]
    constructor
    · rintro ⟨d, ⟨o, ho, n, before, p, after, hn, hlay, hp, hafter, rfl⟩, hd⟩
      exact ⟨o, n, before, p, after, ho, hn, hlay, hp, hafter, hd⟩
    · rintro ⟨o, n, before, p, after, ho, hn, hlay, hp, hafter, hd⟩
      exact ⟨_, ⟨o, ho, n, before, p, after, hn, hlay, hp, hafter, rfl⟩, hd⟩

end Sys2Proof.Proofs
end

section
/-! PROOFS. START: its checks in their order and the effects of an accepted START (R4, R9, R18, R23, R24). -/

namespace Sys2Proof.Machine

open Sys2Proof.Safety

/-! ## What an accepted START does (R24) -/

theorem State.cacheReport_of_not_blocked {s : State} (seg holder : Nat) (h : s.claim.record.state ≠ .blocked) :
    s.cacheReport seg holder = s := by
  simp [State.cacheReport, ClaimRecord.blockedOn, h]

/-- Outside a BLOCKED wait the cache's report of a freed way ends nothing (R118). -/
theorem State.freeWay_of_not_blocked {s : State} (source : Option Source) (k : Nat)
    (h : s.claim.record.state ≠ .blocked) :
    (s.freeWay source k).claim = s.claim ∧ (s.freeWay source k).motion = s.motion := by
  unfold State.freeWay
  split
  · exact ⟨rfl, rfl⟩
  · rw [State.cacheReport_of_not_blocked _ _ (by simpa using h)]
    simp

theorem State.cacheJoin_of_not_blocked {s : State} (segs : List Nat) (h : s.claim.record.state ≠ .blocked) :
    (s.cacheJoin segs).claim = s.claim ∧ (s.cacheJoin segs).motion = s.motion := by
  unfold State.cacheJoin
  generalize joinWays s.cache.ways segs = ways
  induction ways generalizing s with
  | nil => exact ⟨rfl, rfl⟩
  | cons k rest ih =>
    obtain ⟨hclaim, hmotion⟩ := State.freeWay_of_not_blocked none k h
    obtain ⟨ihclaim, ihmotion⟩ := ih (s := s.freeWay none k) (by rwa [hclaim])
    exact ⟨ihclaim.trans hclaim, ihmotion.trans hmotion⟩

/-- A beacon offered to an empty transmit queue is its only entry (R44). -/
theorem State.offerBeacon_of_empty {s : State} (t : Nat) (h : s.line.tx = []) :
    s.offerBeacon t = s.enqueue 255 .beacon := by
  simp [State.offerBeacon, State.offer, h, TxContent.kind]

theorem NoticeUnit.raise_now (u : NoticeUnit) (n : Notice) : (u.raise n).now = u.now := by
  unfold NoticeUnit.raise; (repeat' split) <;> rfl

theorem NoticeUnit.raise_queue {u : NoticeUnit} {n : Notice} (h : RoomFor u n.kind 1) :
    (u.raise n).queue = u.queue ++ [n] := by
  obtain ⟨hkind, hlen⟩ := h
  simp [NoticeUnit.raise, hkind, show u.queue.length < 32 by omega]

/-- The state before START's control record and notice: position, held list, cache, expected marker and line. -/
def State.placed (s : State) (c : Centre) (run : List Nat) : State :=
  let s1 := (s.setPos (s.pos.begin c)).setMotion (Motion.still (emergencyRate s.orders.effective))
  let s2 := (s1.setClaim (s1.claim.begin run)).cacheJoin run
  let s3 := s2.chooseExpected
  s3.setNotice { s3.notice with now := 0 }

theorem State.started_eq (s : State) (c : Centre) (run : List Nat) :
    s.started c run
      = ((((s.placed c run).setLine ((s.placed c run).line.begin (s.placed c run).params.beaconPeriod)).offerBeacon
          0).setControl { s.control with joinTimer := some s.params.staleness }).changeState 0 .joining := by
  simp [State.started, State.placed]

theorem State.placed_frame (s : State) (c : Centre) (run : List Nat) :
    (s.placed c run).control = s.control ∧ (s.placed c run).params = s.params
      ∧ (s.placed c run).line = s.line ∧ (s.placed c run).port = s.port
      ∧ (s.placed c run).claim = s.claim.begin run
      ∧ (s.placed c run).motion = Motion.still (emergencyRate s.orders.effective)
      ∧ (s.placed c run).notice = { s.notice with now := 0 }
      ∧ (s.placed c run).pos = { s.pos.begin c with expected := (s.placed c run).pos.expected } := by
  obtain ⟨hclaim, hmotion⟩ := State.cacheJoin_of_not_blocked
    (s := ((s.setPos (s.pos.begin c)).setMotion (Motion.still (emergencyRate s.orders.effective))).setClaim
      (s.claim.begin run)) run (by simp [ClaimEngine.begin, ClaimRecord.toIdle])
  refine ⟨by simp [State.placed], by simp [State.placed], by simp [State.placed], by simp [State.placed],
    by simpa [State.placed] using hclaim, by simpa [State.placed] using hmotion, by simp [State.placed],
    by simp [State.placed, State.chooseExpected_pos]⟩

theorem State.started_frame (s : State) (c : Centre) (run : List Nat) :
    (s.started c run).control = { s.control with joinTimer := some s.params.staleness, state := .joining }
      ∧ (s.started c run).params = s.params ∧ (s.started c run).port = s.port
      ∧ (s.started c run).claim = s.claim.begin run
      ∧ (s.started c run).motion = Motion.still (emergencyRate s.orders.effective)
      ∧ (s.started c run).pos = { s.pos.begin c with expected := (s.placed c run).pos.expected }
      ∧ (s.started c run).line = { s.line.begin s.params.beaconPeriod with tx := [⟨255, .beacon, 0, false, false⟩] }
      ∧ (s.started c run).notice = NoticeUnit.raise { s.notice with now := 0 }
          { Notice.plain .stateChanged 0 with detail := some (pairDetail s.control.state.code 1) } := by
  obtain ⟨hcontrol, hparams, hline, hport, hclaim, hmotion, hnotice, hpos⟩ := s.placed_frame c run
  rw [State.started_eq, State.offerBeacon_of_empty 0 (by simp [LaneLine.begin])]
  refine ⟨by simp, by simp [hparams], by simp [hport], by simp [hclaim], by simp [hmotion], by simpa using hpos,
    by simp [State.enqueue, hline, hparams, LaneLine.begin], ?_⟩
  simp [State.changeState, State.raise, hnotice, StationState.code]

/-! ## The checks of START in their order (R23) -/

theorem readDir_of_code (d : Direction) : readDir d.code = some d := by cases d <;> rfl

theorem readDir_of_lt {n : Nat} (h : 1 < n) : readDir n = none := by
  simp [readDir]; omega

/-- START with a station number: what the map check decides. -/
theorem State.start_of_numbered {s : State} (a : StartArgs) (h : 1 ≤ s.control.number ∧ s.control.number ≤ 60) :
    (∀ n e f, mapFault s.pos.map = some (n, e, f) →
      s.start a = s.refuse .refusedArgument
        (RefusalReason.mapInconsistent.bytes ++ (byte n ++ (byte (endCode e) ++ byte f.code))))
    ∧ (mapFault s.pos.map = none → Table.find s.pos.map a.seg = none ∨ readDir a.dir = none →
      s.start a = s.refuse .refusedArgument RefusalReason.position.bytes) := by
  have hok : stationOk s.control.number = true := (stationOk_iff _).2 h
  refine ⟨fun n e f hfault => by simp [State.start, hok, hfault], fun hmap hplace => ?_⟩
  obtain hseg | hdir := hplace
  · simp [State.start, hok, hmap, hseg]
  · cases hseg : Table.find s.pos.map a.seg <;> simp [State.start, hok, hmap, hseg, hdir]

/-- START on a sound map at a segment of it: what the offset and the body span decide. -/
theorem State.start_of_placed {s : State} {a : StartArgs} {g : Segment} {dir : Direction}
    (h : 1 ≤ s.control.number ∧ s.control.number ≤ 60) (hmap : mapFault s.pos.map = none)
    (hseg : Table.find s.pos.map a.seg = some g) (hdir : readDir a.dir = some dir) :
    (g.length < a.offset → s.start a = s.refuse .refusedArgument RefusalReason.position.bytes)
    ∧ (a.offset ≤ g.length →
      (∀ n, occupiedRun s.pos.map a.seg a.offset dir s.halfLength = .failed n →
        s.start a = s.refuse .refusedArgument (RefusalReason.bodySpan.bytes ++ byte n))
      ∧ ∀ run, occupiedRun s.pos.map a.seg a.offset dir s.halfLength = .entered run →
        s.start a = ⟨s.started ⟨a.seg, 1000 * a.offset, dir⟩ run, .done, []⟩) := by
  have hok : stationOk s.control.number = true := (stationOk_iff _).2 h
  refine ⟨fun hlong => by simp [State.start, hok, hmap, hseg, hdir, hlong], fun hfits => ⟨fun n hrun => ?_,
    fun run hrun => ?_⟩⟩ <;>
  simp [State.start, hok, hmap, hseg, hdir, Nat.not_lt.2 hfits, hrun]

theorem exec_start_inSetup {s u : State} {seg o0 o1 d : Byte} (h : s.executing 6 [seg, o0, o1, d] = some u)
    (hs : u.control.state = .setup) {answer : Answer}
    (hstart : u.start ⟨seg.toNat, o0.toNat + 256 * o1.toNat, d.toNat⟩ = answer) :
    exec (.start [seg, o0, o1, d]) s = .next (answer.state.placeReply ⟨6, answer.status, answer.results⟩) := by
  rw [← hstart]
  exact congrArg _ (State.hostCommand_inSetup State.start h hs rfl)

end Sys2Proof.Machine

namespace Sys2Proof.Proofs

open Sys2Proof.Machine Sys2Proof.Safety

/-- Settles O20: the effects of an accepted START, and its refusals in the order of its checks. -/
theorem startIsCheckedAndEntersJoining : Obligations.StartIsCheckedAndEntersJoining := by
  refine ⟨fun s u seg o0 o1 d g dir run hexec hs hlow hhigh hmap hseg hcode hfits hrun => ?_,
    fun s u seg o0 o1 d hexec hs => ⟨fun hnumber => ?_, fun hlow hhigh => ⟨fun n e f hfault => ?_, fun hmap =>
      ⟨fun hplace => ?_, fun g dir hseg hcode => ⟨fun hlong => ?_, fun hfits n hrun => ?_⟩⟩⟩⟩⟩
  · have hdir : readDir d.toNat = some dir := hcode ▸ readDir_of_code dir
    obtain ⟨-, hplaced⟩ := State.start_of_placed (a := ⟨seg.toNat, o0.toNat + 256 * o1.toNat, d.toNat⟩)
      ⟨hlow, hhigh⟩ hmap hseg hdir
    obtain ⟨-, haccepted⟩ := hplaced hfits
    obtain ⟨hcontrol, hparams, hport, hclaim, hmotion, hpos, hline, hnotice⟩ :=
      u.started_frame ⟨seg.toNat, 1000 * (o0.toNat + 256 * o1.toNat), dir⟩ run
    refine ⟨_, exec_start_inSetup hexec hs (haccepted run hrun), ?_⟩
    simp only [ConfigurationKept, State.placeReply_frame, hcontrol, hparams, hclaim, hmotion, hpos, hline, hnotice, hs]
    simp [PositionUnit.begin, ClaimEngine.begin, ClaimRecord.toIdle, Motion.still, LaneLine.begin, State.placeReply,
      NoticeUnit.raise_now]
    exact fun hkind hlen => NoticeUnit.raise_queue ⟨hkind, hlen⟩
  · have hok : ¬stationOk u.control.number = true := by rw [stationOk_iff]; omega
    exact exec_start_inSetup hexec hs (by simp [State.start, hok]; rfl)
  · obtain ⟨hrefused, -⟩ := State.start_of_numbered ⟨seg.toNat, o0.toNat + 256 * o1.toNat, d.toNat⟩ ⟨hlow, hhigh⟩
    rw [exec_start_inSetup hexec hs (hrefused n e f hfault)]
    cases e <;> rfl
  · obtain ⟨-, hrefused⟩ := State.start_of_numbered ⟨seg.toNat, o0.toNat + 256 * o1.toNat, d.toNat⟩ ⟨hlow, hhigh⟩
    exact exec_start_inSetup hexec hs (hrefused hmap (hplace.imp_right readDir_of_lt))
  · obtain ⟨hrefused, -⟩ := State.start_of_placed (a := ⟨seg.toNat, o0.toNat + 256 * o1.toNat, d.toNat⟩)
      ⟨hlow, hhigh⟩ hmap hseg (hcode ▸ readDir_of_code dir)
    exact exec_start_inSetup hexec hs (hrefused hlong)
  · obtain ⟨-, hplaced⟩ := State.start_of_placed (a := ⟨seg.toNat, o0.toNat + 256 * o1.toNat, d.toNat⟩)
      ⟨hlow, hhigh⟩ hmap hseg (hcode ▸ readDir_of_code dir)
    obtain ⟨hrefused, -⟩ := hplaced hfits
    exact exec_start_inSetup hexec hs (hrefused n hrun)

end Sys2Proof.Proofs
end

section
/-! PROOFS. The map check (R4) and the occupied run found by walking from the centre (R18). -/

namespace Sys2Proof.Machine

open Sys2Proof.Safety

/-! ## The map check (R4) -/

theorem linkFault_eq_none {map : Table Segment} {n : Nat} {x : End} {l : Link} :
    linkFault map n x l = none ↔ LinkMirrored map n x l := by
  unfold linkFault LinkMirrored
  (repeat' split) <;> simp_all [Option.isSome_iff_ne_none]

theorem linkFault_eq_some {map : Table Segment} {n : Nat} {x : End} {l : Link} {f : MapFault}
    (h : linkFault map n x l = some f) :
    (f = .neighbourMissing ∧ Table.find map l.seg = none)
      ∨ (f = .notMirrored ∧ (Table.find map l.seg).isSome = true ∧ (⟨n, x⟩ : Link) ∉ linksAt map l.seg l.far) := by
  unfold linkFault at h
  split at h
  next hmissing => exact .inl ⟨(Option.some.inj h).symm, Option.isNone_iff_eq_none.1 hmissing⟩
  next hloaded =>
    split at h
    · cases h
    next hno =>
      refine .inr ⟨(Option.some.inj h).symm, ?_, by simpa using hno⟩
      rwa [← Option.not_isNone, Bool.not_eq_true', ← Bool.not_eq_true]

theorem SegKind.deadEnd_iff (k : SegKind) : k.deadEnd = true ↔ k = .bay ∨ k = .dock := by
  cases k <;> simp [SegKind.deadEnd]

theorem deadEndThrough_iff (g : Segment) :
    (g.kind.deadEnd && !g.aLinks.isEmpty && !g.bLinks.isEmpty) = true ↔ DeadEndThrough g := by
  simp [DeadEndThrough, SegKind.deadEnd_iff, and_assoc]

theorem segmentFault_of_deadEnd {map : Table Segment} {n : Nat} {g : Segment} (h : DeadEndThrough g) :
    segmentFault map n g = some (none, .deadEndThrough) := by
  unfold segmentFault
  rw [if_pos ((deadEndThrough_iff g).2 h)]

theorem segmentFault_of_not_deadEnd {map : Table Segment} {n : Nat} {g : Segment} (h : ¬DeadEndThrough g) :
    segmentFault map n g
      = ((g.aLinks.findSome? (linkFault map n .a)).map (fun f => (some End.a, f))).or
          ((g.bLinks.findSome? (linkFault map n .b)).map (fun f => (some End.b, f))) := by
  unfold segmentFault
  rw [if_neg (mt (deadEndThrough_iff g).1 h)]
  cases g.aLinks.findSome? (linkFault map n .a) <;> rfl

theorem findSome?_linkFault_eq_none {map : Table Segment} {n : Nat} {x : End} {links : List Link} :
    links.findSome? (linkFault map n x) = none ↔ ∀ l ∈ links, LinkMirrored map n x l := by
  simp only [List.findSome?_eq_none_iff, linkFault_eq_none]

theorem segmentFault_eq_none {map : Table Segment} {n : Nat} {g : Segment} :
    segmentFault map n g = none ↔ SegmentSound map n g := by
  by_cases hdead : DeadEndThrough g
  · simp [segmentFault_of_deadEnd hdead, SegmentSound, hdead]
  · rw [segmentFault_of_not_deadEnd hdead]
    simp only [SegmentSound, hdead, not_false_eq_true, true_and, ← findSome?_linkFault_eq_none]
    cases g.aLinks.findSome? (linkFault map n .a) <;> simp

theorem mapFault_eq_none {map : Table Segment} :
    mapFault map = none ↔ ∀ e ∈ map, SegmentSound map e.1 e.2 := by
  simp only [mapFault, List.findSome?_eq_none_iff, Option.map_eq_none_iff, segmentFault_eq_none]

/-- The first link of an end that has a fault, and the fault. -/
theorem findSome?_linkFault_eq_some {map : Table Segment} {n : Nat} {x : End} {links : List Link} {f : MapFault}
    (h : links.findSome? (linkFault map n x) = some f) :
    ∃ front l rest, links = front ++ l :: rest ∧ (∀ k ∈ front, LinkMirrored map n x k)
      ∧ ((f = .neighbourMissing ∧ Table.find map l.seg = none)
        ∨ (f = .notMirrored ∧ (Table.find map l.seg).isSome = true
          ∧ (⟨n, x⟩ : Link) ∉ linksAt map l.seg l.far)) := by
  obtain ⟨front, l, rest, hlinks, hfault, hfront⟩ := List.findSome?_eq_some_iff.1 h
  exact ⟨front, l, rest, hlinks, fun k hk => linkFault_eq_none.1 (hfront k hk), linkFault_eq_some hfault⟩

/-- The first fault of a segment, with its end. -/
theorem segmentFault_eq_some {map : Table Segment} {n : Nat} {g : Segment} {x : Option End} {f : MapFault}
    (h : segmentFault map n g = some (x, f)) :
    (x = none → f = .deadEndThrough ∧ DeadEndThrough g)
      ∧ ∀ e, x = some e → ¬DeadEndThrough g ∧ (e = .b → ∀ l ∈ g.aLinks, LinkMirrored map n .a l)
          ∧ ∃ front l rest, g.links e = front ++ l :: rest ∧ (∀ k ∈ front, LinkMirrored map n e k)
            ∧ ((f = .neighbourMissing ∧ Table.find map l.seg = none)
              ∨ (f = .notMirrored ∧ (Table.find map l.seg).isSome = true
                ∧ (⟨n, e⟩ : Link) ∉ linksAt map l.seg l.far)) := by
  by_cases hdead : DeadEndThrough g
  · rw [segmentFault_of_deadEnd hdead] at h
    cases h
    exact ⟨fun _ => ⟨rfl, hdead⟩, (fun _ he => nomatch he)⟩
  · rw [segmentFault_of_not_deadEnd hdead] at h
    obtain ha | ⟨ha, hb⟩ := Option.or_eq_some_iff.1 h
    · obtain ⟨fault, hfault, hpair⟩ := Option.map_eq_some_iff.1 ha
      cases hpair
      refine ⟨(fun hx => nomatch hx), fun e he => ?_⟩
      cases he
      exact ⟨hdead, (fun he => nomatch he), findSome?_linkFault_eq_some hfault⟩
    · obtain ⟨fault, hfault, hpair⟩ := Option.map_eq_some_iff.1 hb
      cases hpair
      refine ⟨(fun hx => nomatch hx), fun e he => ?_⟩
      cases he
      exact ⟨hdead, fun _ => findSome?_linkFault_eq_none.1 (Option.map_eq_none_iff.1 ha),
        findSome?_linkFault_eq_some hfault⟩

theorem mapFault_eq_some {map : Table Segment} {n : Nat} {x : Option End} {f : MapFault}
    (h : mapFault map = some (n, x, f)) :
    ∃ before g after, map = before ++ (n, g) :: after ∧ (∀ e ∈ before, SegmentSound map e.1 e.2)
      ∧ segmentFault map n g = some (x, f) := by
  obtain ⟨before, ⟨m, g⟩, after, hmap, hfault, hbefore⟩ := List.findSome?_eq_some_iff.1 h
  obtain ⟨⟨y, k⟩, hseg, hpair⟩ := Option.map_eq_some_iff.1 hfault
  cases hpair
  refine ⟨before, g, after, hmap, fun e he => ?_, hseg⟩
  exact segmentFault_eq_none.1 (Option.map_eq_none_iff.1 (hbefore e he))

/-! ## The walk (R18) -/

/-- A walk of `left` mm with some fuel enters `walked`: through link 1 of each end, no segment twice and none `seen`, as
far as `left` and the fuel go. -/
def WalkEnters (map : Table Segment) (fuel : Nat) (seen : List Nat) (seg : Nat) (x : End) (left : Nat)
    (walked : List Nat) : Prop :=
  LinkOneWalk map seg x walked ∧ walked.Nodup ∧ (∀ n ∈ walked, n ∉ seen) ∧ walked.length ≤ fuel
    ∧ (walked ≠ [] → (walked.dropLast.map (lengthOf map)).sum < left)
    ∧ (left ≤ (walked.map (lengthOf map)).sum ∨ walked.length = fuel)

theorem walkEnters_nil {map : Table Segment} {fuel : Nat} {seen : List Nat} {seg : Nat} {x : End} {left : Nat} :
    WalkEnters map fuel seen seg x left [] ↔ left = 0 ∨ fuel = 0 := by
  simp [WalkEnters, LinkOneWalk, @eq_comm Nat 0]

theorem sum_lengths_dropLast_cons_lt {map : Table Segment} {n left : Nat} {rest : List Nat} (hleft : left ≠ 0) :
    (((n :: rest).dropLast).map (lengthOf map)).sum < left
      ↔ (rest ≠ [] → (rest.dropLast.map (lengthOf map)).sum < left - lengthOf map n) := by
  cases rest with
  | nil => simp; omega
  | cons m rest => simp only [List.dropLast_cons_cons, List.map_cons, List.sum_cons, ne_eq, reduceCtorEq,
      not_false_eq_true, forall_const]; omega

/-- A walk that goes on enters the segment of link 1, not seen before, and walks on from there. -/
theorem walkEnters_cons {map : Table Segment} {fuel : Nat} {seen : List Nat} {seg : Nat} {x : End} {left : Nat}
    (hleft : left ≠ 0) {n : Nat} {rest : List Nat} :
    WalkEnters map (fuel + 1) seen seg x left (n :: rest)
      ↔ ∃ l, (linksAt map seg x).head? = some l ∧ l.seg = n ∧ n ∉ seen
          ∧ WalkEnters map fuel (seen ++ [n]) n l.far.other (left - lengthOf map n) rest := by
  have hroom : left ≤ ((n :: rest).map (lengthOf map)).sum
      ↔ left - lengthOf map n ≤ (rest.map (lengthOf map)).sum := by
    simp only [List.map_cons, List.sum_cons]; omega
  simp only [WalkEnters, LinkOneWalk, sum_lengths_dropLast_cons_lt hleft, hroom, List.nodup_cons, List.length_cons,
    Nat.add_le_add_iff_right, Nat.add_right_cancel_iff, ne_eq, reduceCtorEq, not_false_eq_true, forall_const]
  constructor
  · rintro ⟨⟨l, hl, hn, hwalk⟩, ⟨hfresh, hnodup⟩, hseen, hfuel, hdrop, hfar⟩
    refine ⟨l, hl, hn, hseen n (by simp), hwalk, hnodup, fun m hm => ?_, hfuel, hdrop, hfar⟩
    have hne : m ≠ n := fun h => hfresh (h ▸ hm)
    simpa [hne] using hseen m (by simp [hm])
  · rintro ⟨l, hl, hn, hseen, hwalk, hnodup, hrest, hfuel, hdrop, hfar⟩
    refine ⟨⟨l, hl, hn, hwalk⟩, ⟨fun h => ?_, hnodup⟩, fun m hm => ?_, hfuel, hdrop, hfar⟩
    · exact hrest n h (by simp)
    · obtain rfl | hm := List.mem_cons.1 hm
      · exact hseen
      · exact fun h => hrest m hm (by simp [h])

/-- A walk succeeds exactly with the segments it enters, behind those seen before. -/
theorem walk_eq_entered {map : Table Segment} (fuel : Nat) : ∀ {seen : List Nat} {seg : Nat} {x : End} {left : Nat}
    {all : List Nat}, walk map fuel seen seg x left = .entered all
      ↔ ∃ walked, all = seen ++ walked ∧ WalkEnters map fuel seen seg x left walked := by
  induction fuel with
  | zero =>
    intro seen seg x left all
    constructor
    · intro h
      cases h
      exact ⟨[], by simp, walkEnters_nil.2 (.inr rfl)⟩
    · rintro ⟨walked, rfl, -, -, -, hfuel, -⟩
      obtain rfl := List.length_eq_zero_iff.1 (Nat.le_zero.1 hfuel)
      simp [walk]
  | succ fuel ih =>
    intro seen seg x left all
    by_cases hleft : left = 0
    · subst hleft
      constructor
      · intro h
        cases h
        exact ⟨[], by simp, walkEnters_nil.2 (.inl rfl)⟩
      · rintro ⟨walked, rfl, -, -, -, -, hdrop, -⟩
        obtain rfl : walked = [] := by by_contra hne; exact absurd (hdrop hne) (Nat.not_lt_zero _)
        simp [walk]
    · simp only [walk, if_neg hleft]
      constructor
      · intro h
        split at h
        · cases h
        next l hl =>
          split at h
          · cases h
          next hseen =>
            obtain ⟨walked, rfl, hwalked⟩ := ih.1 h
            exact ⟨l.seg :: walked, by simp, (walkEnters_cons hleft).2 ⟨l, hl, rfl, by simpa using hseen, hwalked⟩⟩
      · rintro ⟨walked, rfl, hwalked⟩
        cases walked with
        | nil => exact absurd (walkEnters_nil.1 hwalked) (by simp [hleft])
        | cons n rest =>
          obtain ⟨l, hl, rfl, hseen, hrest⟩ := (walkEnters_cons hleft).1 hwalked
          simp only [hl, List.contains_eq_mem, hseen, decide_false, Bool.false_eq_true, if_false]
          exact ih.2 ⟨rest, by simp, hrest⟩

/-- With fuel to spare a walk of `h` mm that has `room` mm before the end covers its distance. -/
theorem walkEnters_of_short {map : Table Segment} {fuel : Nat} {seen : List Nat} {seg : Nat} {x : End} {room h : Nat}
    {walked : List Nat} (hshort : walked.length < fuel) :
    WalkEnters map fuel seen seg x (h - room) walked
      ↔ LinkOneWalk map seg x walked ∧ walked.Nodup ∧ (∀ n ∈ walked, n ∉ seen) ∧ WalkCovers map room h walked := by
  have hfar : h - room ≤ (walked.map (lengthOf map)).sum ↔ h ≤ room + (walked.map (lengthOf map)).sum := by omega
  have hdrop : (walked.dropLast.map (lengthOf map)).sum < h - room
      ↔ room + (walked.dropLast.map (lengthOf map)).sum < h := by omega
  simp only [WalkEnters, WalkCovers, hfar, hdrop, hshort.le, hshort.ne, or_false, true_and]
  tauto

/-! ## The occupied run (R18) -/

/-- The distance from a point of a segment to the end it is left by. -/
def roomAhead (map : Table Segment) (seg offset : Nat) (dir : Direction) : Nat :=
  match dir with
  | .forward => lengthOf map seg - offset
  | .reverse => offset

/-- The distance from a point of a segment to the end it is entered by. -/
def roomBehind (map : Table Segment) (seg offset : Nat) (dir : Direction) : Nat :=
  match dir with
  | .forward => offset
  | .reverse => lengthOf map seg - offset

theorem lengthOf_sub_roomAhead {map : Table Segment} {seg offset : Nat} (dir : Direction)
    (h : offset ≤ lengthOf map seg) :
    lengthOf map seg - roomAhead map seg offset dir = roomBehind map seg offset dir := by
  cases dir <;> simp only [roomAhead, roomBehind]
  omega

/-- What the two walks make of the occupied run: the second begins with what the first has entered. -/
theorem occupiedRun_eq {map : Table Segment} {seg offset : Nat} (h : Nat) (dir : Direction)
    (hoffset : offset ≤ lengthOf map seg) :
    occupiedRun map seg offset dir h
      = match walk map 13 [seg] seg dir.leaving (h - roomAhead map seg offset dir) with
        | .failed n => .failed n
        | .entered fwd =>
            match walk map 13 fwd seg dir.entering (h - roomBehind map seg offset dir) with
            | .failed n => .failed n
            | .entered all =>
                if 12 < ((all.drop fwd.length).reverse ++ fwd).length then .failed ((all.drop 12).headD seg)
                else .entered ((all.drop fwd.length).reverse ++ fwd) := by
  rw [← lengthOf_sub_roomAhead dir hoffset]
  rfl

/-- The occupied run is what the two walks enter, if it is of at most 12 segments. -/
theorem occupiedRun_eq_entered {map : Table Segment} {seg offset h : Nat} {dir : Direction} {run : List Nat}
    (hoffset : offset ≤ lengthOf map seg) :
    occupiedRun map seg offset dir h = .entered run
      ↔ ∃ ahead behind, run = behind.reverse ++ seg :: ahead ∧ run.length ≤ 12
          ∧ WalkEnters map 13 [seg] seg dir.leaving (h - roomAhead map seg offset dir) ahead
          ∧ WalkEnters map 13 (seg :: ahead) seg dir.entering (h - roomBehind map seg offset dir) behind := by
  rw [occupiedRun_eq h dir hoffset]
  constructor
  · intro hrun
    split at hrun
    · cases hrun
    next fwd hfwd =>
      split at hrun
      · cases hrun
      next all hall =>
        split at hrun
        · cases hrun
        next hlength =>
          obtain ⟨ahead, rfl, hahead⟩ := (walk_eq_entered 13).1 hfwd
          obtain ⟨behind, rfl, hbehind⟩ := (walk_eq_entered 13).1 hall
          simp only [List.drop_left, Walk.entered.injEq] at hrun hlength
          subst hrun
          exact ⟨ahead, behind, rfl, not_lt.1 hlength, hahead, hbehind⟩
  · rintro ⟨ahead, behind, rfl, hlength, hahead, hbehind⟩
    simp only [(walk_eq_entered 13).2 ⟨ahead, rfl, hahead⟩, List.cons_append, List.nil_append,
      (walk_eq_entered 13).2 ⟨behind, rfl, hbehind⟩]
    rw [← List.cons_append, List.drop_left, if_neg (not_lt.2 hlength)]

theorem nodup_run_iff {seg : Nat} {ahead behind : List Nat} :
    (behind.reverse ++ seg :: ahead).Nodup
      ↔ (ahead.Nodup ∧ ∀ n ∈ ahead, n ∉ [seg]) ∧ behind.Nodup ∧ ∀ n ∈ behind, n ∉ seg :: ahead := by
  simp only [List.nodup_append', List.nodup_reverse, List.nodup_cons, List.disjoint_left, List.mem_reverse,
    List.mem_cons, List.not_mem_nil, or_false]
  constructor
  · rintro ⟨hbehind, ⟨hseg, hahead⟩, hapart⟩
    exact ⟨⟨hahead, fun n hn h => hseg (h ▸ hn)⟩, hbehind, fun n hn => hapart hn⟩
  · rintro ⟨⟨hahead, hseg⟩, hbehind, hapart⟩
    exact ⟨hbehind, ⟨fun h => hseg _ h rfl, hahead⟩, fun _ hn => hapart hn⟩

end Sys2Proof.Machine

namespace Sys2Proof.Proofs

open Sys2Proof.Machine Sys2Proof.Safety

/-- R18: the occupied run, walk by walk. -/
theorem occupiedRun_is_exact (map : Table Segment) (seg offset h : Nat) (dir : Direction) (run : List Nat)
    (hoffset : offset ≤ lengthOf map seg) :
    occupiedRun map seg offset dir h = .entered run ↔
      ∃ ahead behind, run = behind.reverse ++ seg :: ahead ∧ run.Nodup ∧ run.length ≤ 12
        ∧ LinkOneWalk map seg dir.leaving ahead ∧ LinkOneWalk map seg dir.entering behind
        ∧ WalkCovers map (roomAhead map seg offset dir) h ahead
        ∧ WalkCovers map (roomBehind map seg offset dir) h behind := by
  rw [occupiedRun_eq_entered hoffset]
  refine exists_congr fun ahead => exists_congr fun behind => and_congr_right fun hrun => ?_
  subst hrun
  rw [nodup_run_iff, and_left_comm (b := _ ≤ 12)]
  refine and_congr_right fun hlength => ?_
  simp only [List.length_append, List.length_reverse, List.length_cons] at hlength
  rw [walkEnters_of_short (by omega), walkEnters_of_short (by omega)]
  tauto

/-- Settles O21: the map check by its first fault, and the occupied run by its two walks. -/
theorem mapCheckAndOccupiedRunAreExact : Obligations.MapCheckAndOccupiedRunAreExact := by
  refine ⟨fun _ => mapFault_eq_none, fun map n x f h => ?_, occupiedRun_is_exact⟩
  obtain ⟨before, g, after, hmap, hbefore, hfault⟩ := mapFault_eq_some h
  exact ⟨before, g, after, hmap, hbefore, segmentFault_eq_some hfault⟩

end Sys2Proof.Proofs
end

section
/-! PROOFS. The station invariant (R25, R26, R63, R131, R143, R151) of one block replaced, and through the operations of
the line, the claim record, the cache and the order queue. -/

namespace Sys2Proof.Machine

open Sys2Proof.Safety

/-- The station invariant with its parts named. -/
structure Consistent (s : State) : Prop where
  latch : s.motion.latch = .none ↔ s.control.state ≠ .halted
  causes : s.control.state ≠ .halted → s.control.causes = []
  join : s.control.joinTimer.isSome = true ↔ s.control.state = .joining
  centre : s.pos.centre.isSome = true ↔ s.control.state ≠ .setup
  quiet : QuietOutsideRunning s
  orders : OrderQueueSound s.orders
  record : RecordShape s.claim

theorem consistent_iff (s : State) : Consistent s ↔ StationInvariant s :=
  ⟨fun ⟨latch, causes, join, centre, quiet, orders, record⟩ => ⟨⟨latch, causes, join, centre⟩, quiet, orders, record⟩,
    fun ⟨⟨latch, causes, join, centre⟩, quiet, orders, record⟩ => ⟨latch, causes, join, centre, quiet, orders, record⟩⟩

/-! ## The claim record's shape (R63) -/

/-- A record gone to IDLE has the shape of IDLE, whatever attempt or wait it described. -/
theorem recordShape_idle {c : ClaimEngine} {r : ClaimRecord} (hc : c.record = r.toIdle) (hround : r.round = 1 ∨ r.round = 2)
    (hpeer : c.peerWait = none) : RecordShape c := by
  simp [RecordShape, hc, hpeer, ClaimRecord.toIdle, ClaimState.isWait, ClaimState.isPending, hround]

/-- The shape of a record speaks of the record and the peer wait information alone. -/
theorem recordShape_congr {c d : ClaimEngine} (h : RecordShape c) (hr : d.record = c.record)
    (hp : d.peerWait = c.peerWait) : RecordShape d := by
  simpa only [RecordShape, hr, hp] using h

theorem ClaimState.not_wait_of_isPending {x : ClaimState} (h : x.isPending = true) :
    x ≠ .blocked ∧ x ≠ .contested ∧ x ≠ .holdoff ∧ x.isWait = false := by
  cases x <;> simp_all [ClaimState.isPending, ClaimState.isWait]

/-- A pending claim goes from one of its states to another, its window timer running in the two window states alone. -/
theorem recordShape_pending {c : ClaimEngine} (h : RecordShape c) (hc : c.record.state.isPending = true) {x : ClaimState}
    (hx : x.isPending = true) {n : Nat} (hn : n = 1 ∨ n = 2) {w : Option Nat}
    (hw : w.isSome = true ↔ x = .windowR1 ∨ x = .windowR2) :
    RecordShape { c with record := { c.record with state := x, round := n, windowTimer := w } } := by
  obtain ⟨-, hcontest, hrival, hholder, hholdoff, hwait, -, -, htimer, hpeer, hstale⟩ := h
  obtain ⟨hblocked, hcontested, hheld, hnowait⟩ := ClaimState.not_wait_of_isPending hc
  obtain ⟨xblocked, xcontested, xheld, xnowait⟩ := ClaimState.not_wait_of_isPending hx
  simp only [hblocked, hcontested, hheld, hnowait, iff_false] at hcontest hrival hholder hholdoff hwait hpeer hstale
  simp only [RecordShape, xblocked, xcontested, xheld, xnowait, iff_false]
  exact ⟨hw, hcontest, hrival, hholder, hholdoff, hwait, by simp [hx], hn, htimer, hpeer, hstale⟩

/-- A ms counts timers down and starts or stops none. -/
theorem recordShape_tick {c : ClaimEngine} (h : RecordShape c) : RecordShape c.tick := by
  obtain ⟨hwindow, hcontest, hrival, hholder, hholdoff, hwait, hsegs, hround, htimer, hpeer, hstale⟩ := h
  refine ⟨by simpa [ClaimEngine.tick, ClaimRecord.tick, tickTimer] using hwindow,
    by simpa [ClaimEngine.tick, ClaimRecord.tick, tickTimer] using hcontest, hrival, hholder,
    by simpa [ClaimEngine.tick, ClaimRecord.tick] using hholdoff, hwait, hsegs, hround, ?_, hpeer, hstale⟩
  simpa [ClaimEngine.tick, ClaimRecord.tick, Holdoff.tick, tickTimer] using htimer

namespace Consistent

variable {s : State}

/-! ## One block replaced -/

/-- What leaves Station Control, the centre, the motion, the claim and the orders alone keeps the station consistent. -/
theorem of_same {t : State} (h : Consistent s) (hcontrol : t.control = s.control) (hcentre : t.pos.centre = s.pos.centre)
    (hmotion : t.motion = s.motion) (horders : t.orders.list = s.orders.list) (hclaim : t.claim = s.claim) :
    Consistent t := by
  simpa only [consistent_iff, StationInvariant, StationSound, QuietOutsideRunning, OrderQueueSound, hcontrol, hcentre,
    hmotion, horders, hclaim] using (consistent_iff s).1 h

/-- A claim or a wait in hand tells that the station is in RUNNING (R25, R26). -/
theorem running_of_record (h : Consistent s) (hr : s.claim.record.state ≠ .idle) : s.control.state = .running := by
  by_contra hs
  obtain ⟨-, -, -, hidle, -⟩ := h.quiet hs
  exact hr hidle

/-- An ACTIVE order tells that the station is in RUNNING (R26). -/
theorem running_of_active (h : Consistent s) {o : Order} (ho : o ∈ s.orders.list) (ha : o.state = .active) :
    s.control.state = .running := by
  by_contra hs
  obtain ⟨-, -, hactive, -⟩ := h.quiet hs
  exact hactive o ho ha

theorem setClaim {c : ClaimEngine} (h : Consistent s) (hshape : RecordShape c)
    (hquiet : s.control.state ≠ .running → c.record.state = .idle ∧ c.waitLimitYield = false) :
    Consistent (s.setClaim c) :=
  { h with
    quiet := fun hs => by
      obtain ⟨hspeed, hrequests, hactive, -⟩ := h.quiet hs
      exact ⟨hspeed, hrequests, hactive, hquiet hs⟩
    record := hshape }

/-- The claim's other fields may change freely: the record, the peer wait information and the yield stand. -/
theorem setClaim_kept {c : ClaimEngine} (h : Consistent s) (hr : c.record = s.claim.record)
    (hp : c.peerWait = s.claim.peerWait) (hy : c.waitLimitYield = s.claim.waitLimitYield) : Consistent (s.setClaim c) := by
  refine h.setClaim (recordShape_congr h.record hr hp) (fun hs => ?_)
  obtain ⟨-, -, -, hidle, hyield⟩ := h.quiet hs
  exact ⟨by rw [hr, hidle], by rw [hy, hyield]⟩

theorem setHeld (h : Consistent s) (l : List HeldEntry) : Consistent (s.setClaim { s.claim with held := l }) :=
  h.setClaim_kept rfl rfl rfl

theorem setMotion {m : Motion} (h : Consistent s) (hlatch : m.latch = .none ↔ s.motion.latch = .none)
    (hquiet : s.control.state ≠ .running → m.commanded = 0 ∧ m.requests = []) : Consistent (s.setMotion m) :=
  { h with
    latch := hlatch.trans h.latch
    quiet := fun hs => by
      obtain ⟨-, -, hactive, hidle, hyield⟩ := h.quiet hs
      obtain ⟨hspeed, hrequests⟩ := hquiet hs
      exact ⟨hspeed, hrequests, hactive, hidle, hyield⟩ }

/-- The motion's other fields may change freely: latch, commanded speed and requests stand. -/
theorem setMotion_kept {m : Motion} (h : Consistent s) (hlatch : m.latch = s.motion.latch)
    (hspeed : m.commanded = s.motion.commanded) (hrequests : m.requests = s.motion.requests) :
    Consistent (s.setMotion m) := by
  refine h.setMotion (by rw [hlatch]) (fun hs => ?_)
  obtain ⟨hzero, hnone, -⟩ := h.quiet hs
  exact ⟨hspeed.trans hzero, hrequests.trans hnone⟩

theorem setOrders {q : OrderQueue} (h : Consistent s) (hsound : OrderQueueSound q)
    (hquiet : s.control.state ≠ .running → ∀ o ∈ q.list, o.state ≠ .active) : Consistent (s.setOrders q) :=
  { h with
    quiet := fun hs => by
      obtain ⟨hspeed, hrequests, -, hclaim⟩ := h.quiet hs
      exact ⟨hspeed, hrequests, hquiet hs, hclaim⟩
    orders := hsound }

theorem setOrders_kept {q : OrderQueue} (h : Consistent s) (hlist : q.list = s.orders.list) :
    Consistent (s.setOrders q) :=
  h.setOrders (by simpa only [OrderQueueSound, hlist] using h.orders) (fun hs => by
    obtain ⟨-, -, hactive, -⟩ := h.quiet hs
    rwa [hlist])

/-- The position's other fields may change freely: whether there is a centre stands. -/
theorem setPos {p : PositionUnit} (h : Consistent s) (hcentre : p.centre.isSome = s.pos.centre.isSome) :
    Consistent (s.setPos p) :=
  { h with centre := by simpa only [State.setPos_pos, State.setPos_control, hcentre] using h.centre }

theorem setLine (h : Consistent s) (l : LaneLine) : Consistent (s.setLine l) := h.of_same rfl rfl rfl rfl rfl
theorem setResp (h : Consistent s) (u : LaneResponder) : Consistent (s.setResp u) := h.of_same rfl rfl rfl rfl rfl
theorem setCache (h : Consistent s) (c : PeerCache) : Consistent (s.setCache c) := h.of_same rfl rfl rfl rfl rfl
theorem setLift (h : Consistent s) (u : LiftUnit) : Consistent (s.setLift u) := h.of_same rfl rfl rfl rfl rfl
theorem setPort (h : Consistent s) (p : HostPort) : Consistent (s.setPort p) := h.of_same rfl rfl rfl rfl rfl
theorem setNotice (h : Consistent s) (u : NoticeUnit) : Consistent (s.setNotice u) := h.of_same rfl rfl rfl rfl rfl
theorem setParams (h : Consistent s) (p : Params) : Consistent (s.setParams p) := h.of_same rfl rfl rfl rfl rfl
theorem setPins (h : Consistent s) (p : Pins) : Consistent (s.setPins p) := h.of_same rfl rfl rfl rfl rfl
theorem setPending (h : Consistent s) (q : List Instr) : Consistent (s.setPending q) := h.of_same rfl rfl rfl rfl rfl
theorem setPhase (h : Consistent s) (n : Nat) : Consistent (s.setPhase n) := h.of_same rfl rfl rfl rfl rfl

/-- What each step of a fold keeps consistent, the fold keeps consistent. -/
theorem foldl {α : Type} {f : State → α → State} (h : Consistent s)
    (hf : ∀ u x, Consistent u → Consistent (f u x)) (l : List α) : Consistent (l.foldl f s) := by
  induction l generalizing s with
  | nil => exact h
  | cons x l ih => exact ih (hf s x h)

/-! ## Notices, replies and the line -/

theorem raise (h : Consistent s) (n : Notice) : Consistent (s.raise n) := h.setNotice _

theorem offerFault (h : Consistent s) (f : FaultOffer) : Consistent (s.offerFault f) := by
  unfold State.offerFault; split <;> exact h.setNotice _

theorem placeReply (h : Consistent s) (r : Reply) : Consistent (s.placeReply r) := h.setPort _

theorem offer (h : Consistent s) (t dest : Nat) (content : TxContent) : Consistent (s.offer t dest content).1 :=
  h.of_same (by simp) (by simp) (by simp) (by simp) (by simp)

theorem send (h : Consistent s) (t dest : Nat) (body : Body) : Consistent (s.send t dest body) := h.offer t dest _

theorem offerBeacon (h : Consistent s) (t : Nat) : Consistent (s.offerBeacon t) := h.offer t 255 .beacon

theorem chooseExpected (h : Consistent s) : Consistent s.chooseExpected := h.setPos rfl

theorem runChanged (h : Consistent s) (before : List Nat) : Consistent (s.runChanged before) := by
  unfold State.runChanged
  split
  · exact h
  · exact h.chooseExpected

/-! ## Service stop requests (R142) -/

/-- Only a station in RUNNING asks for a service stop. -/
theorem askStop (h : Consistent s) (hs : s.control.state = .running) (m : StopMember) : Consistent (s.askStop m) :=
  h.setMotion Iff.rfl (fun hn => absurd hs hn)

theorem withdrawStop (h : Consistent s) (m : StopMember) : Consistent (s.withdrawStop m) := by
  refine h.setMotion Iff.rfl (fun hs => ?_)
  obtain ⟨hspeed, hrequests, -⟩ := h.quiet hs
  exact ⟨hspeed, by simp [hrequests]⟩

/-! ## The claim record -/

theorem toIdle (h : Consistent s) : Consistent s.toIdle := by
  obtain ⟨-, -, -, -, -, -, -, hround, -⟩ := h.record
  have hidle : Consistent (s.setClaim
      { s.claim with record := s.claim.record.toIdle, peerWait := none, waitLimitYield := false }) :=
    h.setClaim (recordShape_idle rfl hround rfl) (fun _ => ⟨rfl, rfl⟩)
  simp only [State.toIdle]
  split
  · exact hidle.withdrawStop .waitLimit
  · exact hidle


/-- A wait behind a holder begins in RUNNING alone (R66, R75, R81). -/
theorem enterBlocked (h : Consistent s) (hs : s.control.state = .running) (seg holder : Nat) :
    Consistent (s.enterBlocked seg holder) := by
  obtain ⟨-, -, -, -, -, -, -, hround, -⟩ := h.record
  refine h.setClaim ?_ (fun hn => absurd hs hn)
  simp [RecordShape, ClaimRecord.toIdle, ClaimState.isWait, ClaimState.isPending, hround]

/-- A wait against a rival begins in RUNNING alone (R76, R80). -/
theorem enterContested (h : Consistent s) (hs : s.control.state = .running) (seg : Nat) (rival : Rival) :
    Consistent (s.enterContested seg rival) := by
  obtain ⟨-, -, -, -, -, -, -, hround, -⟩ := h.record
  refine h.setClaim ?_ (fun hn => absurd hs hn)
  simp [RecordShape, ClaimRecord.toIdle, ClaimState.isWait, ClaimState.isPending, hround]

theorem askRemoval (h : Consistent s) (owed : Bool) : Consistent (s.askRemoval owed) := by
  simp only [State.askRemoval]
  split
  · exact (h.setLine _).setClaim_kept rfl rfl rfl
  · exact h.setLine _

theorem sendWithdraw (h : Consistent s) (t number : Nat) : Consistent (s.sendWithdraw t number) := h.send t 255 _

theorem endClaim (h : Consistent s) (t : Nat) : Consistent (s.endClaim t) := by
  unfold State.endClaim
  split
  · exact (h.askRemoval true).toIdle
  · exact ((h.askRemoval false).sendWithdraw t _).toIdle
  · exact (h.sendWithdraw t _).toIdle
  · exact (h.sendWithdraw t _).toIdle
  all_goals exact h

theorem abandonClaim (h : Consistent s) (t : Nat) : Consistent (s.abandonClaim t) := (h.endClaim t).toIdle

theorem claimUndelivered (h : Consistent s) (t : Nat) : Consistent (s.claimUndelivered t) := by
  unfold State.claimUndelivered
  split
  · exact h.toIdle
  · exact h.toIdle.sendWithdraw t _
  all_goals exact h

theorem offerClaim (h : Consistent s) (t : Nat) : Consistent (s.offerClaim t) := by
  simp only [State.offerClaim]
  split
  · exact h.offer t 255 _
  · exact (h.offer t 255 _).claimUndelivered t

theorem fileReport (h : Consistent s) (x : Nat) (r : PeerReport) : Consistent (s.fileReport x r) := by
  obtain ⟨hwindow, hcontest, hrival, hholder, hholdoff, hwait, hsegs, hround, htimer, hpeer, hstale⟩ := h.record
  refine h.setClaim ⟨hwindow, hcontest, hrival, hholder, hholdoff, hwait, hsegs, hround, htimer, ?_, hstale⟩ (fun hs => ?_)
  · dsimp only
    split
    next hblocked => exact fun _ => hblocked.1
    · exact hpeer
  · obtain ⟨-, -, -, hidle, hyield⟩ := h.quiet hs
    exact ⟨hidle, hyield⟩

theorem cacheReport (h : Consistent s) (seg holder : Nat) : Consistent (s.cacheReport seg holder) := by
  unfold State.cacheReport
  split
  · exact h.toIdle
  · exact h

theorem cacheReportAny (h : Consistent s) (seg : Nat) : Consistent (s.cacheReportAny seg) := by
  unfold State.cacheReportAny
  split
  · exact h.toIdle
  · exact h

theorem giveBack (h : Consistent s) (t : Nat) (segs : List Nat) : Consistent (s.giveBack t segs) := by
  unfold State.giveBack
  split
  · exact h
  · exact (h.setHeld _).send t 255 _

theorem releaseReserved (h : Consistent s) (t : Nat) : Consistent (s.releaseReserved t) := by
  unfold State.releaseReserved
  split
  · exact h
  · exact (h.giveBack t _).chooseExpected

/-! ## The cache -/

theorem setWays (h : Consistent s) (w : Table CacheEntry) : Consistent (s.setWays w) := h.setCache _

theorem writeHolding (h : Consistent s) (seg x : Nat) (mark : Mark) (source : Source) (barred : List Nat) :
    Consistent (s.writeHolding seg x mark source barred) := by
  simp only [State.writeHolding]
  split
  · split
    · exact (h.setWays _).cacheReport _ _
    · exact h.setWays _
  · split
    · exact h.setWays _
    · exact h.setCache _

theorem freeWay (h : Consistent s) (source : Option Source) (k : Nat) : Consistent (s.freeWay source k) := by
  unfold State.freeWay
  split
  · exact h
  · exact (h.setWays _).cacheReport _ _

theorem invalidateWay (h : Consistent s) (k : Nat) : Consistent (s.invalidateWay k) := by
  unfold State.invalidateWay
  split
  · exact h
  · exact (h.setWays _).cacheReportAny _

theorem sweep (h : Consistent s) (x : Nat) (listed : List Nat) : Consistent (s.sweep x listed) :=
  h.foldl (fun _ k hu => hu.freeWay (some .beacon) k) _

theorem refresh (h : Consistent s) (x : Nat) (e : HeldEntry) : Consistent (s.refresh x e) := by
  unfold State.refresh
  split
  · exact h.writeHolding _ _ _ _ _
  · exact h

theorem fill (h : Consistent s) (x : Nat) (barred : List Nat) (e : HeldEntry) : Consistent (s.fill x barred e) := by
  unfold State.fill
  split
  · exact h.writeHolding _ _ _ _ _
  · exact h

theorem cacheBeacon (h : Consistent s) (x : Nat) (listed : List HeldEntry) (skip : List Nat) :
    Consistent (s.cacheBeacon x listed skip) :=
  ((h.sweep x _).foldl (fun _ e hu => hu.refresh x e) _).foldl (fun _ e hu => hu.fill x _ e) _

theorem cacheRelease (h : Consistent s) (x : Nat) (segs : List Nat) : Consistent (s.cacheRelease x segs) :=
  h.foldl (fun _ k hu => hu.freeWay (some .release) k) _

theorem cacheJoin (h : Consistent s) (segs : List Nat) : Consistent (s.cacheJoin segs) :=
  h.foldl (fun _ k hu => hu.freeWay none k) _

end Consistent

end Sys2Proof.Machine
end

section
/-! PROOFS. The orders of a sound queue (R151, R155), and the station invariant through orders leaving the queue, a halt
(R26, R27) and the overrun check (R146). -/

namespace Sys2Proof.Machine

open Sys2Proof.Safety

/-! ## A sound order queue -/

/-- In a sound queue an order in hand is the head. -/
theorem head_of_inHand {q : OrderQueue} {o : Order} (h : OrderQueueSound q) (ho : o ∈ q.list) (hand : inHand o = true) :
    ∃ rest, q.list = o :: rest := by
  obtain ⟨-, -, hbehind⟩ := h
  cases hl : q.list with
  | nil => simp [hl] at ho
  | cons x rest =>
    rw [hl] at ho hbehind
    obtain rfl | hrest := List.mem_cons.1 ho
    · exact ⟨rest, rfl⟩
    · rw [hbehind o hrest] at hand; cases hand

theorem State.activeOrder_spec {s : State} {o : Order} (h : s.activeOrder = some o) :
    o ∈ s.orders.list ∧ o.state = .active := by
  have hstate := List.find?_some h
  exact ⟨List.mem_of_find?_eq_some h, by simpa using hstate⟩

theorem State.activeOrder_eq_none {s : State} : s.activeOrder = none ↔ ∀ o ∈ s.orders.list, o.state ≠ .active := by
  simp [State.activeOrder]

/-- The ACTIVE order is the head. -/
theorem State.activeOrder_head {s : State} {o : Order} (hq : OrderQueueSound s.orders) (h : s.activeOrder = some o) :
    ∃ rest, s.orders.list = o :: rest := by
  obtain ⟨hmem, hactive⟩ := State.activeOrder_spec h
  exact head_of_inHand hq hmem (by simp [inHand, hactive])

theorem State.currentOrder_eq_none {s : State} : s.currentOrder = none ↔ ∀ o ∈ s.orders.list, inHand o = false := by
  simp [State.currentOrder, inHand]

/-- Orders that leave a sound queue leave a sound queue. -/
theorem orderQueueSound_filter {q r : OrderQueue} (h : OrderQueueSound q) (p : Order → Bool)
    (hr : r.list = q.list.filter p) : OrderQueueSound r := by
  obtain ⟨hlen, htags, hbehind⟩ := h
  rw [OrderQueueSound, hr]
  refine ⟨(List.length_filter_le _ _).trans hlen, htags.sublist ((List.filter_sublist).map _), fun o ho => ?_⟩
  cases hl : q.list with
  | nil => simp [hl] at ho
  | cons x rest =>
    rw [hl] at ho hbehind
    by_cases hx : p x = true
    · rw [List.filter_cons_of_pos hx] at ho
      exact hbehind o (List.mem_of_mem_filter ho)
    · rw [List.filter_cons_of_neg hx] at ho
      exact hbehind o (List.mem_of_mem_filter (List.mem_of_mem_drop ho))

/-- The head of a sound queue is the only order of its tag. -/
theorem State.setOrder_head {s : State} {o : Order} {rest : List Order} (hq : OrderQueueSound s.orders)
    (hl : s.orders.list = o :: rest) (f : Order → Order) : (s.setOrder o.tag f).orders.list = f o :: rest := by
  obtain ⟨-, htags, -⟩ := hq
  rw [hl, List.map_cons, List.nodup_cons] at htags
  have hrest : rest.map (fun x => if x.tag = o.tag then f x else x) = rest :=
    (List.map_congr_left (fun x hx => if_neg (fun heq : x.tag = o.tag =>
      htags.1 (heq ▸ List.mem_map_of_mem hx)))).trans (List.map_id' rest)
  simp [State.setOrder, hl, hrest]

/-- The head of a sound queue may change in anything but its tag. -/
theorem orderQueueSound_head {q r : OrderQueue} {o p : Order} {rest : List Order} (h : OrderQueueSound q)
    (hl : q.list = o :: rest) (hr : r.list = p :: rest) (htag : p.tag = o.tag) : OrderQueueSound r := by
  simpa [OrderQueueSound, hl, hr, htag] using h

namespace Consistent

variable {s : State}

/-! ## Orders leaving the queue or being suspended (R160, R165) -/

theorem removeOrder (h : Consistent s) (tag : Nat) : Consistent (s.removeOrder tag) := by
  refine runChanged (setCache (h.setOrders (orderQueueSound_filter h.orders _ rfl) (fun hs o ho => ?_)) _) _
  obtain ⟨-, -, hactive, -⟩ := h.quiet hs
  exact hactive o (List.mem_of_mem_filter ho)

theorem orderDone (h : Consistent s) (t : Nat) (o : Order) : Consistent (s.orderDone t o) := (h.removeOrder _).raise _

theorem orderCancelled (h : Consistent s) (t : Nat) (o : Order) : Consistent (s.orderCancelled t o) :=
  (h.removeOrder _).raise _

theorem orderFailed (h : Consistent s) (t : Nat) (o : Order) (why : FailReason) (seg : Option Nat) :
    Consistent (s.orderFailed t o why seg) := (h.removeOrder _).raise _

theorem cancelMarked (h : Consistent s) (t : Nat) (o : Order) : Consistent (s.cancelMarked t o) :=
  setOrders_kept (h.orderCancelled t o) rfl

/-- The head changes into an order of its tag, not ACTIVE or in RUNNING. -/
theorem setOrder_head (h : Consistent s) {o : Order} {rest : List Order} (hl : s.orders.list = o :: rest)
    (f : Order → Order) (htag : (f o).tag = o.tag) (hf : s.control.state ≠ .running → (f o).state ≠ .active) :
    Consistent (s.setOrder o.tag f) := by
  have hlist := State.setOrder_head h.orders hl f
  refine h.setOrders (orderQueueSound_head h.orders hl hlist htag) (fun hs x hx => ?_)
  obtain ⟨-, -, hactive, -⟩ := h.quiet hs
  obtain rfl | hrest := List.mem_cons.1 (hlist ▸ hx : x ∈ f o :: rest)
  · exact hf hs
  · exact hactive x (by simp [hl, hrest])

theorem suspend (h : Consistent s) {o : Order} (ho : s.activeOrder = some o) (why : SuspendReason) :
    Consistent (s.suspend o.tag why) := by
  obtain ⟨rest, hl⟩ := State.activeOrder_head h.orders ho
  exact runChanged (h.setOrder_head hl _ rfl (fun _ hactive => by cases hactive)) _

end Consistent

/-! ## The entry to HALTED (R26) -/

theorem State.removeOrder_orders (s : State) (tag : Nat) :
    (s.removeOrder tag).orders = { s.orders with list := s.orders.list.filter (fun o => o.tag != tag) } := by
  simp [State.removeOrder]

/-- An order behind the head of a sound queue is not ACTIVE. -/
theorem not_active_behind {q : OrderQueue} {o x : Order} {rest : List Order} (h : OrderQueueSound q)
    (hl : q.list = o :: rest) (hx : x ∈ rest) : x.state ≠ .active := by
  obtain ⟨-, -, hbehind⟩ := h
  intro hactive
  have := hbehind x (by simp [hl, hx])
  simp [inHand, hactive] at this

theorem State.suspend_list {s : State} {o : Order} {rest : List Order} (hq : OrderQueueSound s.orders)
    (hl : s.orders.list = o :: rest) (why : SuspendReason) :
    (s.suspend o.tag why).orders.list = { o with state := .suspended, reason := some why } :: rest := by
  simp [State.suspend, State.setOrder_head hq hl]

theorem State.cancelMarked_list {s : State} {o : Order} {rest : List Order} (hq : OrderQueueSound s.orders)
    (hl : s.orders.list = o :: rest) (t : Nat) : (s.cancelMarked t o).orders.list = rest := by
  obtain ⟨-, htags, -⟩ := hq
  rw [hl, List.map_cons, List.nodup_cons] at htags
  have hrest : rest.filter (fun x => x.tag != o.tag) = rest :=
    List.filter_eq_self.2 (fun x hx => bne_iff_ne.2 (fun heq : x.tag = o.tag =>
      htags.1 (heq ▸ List.mem_map_of_mem hx)))
  simp [State.cancelMarked, State.orderCancelled, State.removeOrder_orders, hl, hrest]

/-- A sound queue without its head is sound. -/
theorem orderQueueSound_tail {q r : OrderQueue} {o : Order} {rest : List Order} (h : OrderQueueSound q)
    (hl : q.list = o :: rest) (hr : r.list = rest) : OrderQueueSound r := by
  obtain ⟨hlen, htags, hbehind⟩ := h
  rw [hl] at hlen htags hbehind
  rw [List.map_cons, List.nodup_cons] at htags
  rw [OrderQueueSound, hr]
  exact ⟨by simp at hlen; omega, htags.2, fun x hx => hbehind x (List.mem_of_mem_drop hx)⟩

/-- A halt leaves the order queue sound, with no order ACTIVE (R26, R160, R162). -/
theorem State.haltOrders_orders {s : State} (t : Nat) (h : OrderQueueSound s.orders) :
    OrderQueueSound (s.haltOrders t).orders ∧ ∀ o ∈ (s.haltOrders t).orders.list, o.state ≠ .active := by
  unfold State.haltOrders
  split
  next hnone => exact ⟨h, State.activeOrder_eq_none.1 hnone⟩
  next o ho =>
    obtain ⟨rest, hl⟩ := State.activeOrder_head h ho
    split
    · have hlist := State.cancelMarked_list h hl t
      exact ⟨orderQueueSound_tail h hl hlist, fun x hx => not_active_behind h hl (hlist ▸ hx)⟩
    · have hlist := State.suspend_list h hl .halt
      refine ⟨orderQueueSound_head h hl hlist rfl, fun x hx => ?_⟩
      rw [hlist] at hx
      obtain rfl | hx := List.mem_cons.1 hx
      · exact fun hactive => by cases hactive
      · exact not_active_behind h hl hx

/-- The record goes to IDLE, with its wait and a wait-limit yield (R104, R113). -/
theorem State.toIdle_claim (s : State) :
    s.toIdle.claim = { s.claim with record := s.claim.record.toIdle, peerWait := none, waitLimitYield := false } := by
  simp only [State.toIdle]; split <;> simp

/-- Going to IDLE withdraws a service stop of the wait-limit yield and changes no other motion. -/
theorem State.toIdle_motion (s : State) :
    ∃ l, s.toIdle.motion = { s.motion with requests := l } ∧ ∀ m ∈ l, m ∈ s.motion.requests := by
  simp only [State.toIdle]
  split
  · exact ⟨_, rfl, fun m hm => List.mem_of_mem_filter hm⟩
  · exact ⟨_, rfl, fun m hm => hm⟩

/-- With no service stop requested there is none to withdraw. -/
theorem State.toIdle_motion_of_quiet {s : State} (h : s.motion.requests = []) : s.toIdle.motion = s.motion := by
  obtain ⟨l, hmotion, hl⟩ := s.toIdle_motion
  have hnil : l = [] := List.eq_nil_iff_forall_not_mem.2 (fun m hm => by simpa [h] using hl m hm)
  rw [hmotion, hnil, ← h]

theorem State.endClaim_motion_of_quiet {s : State} (t : Nat) (h : s.motion.requests = []) :
    (s.endClaim t).motion = s.motion := by
  unfold State.endClaim
  split
  · rw [State.toIdle_motion_of_quiet (by simpa using h)]; simp
  · rw [State.toIdle_motion_of_quiet (by simpa using h)]; simp
  · rw [State.toIdle_motion_of_quiet (by simpa using h)]; simp
  · rw [State.toIdle_motion_of_quiet (by simpa using h)]; simp
  all_goals rfl

theorem State.abandonClaim_motion_of_quiet {s : State} (t : Nat) (h : s.motion.requests = []) :
    (s.abandonClaim t).motion = s.motion := by
  have hend := State.endClaim_motion_of_quiet t h
  rw [State.abandonClaim, State.toIdle_motion_of_quiet (by rw [hend]; exact h), hend]

/-- The round of the latest attempt stays in the record (log 25). -/
theorem State.endClaim_round (s : State) (t : Nat) : (s.endClaim t).claim.record.round = s.claim.record.round := by
  unfold State.endClaim State.askRemoval
  (repeat' split) <;> simp [State.toIdle_claim, ClaimRecord.toIdle]

theorem State.abandonClaim_claim {s : State} (t : Nat) (h : RecordShape s.claim) :
    RecordShape (s.abandonClaim t).claim ∧ (s.abandonClaim t).claim.record.state = .idle
      ∧ (s.abandonClaim t).claim.waitLimitYield = false := by
  obtain ⟨-, -, -, -, -, -, -, hround, -⟩ := h
  rw [State.abandonClaim, State.toIdle_claim]
  exact ⟨recordShape_idle rfl (by rwa [State.endClaim_round]) rfl, rfl, rfl⟩

/-- The Motion Controller after the entry to HALTED (R131, R142, R143). -/
theorem State.enterHalted_motion (s : State) (t : Nat) :
    (s.enterHalted t).motion = s.motion.emergencyStop s.orders.effective := by
  simp only [State.enterHalted, State.haltOrders_frame]
  rw [State.abandonClaim_motion_of_quiet t (by simp [Motion.emergencyStop])]
  simp

theorem State.enterHalted_claim {s : State} (t : Nat) (h : RecordShape s.claim) :
    RecordShape (s.enterHalted t).claim ∧ (s.enterHalted t).claim.record.state = .idle
      ∧ (s.enterHalted t).claim.waitLimitYield = false := by
  simp only [State.enterHalted, State.haltOrders_frame]
  exact State.abandonClaim_claim t (by simpa using h)

theorem State.enterHalted_orders {s : State} (t : Nat) (h : OrderQueueSound s.orders) :
    OrderQueueSound (s.enterHalted t).orders ∧ ∀ o ∈ (s.enterHalted t).orders.list, o.state ≠ .active :=
  State.haltOrders_orders t (by simpa using h)

namespace Consistent

variable {s : State}

/-- The entry to HALTED makes a station consistent, whatever state it leaves and with a cause already in the set. -/
theorem enterHalted (t : Nat) (hcentre : s.pos.centre.isSome = true) (hqueue : OrderQueueSound s.orders)
    (hshape : RecordShape s.claim) : Consistent (s.enterHalted t) := by
  obtain ⟨hrecord, hidle, hyield⟩ := State.enterHalted_claim t hshape
  obtain ⟨horders, hactive⟩ := State.enterHalted_orders t hqueue
  have hmotion := s.enterHalted_motion t
  constructor
  case latch => simp [hmotion, Motion.emergencyStop]
  case causes => simp
  case join => simp
  case centre => simp [hcentre]
  case quiet => exact fun _ => ⟨by simp [hmotion, Motion.emergencyStop], by simp [hmotion, Motion.emergencyStop],
    hactive, hidle, hyield⟩
  case orders => exact horders
  case record => exact hrecord

theorem addCause (h : Consistent s) (hs : s.control.state = .halted) (c : Cause) : Consistent (s.addCause c) :=
  { h with causes := fun hn => absurd hs hn }

theorem dropCause (h : Consistent s) (c : Cause) : Consistent (s.dropCause c) :=
  { h with causes := fun hs => by simp [State.dropCause, h.causes hs] }

theorem halt (h : Consistent s) (t : Nat) (c : Cause) : Consistent (s.halt t c) := by
  have hcentre := h.centre
  unfold State.halt
  split
  · exact h
  next hs => exact h.addCause hs c
  next hs => exact enterHalted t (by simpa [hs] using hcentre) h.orders h.record
  next hs => exact enterHalted t (by simpa [hs] using hcentre) h.orders h.record

theorem haltWith (h : Consistent s) (t : Nat) (r : HaltReport) : Consistent (s.haltWith t r) :=
  ((h.raise _).offerFault _).halt t r.cause

/-! ## The overrun check (R146) -/

theorem setOverrunMark (h : Consistent s) (b : Bool) : Consistent (s.setOverrunMark b) := h.setMotion_kept rfl rfl rfl

theorem overrunCheck (h : Consistent s) (t : Nat) : Consistent (s.overrunCheck t) := by
  unfold State.overrunCheck
  (repeat' split)
  · exact h.setOverrunMark false
  · exact h
  · exact (h.setOverrunMark true).haltWith t _
  · exact h.setOverrunMark false
  · exact h
  · exact (h.setOverrunMark true).haltWith t _
  · exact h

theorem newAuthority (h : Consistent s) (t : Nat) : Consistent (s.newAuthority t) :=
  overrunCheck (h.setMotion_kept (by rfl) (by rfl) (by rfl)) t

theorem stopRelease (h : Consistent s) (t : Nat) : Consistent (s.stopRelease t) := (h.releaseReserved t).newAuthority t

theorem settleConflicts (h : Consistent s) : Consistent s.settleConflicts := by
  unfold State.settleConflicts
  split
  · exact h.dropCause _
  · exact h

end Consistent

end Sys2Proof.Machine
end

section
/-! PROOFS. The station invariant through the Position Unit (R11 to R20, R141), the Lift Unit (R164, R166 to R171), and
the items of a control step (R130). -/

namespace Sys2Proof.Machine

open Sys2Proof.Safety

namespace Consistent

variable {s : State}

/-! ## Position -/

theorem capEntry (h : Consistent s) (t : Nat) (before : List Nat) : Consistent (s.capEntry t before) := by
  unfold State.capEntry
  split
  next hs =>
    split
    · exact h
    · exact raise (h.setMotion (by rfl) (fun hn => absurd hs hn)) _
  · exact h

theorem entryEvents (h : Consistent s) : Consistent s.entryEvents := h.setHeld _

theorem exitEvents (h : Consistent s) (t : Nat) : Consistent (s.exitEvents t) := h.giveBack t _

theorem bodyMoved (h : Consistent s) (t : Nat) (before : List Nat) : Consistent (s.bodyMoved t before) :=
  ((h.capEntry t before).entryEvents).exitEvents t

theorem positionLost (h : Consistent s) (t seg : Nat) : Consistent (s.positionLost t seg) :=
  haltWith (h.setPos (by rfl)) t _

theorem reckon (h : Consistent s) (t um : Nat) : Consistent (s.reckon t um) := by
  simp only [State.reckon]
  split
  · exact h
  next c hc =>
    have hmoved : Consistent (s.setPos { s.pos with centre := some (moveCentre (placedAhead s.pos.map s.runSegs c) c um).1 }) :=
      h.setPos (by simp [hc])
    split
    · exact positionLost (hmoved.setPos (by rfl)) t _
    · exact hmoved

theorem missCheck (h : Consistent s) (t : Nat) : Consistent (s.missCheck t) := by
  unfold State.missCheck
  split
  · exact h
  split
  · exact h
  split
  · exact h
  split
  · exact raise (chooseExpected (h.setPos (by rfl))) _
  split
  · exact h.positionLost t _
  · exact h

theorem positionStep (h : Consistent s) (t pulses : Nat) : Consistent (s.positionStep t pulses) :=
  bodyMoved (missCheck (reckon (s := s.setPos { s.pos with pulses := 0 }) (h.setPos rfl) t _) t) t _

theorem unmappedRead (h : Consistent s) (t code : Nat) : Consistent (s.unmappedRead t code) := by
  unfold State.unmappedRead
  split
  · exact h
  · exact raise (h.setPos (by rfl)) _

theorem snap (h : Consistent s) (hc : s.pos.centre.isSome = true) (t : Nat) (c : Centre) : Consistent (s.snap t c) :=
  (chooseExpected (h.setPos (by simp [hc]))).bodyMoved t _

theorem drift (h : Consistent s) (t seg : Nat) (e : Int) : Consistent (s.drift t seg e) := by
  unfold State.drift
  split
  · exact h
  · exact h.raise _

theorem mappedRead (h : Consistent s) (t : Nat) (m : Marker) : Consistent (s.mappedRead t m) := by
  simp only [State.mappedRead]
  split
  · exact h
  next c hc =>
    split
    · exact h.haltWith t _
    split
    · exact h.haltWith t _
    split
    · exact h.haltWith t _
    · exact (h.drift t _ _).snap (by simp [hc]) t _

theorem tagRead (h : Consistent s) (t code : Nat) : Consistent (s.tagRead t code) := by
  unfold State.tagRead
  split
  · exact h.unmappedRead t code
  split
  · exact h.mappedRead t _
  · exact h.unmappedRead t code

/-! ## The lift -/

theorem setEffective (h : Consistent s) (c : LoadClass) : Consistent (s.setEffective c) := h.setOrders_kept rfl

theorem loadCheck (h : Consistent s) (t : Nat) (tag : Option Nat) : Consistent (s.loadCheck t tag) := by
  simp only [State.loadCheck]
  split
  · exact ((h.setLift _).setEffective _).raise _
  · exact h.setLift _

theorem liftDownReset (h : Consistent s) : Consistent s.liftDownReset := (h.setEffective .empty).setLift _

theorem liftSuccess (h : Consistent s) (t : Nat) : Consistent (s.liftSuccess t) := by
  simp only [State.liftSuccess]
  split
  · exact h.setLift _
  split
  · exact h.setLift _
  · exact (h.setLift _).orderDone t _

theorem liftReached (h : Consistent s) (t : Nat) : Consistent (s.liftReached t) := by
  simp only [State.liftReached]
  split
  · exact ((h.setLift _).loadCheck t _).liftSuccess t
  · exact (h.setLift _).liftDownReset.liftSuccess t
  all_goals exact h

theorem judgeSensors (h : Consistent s) (t : Nat) : Consistent (s.judgeSensors t) := by
  unfold State.judgeSensors
  split
  · exact h.liftReached t
  · exact h.liftReached t
  · exact h

theorem beginLift (h : Consistent s) (t tag : Nat) (action : EndAction) : Consistent (s.beginLift t tag action) := by
  simp only [State.beginLift]
  split
  · exact ((h.setLift _).setLift _).judgeSensors t
  · exact ((h.setLift _).setLift _).judgeSensors t
  · exact ((h.setLift _).loadCheck t _).liftSuccess t
  · exact (h.setLift _).liftDownReset.liftSuccess t
  · exact h

theorem liftTimeout (h : Consistent s) (t : Nat) : Consistent (s.liftTimeout t) := by
  simp only [State.liftTimeout]
  split
  · exact h.setLift _
  split
  · exact ((h.setLift _).raise _).offerFault _
  · exact (((h.setLift _).raise _).offerFault _).orderFailed t _ _ _

/-! ## The figures, the drive and the stall (R134 to R140, R145, R147) -/

theorem figuresStep (h : Consistent s) (t : Nat) : Consistent (s.figuresStep t) :=
  overrunCheck (h.setMotion_kept (by rfl) (by rfl) (by rfl)) t

theorem obstacleCheck (h : Consistent s) (t : Nat) : Consistent (s.obstacleCheck t) := by
  unfold State.obstacleCheck
  split
  · exact h.haltWith t _
  · exact h

theorem driveStep (h : Consistent s) (reversal : Bool) : Consistent (s.driveStep reversal) := by
  unfold State.driveStep
  split
  next hs =>
    split
    · exact h
    · exact h.setMotion Iff.rfl (fun hn => absurd hs hn)
  · exact h

theorem raiseStall (h : Consistent s) (t : Nat) : Consistent (s.raiseStall t) :=
  haltWith (h.setMotion_kept (by rfl) (by rfl) (by rfl)) t _

theorem stallStep (h : Consistent s) (t : Nat) : Consistent (s.stallStep t) := by
  unfold State.stallStep
  split
  · split
    · split
      · exact h.raiseStall t
      · exact h.setMotion_kept rfl rfl rfl
    · exact h.setMotion_kept rfl rfl rfl
  · exact h

/-! ## The emergency latch and service stops (R142, R143) -/

/-- The latch is set from one running value to another. -/
theorem setLatch {m : Motion} (h : Consistent s) (hrunning : s.motion.latch ≠ .none) (hlatch : m.latch ≠ .none)
    (hspeed : m.commanded = s.motion.commanded) (hrequests : m.requests = s.motion.requests) :
    Consistent (s.setMotion m) := by
  refine h.setMotion (iff_of_false hlatch hrunning) (fun hs => ?_)
  obtain ⟨hzero, hnone, -⟩ := h.quiet hs
  exact ⟨hspeed.trans hzero, hrequests.trans hnone⟩

theorem emergencyComplete (h : Consistent s) (hrunning : s.motion.latch ≠ .none) (t : Nat) :
    Consistent (s.emergencyComplete t) := by
  simp only [State.emergencyComplete]
  split
  · exact h.setLatch hrunning (by simp) rfl rfl
  · exact stopRelease (h.setLatch hrunning (by simp) (by rfl) (by rfl)) t

theorem latchStep (h : Consistent s) (t : Nat) : Consistent (s.latchStep t) := by
  unfold State.latchStep
  split
  · exact h
  next hl =>
    split
    · split
      · exact h.emergencyComplete (by simp [hl]) t
      · exact h.setMotion_kept rfl rfl rfl
    · exact h.setMotion_kept rfl rfl rfl
  next hl =>
    split
    · exact h
    · exact h.setLatch (by simp [hl]) (by simp) rfl rfl

/-- A holdoff goes from its STOPPING phase into WAITING with its timer running (R108). -/
theorem waitHoldoff (h : Consistent s) {ho : Holdoff} (hho : s.claim.record.holdoff = some ho) (n : Nat) :
    Consistent (s.setRecord
      { s.claim.record with holdoff := some { ho with phase := .waiting, timer := some n } }) := by
  obtain ⟨hwindow, hcontest, hrival, hholder, hholdoff, hwait, hsegs, hround, -, hpeer, hstale⟩ := h.record
  have hstate : s.claim.record.state = .holdoff := hholdoff.1 (by simp [hho])
  have hs := h.running_of_record (by simp [hstate])
  refine h.setClaim ?_ (fun hn => absurd hs hn)
  exact ⟨hwindow, hcontest, hrival, hholder, by simp [hstate], hwait, hsegs, hround, by simp, hpeer, hstale⟩

theorem yieldStopped (h : Consistent s) (t : Nat) : Consistent (s.yieldStopped t) := by
  unfold State.yieldStopped
  split
  · exact h
  next ho hho =>
    split
    · split
      · split
        · exact h.toIdle
        next o hactive => exact ((h.suspend hactive .yield).raise _).toIdle
      · split
        · exact h.waitHoldoff hho _
        · exact h.toIdle
    · exact h

theorem cancelStopped (h : Consistent s) (t : Nat) : Consistent (s.cancelStopped t) := by
  unfold State.cancelStopped
  split
  · exact h
  · split
    · exact h.cancelMarked t _
    · exact h

/-- The requests and the wait-limit yield may be cleared at any time. -/
theorem clearStops (h : Consistent s) : Consistent ((s.setMotion { s.motion with requests := [], stopZero := 0 }).setClaim
    { s.claim with waitLimitYield := false }) := by
  have hmotion : Consistent (s.setMotion { s.motion with requests := [], stopZero := 0 }) := by
    refine h.setMotion Iff.rfl (fun hs => ?_)
    obtain ⟨hzero, -⟩ := h.quiet hs
    exact ⟨hzero, rfl⟩
  refine hmotion.setClaim (recordShape_congr h.record rfl rfl) (fun hs => ?_)
  obtain ⟨-, -, -, hidle, -⟩ := h.quiet hs
  exact ⟨hidle, rfl⟩

theorem serviceComplete (h : Consistent s) (t : Nat) : Consistent (s.serviceComplete t) := by
  have hreleased := h.clearStops.releaseReserved t
  simp only [State.serviceComplete]
  refine newAuthority ?_ t
  split
  · split
    · exact (hreleased.yieldStopped t).cancelStopped t
    · exact hreleased.cancelStopped t
  · split
    · exact hreleased.yieldStopped t
    · exact hreleased

theorem serviceStep (h : Consistent s) (t : Nat) : Consistent (s.serviceStep t) := by
  unfold State.serviceStep
  split
  · split
    · split
      · exact h.serviceComplete t
      · exact h.setMotion_kept rfl rfl rfl
    · exact h.setMotion_kept rfl rfl rfl
  · exact h

/-! ## Reversal and arrival (R148, R149, R163) -/

theorem takeReversal (h : Consistent s) (t : Nat) : Consistent (s.takeReversal t) := by
  have hturned : Consistent (s.setPos { s.pos with centre := s.pos.centre.map (fun c => { c with dir := c.dir.flip }) }) :=
    h.setPos (by simp)
  exact newAuthority (bodyMoved (chooseExpected
    ((hturned.setHeld _).setMotion_kept (by rfl) (by rfl) (by rfl))) t _) t

theorem reversalStep (h : Consistent s) (t : Nat) : Consistent (s.reversalStep t) := by
  have hjudged : Consistent (s.setMotion { s.motion with reversalPending := s.wantsReversal }) :=
    h.setMotion_kept rfl rfl rfl
  simp only [State.reversalStep]
  split
  · split
    · exact hjudged.takeReversal t
    · exact hjudged
  · exact h

theorem endAction (h : Consistent s) {o : Order} (ho : s.activeOrder = some o) (t : Nat) :
    Consistent (s.endAction t o) := by
  obtain ⟨rest, hl⟩ := State.activeOrder_head h.orders ho
  have hfinish : Consistent (s.setOrder o.tag (fun o => { o with state := .finishing })) :=
    h.setOrder_head hl _ rfl (fun _ hactive => by cases hactive)
  unfold State.endAction
  split
  · exact h.orderDone t o
  all_goals
    split
    · exact h.orderFailed t o _ _
    · exact hfinish.beginLift t _ _

theorem arrivalStep (h : Consistent s) (t : Nat) (reversal : Bool) : Consistent (s.arrivalStep t reversal) := by
  unfold State.arrivalStep
  split
  · split
    · exact h
    next o ho => exact (h.abandonClaim t).endAction (by simpa [State.activeOrder] using ho) t
  · exact h

end Consistent

end Sys2Proof.Machine
end

section
/-! PROOFS. The station invariant through the Claim Engine's part of a control step (R65 to R68, R84, R105 to R113),
activation (R156 to R159), the whole step (R130), and the frames taken from the buffer (R43). -/

namespace Sys2Proof.Machine

open Sys2Proof.Safety

namespace Consistent

variable {s : State}

/-! ## Forming a claim (R65 to R68) -/

/-- A new attempt fills a record that was IDLE (R64, R67). -/
theorem newAttempt (h : Consistent s) (hs : s.control.state = .running) (hidle : s.claim.record.state = .idle) (t : Nat)
    (segs : List Nat) (urgency : Nat) : Consistent (s.newAttempt t segs urgency) := by
  obtain ⟨-, -, -, -, -, -, -, -, -, hpeer, -⟩ := h.record
  refine offerClaim (h.setClaim ?_ (fun hn => absurd hs hn)) t
  simp [RecordShape, ClaimRecord.toIdle, ClaimState.isWait, ClaimState.isPending, hidle] at hpeer ⊢
  exact hpeer

/-- Only a BLOCKED wait is marked as found STALE (R68). -/
theorem foundStale (h : Consistent s) (b : Bool) (hb : b = true → s.claim.record.state = .blocked) :
    Consistent (s.foundStale b) := by
  obtain ⟨hwindow, hcontest, hrival, hholder, hholdoff, hwait, hsegs, hround, htimer, hpeer, -⟩ := h.record
  refine h.setClaim ⟨hwindow, hcontest, hrival, hholder, hholdoff, hwait, hsegs, hround, htimer, hpeer, hb⟩ (fun hs => ?_)
  obtain ⟨-, -, -, hidle, hyield⟩ := h.quiet hs
  exact ⟨hidle, hyield⟩

theorem formClaim (h : Consistent s) (t : Nat) : Consistent (s.formClaim t) := by
  unfold State.formClaim
  split
  next htrigger =>
    have ⟨hs, hidle⟩ : s.control.state = .running ∧ s.claim.record.state = .idle := by
      simp only [State.claimTrigger, Bool.and_eq_true, beq_iff_eq] at htrigger
      tauto
    split
    · split
      · exact h
      · split
        · exact h.enterBlocked hs _ _
        · exact (h.enterBlocked hs _ _).foundStale true (fun _ => rfl)
        · exact h.newAttempt hs hidle t _ _
        · exact h.newAttempt hs hidle t _ _
    · exact h
  · exact h

theorem enquire (h : Consistent s) (t seg : Nat) : Consistent (s.enquire t seg) := by
  unfold State.enquire
  split
  · exact send (h.setClaim_kept (by rfl) (by rfl) (by rfl)) t 255 _
  · exact h

theorem enquiryStep (h : Consistent s) (t : Nat) : Consistent (s.enquiryStep t) := by
  unfold State.enquiryStep
  split
  · split
    · exact h.enquire t _
    all_goals exact h.foundStale false nofun
  · exact h

/-! ## The wait limit and the yields (R84, R105 to R107, R112, R113) -/

theorem waitedStep (h : Consistent s) : Consistent s.waitedStep := by
  unfold State.waitedStep
  split
  · exact h.setClaim_kept rfl rfl rfl
  · exact h

theorem beginWaitLimitYield (h : Consistent s) (hs : s.control.state = .running) : Consistent s.beginWaitLimitYield :=
  askStop (h.setClaim (c := { s.claim with waitLimitYield := true }) (recordShape_congr h.record rfl rfl)
    (fun hn => absurd hs hn)) hs .waitLimit

theorem expireWait (h : Consistent s) (t : Nat) : Consistent (s.expireWait t) := by
  have hexpired : Consistent (s.setClaim { s.claim with expired := true }) := h.setClaim_kept rfl rfl rfl
  simp only [State.expireWait]
  split
  next hstate =>
    exact (hexpired.raise _).beginWaitLimitYield (by simpa using h.running_of_record (by simp [hstate]))
  next hstate =>
    exact (hexpired.raise _).beginWaitLimitYield (by simpa using h.running_of_record (by simp [hstate]))
  all_goals exact hexpired.raise _

theorem waitLimitStep (h : Consistent s) (t : Nat) : Consistent (s.waitLimitStep t) := by
  unfold State.waitLimitStep
  split
  · exact h.expireWait t
  · exact h

/-- A BLOCKED wait becomes a holdoff in its STOPPING phase (R107). -/
theorem beginYield (h : Consistent s) (hs : s.control.state = .running) (hblocked : s.claim.record.state = .blocked)
    (x w : Nat) : Consistent (s.beginYield x w) := by
  have hheld : Consistent (s.setClaim
      { s.claim with
        record := { s.claim.record with
          state := .holdoff, holder := none, holdoff := some ⟨.stopping, x, w, none⟩, lastStale := false }
        peerWait := none, waitLimitYield := false }) := by
    refine h.setClaim ?_ (fun hn => absurd hs hn)
    obtain ⟨hwindow, hcontest, hrival, -, -, hwait, hsegs, hround, -⟩ := h.record
    simp [hblocked, ClaimState.isWait, ClaimState.isPending] at hwindow hcontest hrival hwait hsegs
    simp [RecordShape, ClaimState.isWait, ClaimState.isPending, hwindow, hcontest, hrival, hwait, hsegs, hround]
  simp only [State.beginYield]
  split
  · exact (hheld.askStop hs .yield).withdrawStop .waitLimit
  · exact hheld.askStop hs .yield

theorem cycleStep (h : Consistent s) : Consistent s.cycleStep := by
  unfold State.cycleStep
  split
  next x r o hcycle _ =>
    have ⟨hs, hblocked⟩ : s.control.state = .running ∧ s.claim.record.state = .blocked := by
      unfold State.cycle at hcycle
      split at hcycle
      next hs hblocked _ _ => exact ⟨hs, hblocked⟩
      · cases hcycle
    split
    · exact h.beginYield hs hblocked _ _
    · exact h
  · exact h

theorem claimStep (h : Consistent s) (t : Nat) (mayForm : Bool) : Consistent (s.claimStep t mayForm) := by
  have hformed : Consistent (if mayForm then s.formClaim t else s) := by
    split
    · exact h.formClaim t
    · exact h
  exact (((hformed.enquiryStep t).waitedStep).waitLimitStep t).cycleStep

/-! ## Activation (R156 to R159) -/

theorem activate (h : Consistent s) (hs : s.control.state = .running) {o : Order} {rest : List Order}
    (hl : s.orders.list = o :: rest) (t : Nat) (path : List Nat) : Consistent (s.activate t o path) := by
  have hactive : Consistent (s.setOrder o.tag (fun x =>
      { x with state := .active, reason := none, path := path, activations := satAdd 255 x.activations 1 })) :=
    h.setOrder_head hl _ rfl (fun hn => absurd hs hn)
  have hclaim (c : ClaimEngine) (tag : Nat) :
      (c.followTag tag).record = c.record ∧ (c.followTag tag).peerWait = c.peerWait
        ∧ (c.followTag tag).waitLimitYield = c.waitLimitYield := by
    unfold ClaimEngine.followTag
    split <;> simp
  obtain ⟨hrecord, hpeer, hyield⟩ := hclaim s.claim o.tag
  exact raise (runChanged (setEffective ((hactive.setCache _).setClaim_kept (by simpa using hrecord)
    (by simpa using hpeer) (by simpa using hyield)) _) _) _

theorem judgeActivation (h : Consistent s) (hs : s.control.state = .running) (t fuel : Nat) :
    Consistent (s.judgeActivation t fuel) := by
  induction fuel generalizing s with
  | zero => exact h
  | succ fuel ih =>
    unfold State.judgeActivation
    split
    next o c ho _ =>
      obtain ⟨rest, hl⟩ : ∃ rest, s.orders.list = o :: rest := List.head?_eq_some_iff.1 ho
      split
      · split
        · exact h.activate hs hl t _
        · exact ih (h.orderFailed t o _ _) (by simpa using hs)
      · exact h
    · exact h

theorem activationStep (h : Consistent s) (t : Nat) : Consistent (s.activationStep t) := by
  unfold State.activationStep
  split
  next hready =>
    have hs : s.control.state = .running := by
      simp only [State.readyToActivate, Bool.and_eq_true, beq_iff_eq] at hready
      tauto
    exact h.judgeActivation hs t 9
  · exact h

/-! ## The control step (R130) -/

theorem motionStep (h : Consistent s) (t : Nat) : Consistent (s.motionStep t) :=
  ((((((((h.latchStep t).figuresStep t).obstacleCheck t).reversalStep t).driveStep _).stallStep t).serviceStep
    t).arrivalStep t _).claimStep t _

theorem controlStep (h : Consistent s) : Consistent s.controlStep := by
  have hmoved : Consistent (s.positionStep s.now s.pos.pulses) := h.positionStep _ _
  have hstepped := motionStep (hmoved.setMotion_kept (m := { (s.positionStep s.now s.pos.pulses).motion with
    measured := measuredSpeed s.params s.pos.pulses }) rfl rfl rfl) s.now
  simp only [State.controlStep]
  split
  · exact hstepped.activationStep _
  · exact hstepped

/-! ## Frames from the buffer (R75 to R83, R86 to R101, R110, R120) -/

theorem editionMismatch (h : Consistent s) (t x edition : Nat) : Consistent (s.editionMismatch t x edition) := by
  unfold State.editionMismatch
  split
  · exact h
  · exact (h.setResp _).raise _

theorem holdConflict (h : Consistent s) (t x seg : Nat) (detail : Option Nat) :
    Consistent (s.holdConflict t x seg detail) := by
  unfold State.holdConflict
  split
  · exact h
  · exact (h.setResp _).haltWith t _

theorem conflictCheck (h : Consistent s) (t x : Nat) (own : List HeldEntry) (e : HeldEntry) :
    Consistent (s.conflictCheck t x own e) := by
  unfold State.conflictCheck
  split
  · exact h
  · exact h.holdConflict t x _ _

theorem responderBeacon (h : Consistent s) (t x edition : Nat) (listed : List HeldEntry) :
    Consistent (s.responderBeacon t x edition listed) := by
  have hchecked : Consistent (listed.foldl (fun u e => u.conflictCheck t x s.claim.held e) s) :=
    h.foldl (fun _ e hu => hu.conflictCheck t x _ e) listed
  have homitted : Consistent ((listed.foldl (fun u e => u.conflictCheck t x s.claim.held e) s).omissionCheck x
      (heldSegs listed)) := (hchecked.setResp _).settleConflicts
  simp only [State.responderBeacon]
  split
  · exact homitted
  · exact homitted.editionMismatch t x edition

theorem beaconEndsClaim (h : Consistent s) (hs : s.control.state = .running) (t x seg : Nat) :
    Consistent (s.beaconEndsClaim t x seg) := by
  unfold State.beaconEndsClaim
  split
  · exact (h.endClaim t).enterBlocked (by simpa using hs) seg x
  · exact h.endClaim t

theorem beaconBlocked (h : Consistent s) (x seg : Nat) (listed : List Nat) : Consistent (s.beaconBlocked x seg listed) := by
  unfold State.beaconBlocked
  split
  · split
    · exact h
    · exact h.toIdle
  · split
    · exact h.toIdle
    · exact h

theorem beaconHoldoff (h : Consistent s) (x waitingFor : Nat) : Consistent (s.beaconHoldoff x waitingFor) := by
  unfold State.beaconHoldoff
  split
  · exact h
  split
  · exact h.toIdle
  · exact h

/-- A record that names segments to claim is a pending claim, in RUNNING. -/
theorem running_of_segs (h : Consistent s) {n : Nat} (hn : n ∈ s.claim.record.segs) : s.control.state = .running := by
  obtain ⟨-, -, -, -, -, -, hsegs, -⟩ := h.record
  refine h.running_of_record (fun hidle => ?_)
  rw [hsegs (by simp [hidle, ClaimState.isPending])] at hn
  cases hn

theorem claimBeacon (h : Consistent s) (t x : Nat) (b : BeaconBody) : Consistent (s.claimBeacon t x b) := by
  have hfiled := h.fileReport x ⟨b.waitingFor, b.urgency⟩
  simp only [State.claimBeacon]
  split
  · exact hfiled.beaconBlocked x _ _
  next hstate _ =>
    split
    · exact hfiled.enterBlocked (hfiled.running_of_record (by simp [hstate])) _ x
    · exact hfiled
  · exact hfiled.beaconHoldoff x _
  · split
    · exact hfiled
    next n hn => exact hfiled.beaconEndsClaim (hfiled.running_of_segs (List.mem_of_find?_eq_some hn)) t x n

theorem takeBeacon (h : Consistent s) (t x edition : Nat) (b : BeaconBody) : Consistent (s.takeBeacon t x edition b) :=
  ((h.responderBeacon t x edition b.held).cacheBeacon x b.held _).claimBeacon t x b

theorem object (h : Consistent s) (t x number seg : Nat) (why : Reason) : Consistent (s.object t x number seg why) :=
  h.send t x _

theorem crossing (h : Consistent s) (hs : s.control.state = .running) (t x number urgency waited : Nat)
    (segs : List Nat) : Consistent (s.crossing t x number urgency waited segs) := by
  unfold State.crossing
  split
  · split
    · exact h.object t x number _ _
    · exact (h.endClaim t).enterContested (by simpa using hs) _ _
  · exact h

theorem answerClaim (h : Consistent s) (t x edition number urgency waited : Nat) (segs : List Nat) :
    Consistent (s.answerClaim t x edition number urgency waited segs) := by
  unfold State.answerClaim
  split
  · exact (h.object t x number _ _).editionMismatch t x edition
  split
  · exact h.object t x number _ _
  split
  next hpending =>
    have hs := h.running_of_record (fun hidle => by simp [hidle, ClaimState.isPending] at hpending)
    exact h.crossing hs t x number urgency waited segs
  · exact h

theorem supplyRival (h : Consistent s) (x number : Nat) : Consistent (s.supplyRival x number) := by
  unfold State.supplyRival
  split
  next hrival =>
    obtain ⟨hcontested, -⟩ := hrival
    obtain ⟨hwindow, hcontest, -, hholder, hholdoff, hwait, hsegs, hround, htimer, hpeer, hstale⟩ := h.record
    exact h.setClaim ⟨hwindow, hcontest, by simp [hcontested], hholder, hholdoff, hwait, hsegs, hround, htimer, hpeer, hstale⟩
      (fun hn => absurd (h.running_of_record (by simp [hcontested])) hn)
  · exact h

theorem takeClaim (h : Consistent s) (t x edition number urgency waited : Nat) (segs : List Nat) :
    Consistent (s.takeClaim t x edition number urgency waited segs) :=
  (h.supplyRival x number).answerClaim t x edition number urgency waited segs

theorem takeEnquire (h : Consistent s) (t : Nat) (segs : List Nat) : Consistent (s.takeEnquire t segs) := by
  unfold State.takeEnquire
  split
  · exact h.offerBeacon t
  · exact h

theorem objectHeld (h : Consistent s) (hs : s.control.state = .running) (t x seg : Nat) (m : Mark) :
    Consistent (s.objectHeld t x seg m) := by
  have hwritten := (h.endClaim t).writeHolding seg x m .object []
  simp only [State.objectHeld]
  split
  · exact hwritten.enterBlocked (by simpa using hs) seg x
  · exact hwritten

theorem objectEdition (h : Consistent s) (t x edition : Nat) : Consistent (s.objectEdition t x edition) :=
  setClaim_kept ((h.endClaim t).editionMismatch t x edition) (by rfl) (by rfl) (by rfl)

theorem lateReserved (h : Consistent s) (t x seg : Nat) (m : Mark) : Consistent (s.lateReserved t x seg m) :=
  ((((h.giveBack t _).writeHolding seg x m .object []).endClaim t).chooseExpected).newAuthority t

theorem lateOther (h : Consistent s) (x seg : Nat) (m : Mark) : Consistent (s.lateOther x seg m) := by
  have hwritten := h.writeHolding seg x m .object []
  simp only [State.lateOther]
  split
  next hcontested => exact hwritten.enterBlocked (hwritten.running_of_record (by simp [hcontested.1])) seg x
  · exact hwritten

theorem lateObjection (h : Consistent s) (t x edition seg : Nat) (why : Reason) :
    Consistent (s.lateObjection t x edition seg why) := by
  unfold State.lateObjection
  split
  · split
    · exact h.lateReserved t x seg _
    · exact h.holdConflict t x seg none
    · exact h.lateOther x seg _
  · split
    · exact h.editionMismatch t x edition
    · exact h

theorem takeObject (h : Consistent s) (t x edition number seg : Nat) (why : Reason) (r : PeerReport) :
    Consistent (s.takeObject t x edition number seg why r) := by
  have hfiled := h.fileReport x r
  simp only [State.takeObject]
  split
  next hmatched =>
    have hs := hfiled.running_of_record (fun hidle => by simp [ClaimRecord.matched, hidle] at hmatched)
    split
    · exact hfiled.objectHeld hs t x seg _
    · exact hfiled.objectHeld hs t x seg _
    · exact (hfiled.endClaim t).enterContested (by simpa using hs) seg _
    · exact hfiled.objectEdition t x edition
  · exact hfiled.lateObjection t x edition seg why

theorem claimRelease (h : Consistent s) (x : Nat) (segs : List Nat) : Consistent (s.claimRelease x segs) := by
  unfold State.claimRelease
  split
  · split
    · exact h.toIdle
    · exact h
  · exact h

theorem takeWithdraw (h : Consistent s) (x number : Nat) : Consistent (s.takeWithdraw x number) := by
  unfold State.takeWithdraw
  split
  · split
    · exact h.toIdle
    · exact h
  · exact h

theorem process (h : Consistent s) (r : Received) : Consistent (s.process r) := by
  simp only [State.process]
  split
  · exact h.takeBeacon _ _ _ _
  · exact h.takeClaim _ _ _ _ _ _ _
  · exact h.takeObject _ _ _ _ _ _ _
  · exact h.takeWithdraw _ _
  · exact (h.cacheRelease _ _).claimRelease _ _
  · exact h.takeEnquire _ _
  · exact h.raise _

theorem takeHead (h : Consistent s) : Consistent s.takeHead := by
  unfold State.takeHead
  split
  · exact h
  · exact ((h.setLine _).setPort _).process _

theorem takeKind (h : Consistent s) (kind : Nat) : Consistent (s.takeKind kind) := by
  unfold State.takeKind
  split
  · split
    · exact h.takeHead
    · exact h
  · exact h

theorem takeFrames (h : Consistent s) (n : Nat) : Consistent (State.takeFrames n s) := by
  induction n generalizing s with
  | zero => exact h
  | succ n ih => exact ih h.takeHead

end Consistent

end Sys2Proof.Machine
end

section
/-! PROOFS. The station invariant through the line (R33, R37 to R51, R69 to R74), the clocks (R25, R70, R71, R77, R83,
R110, R112, R123) and the host commands (R22 to R31, R46, R54, R102, R127, R152 to R162, R173), and so through every
step. -/

namespace Sys2Proof.Machine

open Sys2Proof.Safety

namespace Consistent

variable {s : State}

/-! ## The line -/

theorem countLine (h : Consistent s) (f : LineCounters → LineCounters) : Consistent (s.countLine f) := h.setLine _

theorem duplicateFrame (h : Consistent s) (t : Nat) (f : Frame) : Consistent (s.duplicateFrame t f) := by
  unfold State.duplicateFrame
  split
  · exact h
  · exact (h.setResp _).haltWith t _

theorem bufferFrame (h : Consistent s) (t : Nat) (f : Frame) : Consistent (s.bufferFrame t f) := by
  unfold State.bufferFrame
  split
  · exact (h.setLine _).countLine _
  · exact (h.countLine _).offerFault _

theorem goodFrame (h : Consistent s) (t : Nat) (f : Frame) : Consistent (s.goodFrame t f) := by
  unfold State.goodFrame
  split
  · exact h.duplicateFrame t f
  split
  · exact h.countLine _
  split
  · exact h.bufferFrame t f
  · exact h

theorem closeFrame (h : Consistent s) (t : Nat) (c : Closing) : Consistent (s.closeFrame t c) := by
  unfold State.closeFrame
  split
  · exact h.countLine _
  · exact h.countLine _
  · split
    · exact h
    · exact h.countLine _
    · exact h.countLine _
    · exact h.countLine _
    · exact h.goodFrame t _

theorem receive (h : Consistent s) (t : Nat) (bits : List Bool) : Consistent (s.receive t bits) := by
  simp only [State.receive]
  split
  · exact h
  · exact (h.setLine _).foldl (fun _ c hu => hu.closeFrame t c) _

theorem beginSending (h : Consistent s) : Consistent s.beginSending := by
  unfold State.beginSending
  split
  · split
    · exact h
    · exact h.setLine _
  · exact h

/-- A round sent starts its objection window (R69, R70). -/
theorem roundSent (h : Consistent s) : Consistent s.roundSent := by
  have ⟨_, _, _, _, _, _, _, hround, _⟩ := h.record
  unfold State.roundSent
  split
  next hstate =>
    exact h.setClaim (recordShape_pending h.record (by simp [hstate, ClaimState.isPending]) rfl hround (by simp))
      (fun hn => absurd (h.running_of_record (by simp [hstate])) hn)
  next hstate =>
    exact h.setClaim (recordShape_pending h.record (by simp [hstate, ClaimState.isPending]) rfl hround (by simp))
      (fun hn => absurd (h.running_of_record (by simp [hstate])) hn)
  all_goals exact h

theorem removalNotSent (h : Consistent s) : Consistent s.removalNotSent := h.setClaim_kept rfl rfl rfl

theorem removalSent (h : Consistent s) (t : Nat) : Consistent (s.removalSent t) := by
  simp only [State.removalSent]
  split
  · exact h
  split
  · exact h.removalNotSent.sendWithdraw t _
  · exact h.removalNotSent

theorem completeSending (h : Consistent s) : Consistent s.completeSending := by
  unfold State.completeSending
  split
  · simp only [State.sent]
    split
    · split
      · exact (h.setLine _).removalSent _
      · exact (h.setLine _).roundSent
    · exact h.setLine _
  · exact h

theorem tellOwner (h : Consistent s) (t : Nat) (e : TxEntry) : Consistent (s.tellOwner t e) := by
  unfold State.tellOwner
  split
  · exact h.removalNotSent
  split
  · exact h.claimUndelivered t
  split
  · exact h.raise _
  · exact h

theorem degradeCheck (h : Consistent s) (t : Nat) : Consistent (s.degradeCheck t) := by
  unfold State.degradeCheck
  split
  · exact (h.setLine _).raise _
  · exact h

theorem collide (h : Consistent s) (bit : Nat) : Consistent (s.collide bit) := by
  unfold State.collide
  split
  · split
    · simp only [State.afterCollision]
      split
      · exact ((h.setLine _).tellOwner _ _).degradeCheck _
      split
      · exact (h.setLine _).removalNotSent
      · exact h.setLine _
    · exact h
  · exact h

theorem endBackoff (h : Consistent s) : Consistent s.endBackoff := by
  unfold State.endBackoff
  split
  · exact h.setLine _
  all_goals exact h

/-! ## The clocks -/

theorem serviceStopDue (h : Consistent s) : Consistent s.serviceStopDue := by
  unfold State.serviceStopDue
  split
  · exact h.serviceComplete _
  · exact h

theorem emergencyStopDue (h : Consistent s) : Consistent s.emergencyStopDue := by
  unfold State.emergencyStopDue
  split
  next hdue => exact h.emergencyComplete (by simp [hdue.1]) _
  · exact h

theorem stallDue (h : Consistent s) : Consistent s.stallDue := by
  unfold State.stallDue
  split
  · exact h.raiseStall _
  · exact h

theorem waitDue (h : Consistent s) : Consistent s.waitDue := by
  unfold State.waitDue
  split
  · exact expireWait (h.setClaim_kept (by rfl) (by rfl) (by rfl)) _
  · exact h

/-- Entering RUNNING with the join timer stopped and no cause left makes a consistent station (R25, R30). -/
theorem enterRunning (h : Consistent s) {c : Control} (t : Nat) (hs : s.control.state ≠ .setup) (hcauses : c.causes = [])
    (hjoin : c.joinTimer = none) :
    Consistent (((s.setControl c).setMotion s.motion.enterRunning).changeState t .running) where
  latch := by simp [Motion.enterRunning]
  causes := fun _ => by simp [hcauses]
  join := by simp [hjoin]
  centre := by simpa [hs] using h.centre.2 hs
  quiet := fun hn => absurd (by simp) hn
  orders := by simpa using h.orders
  record := by simpa using h.record

theorem joinDue (h : Consistent s) : Consistent s.joinDue := by
  unfold State.joinDue
  split
  next hs => exact h.enterRunning s.now (by simp [hs]) (h.causes (by simp [hs])) rfl
  · exact h

theorem beaconDue (h : Consistent s) : Consistent s.beaconDue := by
  unfold State.beaconDue
  split
  · exact h
  · exact (h.setLine _).offerBeacon _

/-- After the round 1 window the claim waits for round 2 (R70). -/
theorem windowR1Due (h : Consistent s) : Consistent s.windowR1Due := by
  unfold State.windowR1Due
  split
  next hstate =>
    have hshape := recordShape_pending h.record (by simp [hstate, ClaimState.isPending]) (x := .queuedR2) rfl
      (n := 2) (.inr rfl) (w := none) (by simp)
    exact offerClaim (h.setClaim hshape (fun hn => absurd (h.running_of_record (by simp [hstate])) hn)) _
  · exact h

theorem windowR2Due (h : Consistent s) : Consistent s.windowR2Due := by
  unfold State.windowR2Due
  split
  · exact newAuthority (chooseExpected (toIdle (cacheJoin (h.setClaim_kept (by rfl) (by rfl) (by rfl)) _))) _
  · exact h

theorem contestDue (h : Consistent s) : Consistent s.contestDue := by
  unfold State.contestDue
  split
  · exact h.toIdle
  · exact h

theorem retryDue (h : Consistent s) : Consistent s.retryDue := h.setClaim_kept rfl rfl rfl

theorem holdoffDue (h : Consistent s) : Consistent s.holdoffDue := by
  unfold State.holdoffDue
  split
  · exact h.toIdle
  · exact h

theorem staleDue (h : Consistent s) (k : Nat) : Consistent (s.staleDue k) := by
  unfold State.staleDue
  split
  · exact h
  split
  · exact h.setWays _
  · exact h

theorem liftDue (h : Consistent s) : Consistent s.liftDue := by
  unfold State.liftDue
  split
  · exact h.liftTimeout _
  · exact h

/-! ## One millisecond -/

theorem outsideSetup {f : State → State} (h : Consistent s) (hf : ∀ u, Consistent u → Consistent (f u)) :
    Consistent (s.outsideSetup f) := by
  unfold State.outsideSetup
  split
  · exact h
  · exact hf s h

theorem tickStation (h : Consistent s) : Consistent s.tickStation := by
  have hcontrol : Consistent (s.setControl { s.control with joinTimer := tickTimer s.control.joinTimer }) :=
    { h with join := by simpa [tickTimer] using h.join }
  have hclaim : Consistent (((s.setControl { s.control with joinTimer := tickTimer s.control.joinTimer }).setLine
      { s.line with beaconTimer := tickTimer s.line.beaconTimer }).setClaim s.claim.tick) := by
    refine (hcontrol.setLine _).setClaim (recordShape_tick h.record) (fun hs => ?_)
    obtain ⟨-, -, -, hidle, hyield⟩ := h.quiet hs
    exact ⟨hidle, hyield⟩
  exact (hclaim.setCache _).setLift _

theorem idle (h : Consistent s) : Consistent s.idle :=
  setPending (outsideSetup ((h.setNotice _).setPhase _) (fun _ hu => hu.tickStation)) _

/-! ## Pins -/

theorem bringObst (h : Consistent s) (obst : Bool) : Consistent (s.bringObst obst) := by
  simp only [State.bringObst]
  split
  · exact h.setPins _
  · exact (h.setPins _).dropCause _

/-! ## Host commands -/

theorem hostCommand {kind : Nat} {args : List Byte} {run : State → Answer} (h : Consistent s)
    (hrun : ∀ u, Consistent u → Consistent (run u).state) : Consistent (s.hostCommand kind args run) := by
  cases he : s.executing kind args with
  | none => rwa [State.hostCommand_of_other s kind args run he]
  | some u =>
    rw [State.hostCommand_of_executing s u kind args run he]
    refine (hrun u ?_).placeReply _
    simp only [State.executing, State.hostReady, Option.map_eq_some_iff] at he
    obtain ⟨v, hv, rfl⟩ := he
    split at hv
    · split at hv <;> cases hv
      exact h.takeFrames _
    all_goals
      cases hv
      exact (h.setPort _).takeFrames _

/-- A command whose own rule keeps a station consistent in the states in which it is taken. -/
theorem checked {α : Type} {taken : StationState → Bool} {run : State → α → Answer} (h : Consistent s)
    (args : Option α) (hrun : ∀ a, taken s.control.state = true → Consistent (run s a).state) :
    Consistent (s.checked args taken run).state := by
  unfold State.checked
  split
  · exact h
  split
  next htaken => exact hrun _ htaken
  · exact h

theorem hostChecked {α : Type} {kind : Nat} {args : List Byte} {read : Option α} {taken : StationState → Bool}
    {run : State → α → Answer} (h : Consistent s)
    (hrun : ∀ u a, Consistent u → taken u.control.state = true → Consistent (run u a).state) :
    Consistent (s.hostCommand kind args (fun u => u.checked read taken run)) :=
  h.hostCommand (fun u hu => hu.checked read (fun a htaken => hrun u a hu htaken))

end Consistent

end Sys2Proof.Machine
end

section
/-! PROOFS. The station invariant through the commands' own rules (R22 to R31, R46, R54, R102, R127, R152 to R162, R173),
and through every step. -/

namespace Sys2Proof.Machine

open Sys2Proof.Safety

namespace Consistent

variable {s : State}

/-! ## SUBMIT_ORDER (R155) -/

/-- An order of a new tag goes before a queue with room in which no order is in hand. -/
theorem pushOrder (h : Consistent s) {o : Order} (hroom : s.orders.list.length < 8)
    (htag : ∀ x ∈ s.orders.list, x.tag ≠ o.tag) (ho : o.state = .queued)
    (hidle : ∀ x ∈ s.orders.list, inHand x = false) : Consistent (s.setList (o :: s.orders.list)) := by
  obtain ⟨-, htags, -⟩ := h.orders
  refine h.setOrders ⟨by simp; omega, ?_, by simpa using hidle⟩ (fun hs x hx => ?_)
  · simpa only [List.map_cons, List.nodup_cons] using ⟨by simpa using htag, htags⟩
  · obtain ⟨-, -, hactive, -⟩ := h.quiet hs
    obtain rfl | hx := List.mem_cons.1 hx
    · simp [ho]
    · exact hactive x hx

/-- An order of a new tag goes behind the head of a queue with room, or behind the whole queue. -/
theorem insertOrder (h : Consistent s) {o : Order} {front back : List Order} (hl : s.orders.list = front ++ back)
    (hfront : front ≠ [] ∨ back = []) (hroom : s.orders.list.length < 8) (htag : ∀ x ∈ s.orders.list, x.tag ≠ o.tag)
    (ho : o.state = .queued) : Consistent (s.setList (front ++ o :: back)) := by
  obtain ⟨-, htags, hbehind⟩ := h.orders
  rw [hl] at hroom htag htags hbehind
  refine h.setOrders ⟨by simp at hroom ⊢; omega, ?_, fun x hx => ?_⟩ (fun hs x hx => ?_)
  · have hnew : o.tag ∉ (front ++ back).map Order.tag := fun hmem => by
      obtain ⟨x, hx, heq⟩ := List.mem_map.1 hmem
      exact htag x hx heq
    simpa using (List.perm_middle.map Order.tag).nodup_iff.2 (List.nodup_cons.2 ⟨hnew, htags⟩)
  · cases front with
    | nil => simp [hfront.resolve_left (by simp)] at hx
    | cons y front =>
      simp only [List.cons_append, List.drop_succ_cons, List.drop_zero, List.mem_append, List.mem_cons] at hx hbehind
      obtain hx | rfl | hx := hx
      · exact hbehind x (.inl hx)
      · simp [inHand, ho]
      · exact hbehind x (.inr hx)
  · obtain ⟨-, -, hactive, -⟩ := h.quiet hs
    rw [hl] at hactive
    simp only [List.mem_append, List.mem_cons] at hx
    obtain hx | rfl | hx := hx
    · exact hactive x (by simp [hx])
    · simp [ho]
    · exact hactive x (by simp [hx])

theorem frontSuspend (h : Consistent s) {o : Order} (ho : s.activeOrder = some o) (t : Nat) :
    Consistent (s.frontSuspend t o.tag) := by
  obtain ⟨hmem, hactive⟩ := State.activeOrder_spec ho
  exact ((h.suspend ho .front).askStop (by simpa using h.running_of_active hmem hactive) .front).abandonClaim t

theorem placeFront (h : Consistent s) {o : Order} (hroom : s.orders.list.length < 8)
    (htag : ∀ x ∈ s.orders.list, x.tag ≠ o.tag) (ho : o.state = .queued) (t : Nat) : Consistent (s.placeFront t o) := by
  obtain ⟨-, -, hbehind⟩ := h.orders
  unfold State.placeFront
  split
  next hl => simpa [hl] using h.pushOrder hroom htag ho (by simp [hl])
  next head rest hl =>
    simp only [hl, List.drop_succ_cons, List.drop_zero] at hbehind
    split
    next hstate =>
      simpa [hl] using h.pushOrder hroom htag ho (by simpa [hl, inHand, hstate] using hbehind)
    next hstate =>
      have hfront : Consistent (s.setList ({ head with reason := some .front } :: rest)) := by
        refine h.setOrders (orderQueueSound_head h.orders hl rfl rfl) (fun hs x hx => ?_)
        obtain rfl | hx := List.mem_cons.1 hx
        · simp [hstate]
        · exact not_active_behind h.orders hl hx
      exact hfront.pushOrder (by simpa [State.setList, hl] using hroom) (by simpa [State.setList, hl] using htag) ho
        (by simpa [State.setList, inHand, hstate] using hbehind)
    next hstate =>
      have hactive : s.activeOrder = some head := by simp [State.activeOrder, hl, hstate]
      simp only [hl, List.length_cons, List.forall_mem_cons] at hroom htag
      dsimp only
      split
      · have hlist := State.cancelMarked_list h.orders hl t
        exact (h.cancelMarked t head).pushOrder (by rw [hlist]; omega) (by rw [hlist]; exact htag.2) ho
          (by rw [hlist]; exact hbehind)
      · have hlist : (s.frontSuspend t head.tag).orders.list
            = { head with state := .suspended, reason := some .front } :: rest := by
          simp [State.frontSuspend, State.suspend_list h.orders hl]
        exact (h.frontSuspend hactive t).pushOrder (by simpa [hlist] using hroom) (by simpa [hlist] using htag) ho
          (by simpa [hlist, inHand] using hbehind)
    next => exact h.insertOrder (front := [head]) hl (.inl (by simp)) hroom htag ho

theorem placeOrder (h : Consistent s) {o : Order} (hroom : s.orders.list.length < 8)
    (htag : ∀ x ∈ s.orders.list, x.tag ≠ o.tag) (ho : o.state = .queued) (t : Nat) : Consistent (s.placeOrder t o) := by
  unfold State.placeOrder
  split
  · exact h.placeFront hroom htag ho t
  · exact h.insertOrder (back := []) (by simp) (.inr rfl) hroom htag ho

theorem submitOrder (h : Consistent s) (a : OrderArgs) : Consistent (s.submitOrder a).state := by
  simp only [State.submitOrder]
  split
  · exact h
  next hroom =>
    split
    · exact h
    split
    · exact h
    next htags =>
      have hplaced : Consistent (s.placeOrder s.now (a.order (s.endBounds a.path))) :=
        h.placeOrder (by omega) (by simpa [OrderArgs.order] using htags) rfl _
      split
      · exact h
      · exact h
      split
      · exact h
      split
      · exact hplaced
      · exact hplaced

/-! ## The other commands -/

theorem cancelOrder (h : Consistent s) (tag : Nat) : Consistent (s.cancelOrder tag).state := by
  unfold State.cancelOrder
  split
  · exact h
  next o ho =>
    split
    · exact h.orderCancelled _ o
    · exact h.orderCancelled _ o
    next hactive =>
      split
      · exact h
      · have hs := h.running_of_active (List.mem_of_find?_eq_some ho) hactive
        exact abandonClaim (askStop (h.setOrders_kept (q := { s.orders with cancelMark := some tag }) rfl) hs .cancel) _
    · exact h

theorem resume (h : Consistent s) (hs : s.control.state = .halted) : Consistent s.resume.state := by
  unfold State.resume
  split
  · exact h
  split
  · refine h.enterRunning s.now (by simp [hs]) rfl ?_
    simpa [hs] using h.join
  · exact h

theorem restart (h : Consistent s) : Consistent s.restart.state := by
  obtain ⟨-, -, -, -, -, -, -, hround, -⟩ := h.record
  unfold State.restart
  split
  · constructor
    case latch => simp [State.restarted, Motion.still]
    case causes => simp [State.restarted]
    case join => simp [State.restarted]
    case centre => simp [State.restarted, PositionUnit.restart]
    case quiet => simp [QuietOutsideRunning, State.restarted, Motion.still, ClaimEngine.restart, ClaimRecord.toIdle]
    case orders => simp [OrderQueueSound, State.restarted]
    case record => simpa [State.restarted] using recordShape_idle (c := s.claim.restart) rfl hround rfl
  · exact h

theorem start (h : Consistent s) (hs : s.control.state = .setup) (a : StartArgs) : Consistent (s.start a).state := by
  obtain ⟨-, -, -, -, -, -, -, hround, -⟩ := h.record
  obtain ⟨-, -, hactive, -⟩ := h.quiet (by simp [hs])
  have hstarted (c : Centre) (run : List Nat) : Consistent (s.started c run) := by
    obtain ⟨hcontrol, -, -, hclaim, hmotion, hpos, -⟩ := s.started_frame c run
    constructor
    case latch => simp [hcontrol, hmotion, Motion.still]
    case causes => simpa [hcontrol] using h.causes (by simp [hs])
    case join => simp [hcontrol]
    case centre => simp [hcontrol, hpos, PositionUnit.begin]
    case quiet =>
      refine fun _ => ⟨by simp [hmotion, Motion.still], by simp [hmotion, Motion.still], ?_,
        by simp [hclaim, ClaimEngine.begin, ClaimRecord.toIdle], by simp [hclaim, ClaimEngine.begin]⟩
      simpa [State.started] using hactive
    case orders => simpa [State.started] using h.orders
    case record => rw [hclaim]; exact recordShape_idle rfl hround rfl
  unfold State.start
  split
  · exact h
  split
  · exact h
  split
  · split
    · exact h
    split
    · exact h
    · exact hstarted _ _
  · exact h

theorem lineReset (h : Consistent s) (t : Nat) : Consistent (s.lineReset t) := by
  have hlost : Consistent ((s.setLine s.line.lineReset).relaysLost t (countKind s.line.tx 7)) := by
    unfold State.relaysLost
    split
    · exact h.setLine _
    · exact (h.setLine _).raise _
  exact offerBeacon (endClaim (removalNotSent hlost) t) t

theorem clearLift (h : Consistent s) : Consistent s.clearLift.state := by
  unfold State.clearLift
  split
  · simp only [State.clearJam]
    split
    · exact (h.setLift _).loadCheck _ none
    · exact (h.setLift _).liftDownReset
    · exact h.setLift _
  · exact h

theorem forgetWait (h : Consistent s) (n : Nat) : Consistent (s.forgetWait n) := by
  have herased : Consistent (s.setClaim { s.claim with reports := Table.erase s.claim.reports n }) :=
    h.setClaim_kept rfl rfl rfl
  simp only [State.forgetWait]
  split
  · exact herased.toIdle
  · exact herased

theorem forgetStation (h : Consistent s) (n : Nat) : Consistent (s.forgetStation n).state := by
  have hfreed : Consistent (s.forgetHoldings (waysOf s.cache.ways n (fun _ => true))) :=
    h.foldl (fun _ k hu => hu.freeWay none k) _
  unfold State.forgetStation
  split
  · exact ((hfreed.setResp _).settleConflicts).forgetWait n
  · exact h

theorem sendRelay (h : Consistent s) (a : Nat × List Byte) : Consistent (s.sendRelay a).state := by
  unfold State.sendRelay
  split
  · exact h
  split
  · exact h
  · exact h.send _ _ _

theorem setStation (h : Consistent s) (a : StationArgs) : Consistent (s.setStation a).state := by
  unfold State.setStation
  split
  · exact { h with }
  · exact h

theorem setParameter (h : Consistent s) (a : Nat × Nat) : Consistent (s.setParameter a).state := by
  simp only [State.setParameter]
  split
  · exact h
  split
  · exact h.setParams _
  · exact h.setParams _

theorem loadSegment (h : Consistent s) (a : SegmentArgs) : Consistent (s.loadSegment a).state := by
  simp only [State.loadSegment]
  split
  · exact h
  split
  · exact h.setPos rfl
  · exact h.setPos rfl

theorem loadTagWindow (h : Consistent s) (a : Nat × TagWindow) : Consistent (s.loadTagWindow a).state := by
  unfold State.loadTagWindow
  split
  · split
    · exact h.setPos rfl
    · exact h
  · exact h

theorem readCacheEntry (h : Consistent s) (a : Nat × Nat) : Consistent (s.readCacheEntry a).state := by
  unfold State.readCacheEntry
  split
  · exact h
  · exact h

theorem invalidateEntry (h : Consistent s) (a : Nat × Nat) : Consistent (s.invalidateEntry a).state := by
  unfold State.invalidateEntry
  split
  · exact h.invalidateWay _
  · exact h

theorem invalidateSegment (h : Consistent s) (seg : Nat) : Consistent (s.invalidateSegment seg).state := by
  unfold State.invalidateSegment
  split
  · simp only [State.invalidated, State.invalidateFound]
    split
    · exact h
    · exact h.invalidateWay _
  · exact h

theorem invalidateSet (h : Consistent s) (set : Nat) : Consistent (s.invalidateSet set).state := by
  unfold State.invalidateSet
  split
  · exact h.foldl (fun _ w hu => hu.invalidateWay (4 * set + w)) _
  · exact h

theorem enableNotices (h : Consistent s) (codes : List Nat) : Consistent (s.enableNotices codes).state := by
  unfold State.enableNotices
  split
  · exact h
  · exact h.setNotice _

theorem disableNotices (h : Consistent s) (codes : List Nat) : Consistent (s.disableNotices codes).state := by
  unfold State.disableNotices
  split
  · exact h
  · exact h.setNotice _

theorem judgeCommand (h : Consistent s) (first : Byte) (rest : List Byte) : Consistent (s.judgeCommand first rest) := by
  unfold State.judgeCommand
  split
  · exact h.setPort _
  all_goals
    split
    · exact (h.setPort _).placeReply _
    split
    · exact (h.setPort _).placeReply _
    · exact h.setPort _

theorem transaction (h : Consistent s) (hdi : List Bool) (began : Bool) : Consistent (s.transaction hdi began) := by
  unfold State.transaction
  split
  · exact h
  split
  · exact h.setPort _
  · exact (h.setPort _).judgeCommand _ _

theorem reset : Consistent State.reset := by
  rw [consistent_iff]; decide

theorem powerOn (s : State) : Consistent s.powerOn := ((reset.setPins _).setPending _).setLift _

/-- Every command keeps a consistent station consistent. -/
theorem exec {c : Instr} {t : State} (h : Consistent s) (hexec : exec c s = .next t) : Consistent t := by
  cases c with
  | powerOnReset => cases hexec; exact powerOn s
  | commandTransaction hdi began => cases hexec; exact h.transaction hdi began
  | readTransaction hdi began => cases hexec; exact h.transaction hdi began
  | setStation args => cases hexec; exact h.hostChecked (fun _ a hu _ => hu.setStation a)
  | setParameter args => cases hexec; exact h.hostChecked (fun _ a hu _ => hu.setParameter a)
  | loadSegment args => cases hexec; exact h.hostChecked (fun _ a hu _ => hu.loadSegment a)
  | loadTagWindow args => cases hexec; exact h.hostChecked (fun _ a hu _ => hu.loadTagWindow a)
  | setEdition args => cases hexec; exact h.hostChecked (fun _ _ hu _ => hu.setPos rfl)
  | start args => cases hexec; exact h.hostChecked (fun _ a hu htaken => hu.start (by simpa [inSetup] using htaken) a)
  | submitOrder args => cases hexec; exact h.hostChecked (fun _ a hu _ => hu.submitOrder a)
  | cancelOrder args => cases hexec; exact h.hostChecked (fun _ a hu _ => hu.cancelOrder a)
  | stop args => cases hexec; exact h.hostChecked (fun _ _ hu _ => hu.halt _ _)
  | resume args => cases hexec; exact h.hostChecked (fun _ _ hu htaken => hu.resume (by simpa [inHalted] using htaken))
  | restart args => cases hexec; exact h.hostChecked (fun _ _ hu _ => hu.restart)
  | sendRelay args => cases hexec; exact h.hostChecked (fun _ a hu _ => hu.sendRelay a)
  | lineReset args => cases hexec; exact h.hostChecked (fun _ _ hu _ => hu.lineReset _)
  | clearLift args => cases hexec; exact h.hostChecked (fun _ _ hu _ => hu.clearLift)
  | forgetStation args => cases hexec; exact h.hostChecked (fun _ a hu _ => hu.forgetStation a)
  | queryStatus args => cases hexec; exact h.hostChecked (fun _ _ hu _ => hu)
  | queryOrders args => cases hexec; exact h.hostChecked (fun _ _ hu _ => hu)
  | queryCounters args => cases hexec; exact h.hostChecked (fun _ _ hu _ => hu)
  | readCacheEntry args => cases hexec; exact h.hostChecked (fun _ a hu _ => hu.readCacheEntry a)
  | invalidateCacheEntry args => cases hexec; exact h.hostChecked (fun _ a hu _ => hu.invalidateEntry a)
  | invalidateCacheSegment args => cases hexec; exact h.hostChecked (fun _ a hu _ => hu.invalidateSegment a)
  | invalidateCacheSet args => cases hexec; exact h.hostChecked (fun _ a hu _ => hu.invalidateSet a)
  | readNotices args => cases hexec; exact h.hostChecked (fun _ _ hu _ => hu.setNotice _)
  | enableNotices args => cases hexec; exact h.hostChecked (fun _ a hu _ => hu.enableNotices a)
  | disableNotices args => cases hexec; exact h.hostChecked (fun _ a hu _ => hu.disableNotices a)
  | setAttention args => cases hexec; exact h.hostChecked (fun _ _ hu _ => hu.setNotice _)
  | readFaultRecord args => cases hexec; exact h.hostChecked (fun _ _ hu _ => hu)
  | clearFaultRecord args => cases hexec; exact h.hostChecked (fun _ _ hu _ => hu.setNotice _)
  | unknownCommand kind args =>
    change execUnknownCommand kind args s = .next t at hexec
    unfold execUnknownCommand at hexec
    split at hexec <;> cases hexec
    · exact h
    · exact h.hostCommand (fun _ hu => hu)
  | encoderPulse => cases hexec; exact h.outsideSetup (fun _ hu => hu.setPos rfl)
  | tagRead code => cases hexec; exact h.outsideSetup (fun _ hu => hu.tagRead _ _)
  | obstDeasserted => cases hexec; exact h.bringObst false
  | controlStep obst loadc =>
    cases hexec; exact ((h.bringObst obst).setPins _).outsideSetup (fun _ hu => hu.controlStep)
  | serviceStopComplete => cases hexec; exact h.serviceStopDue
  | emergencyStopComplete => cases hexec; exact h.emergencyStopDue
  | driveStall => cases hexec; exact h.stallDue
  | waitExpired => cases hexec; exact h.waitDue
  | joinTimerExpiry => cases hexec; exact h.joinDue
  | beaconTimerExpiry => cases hexec; exact h.beaconDue
  | windowR1Expiry => cases hexec; exact h.windowR1Due
  | grant => cases hexec; exact h.windowR2Due
  | contestTimerExpiry => cases hexec; exact h.contestDue
  | editionRetryExpiry => cases hexec; exact h.retryDue
  | holdoffTimerExpiry => cases hexec; exact h.holdoffDue
  | entryStale set way => cases hexec; exact h.staleDue _
  | liftSensorChange sup sdn loadc => cases hexec; exact (h.setPins _).judgeSensors _
  | liftTimeout => cases hexec; exact h.liftDue
  | frameClosed bits => cases hexec; exact h.receive _ bits
  | beaconReceived => cases hexec; exact h.takeKind _
  | claimReceived => cases hexec; exact h.takeKind _
  | enquireReceived => cases hexec; exact h.takeKind _
  | objectReceived => cases hexec; exact h.takeKind _
  | releaseReceived => cases hexec; exact h.takeKind _
  | withdrawReceived => cases hexec; exact h.takeKind _
  | relayReceived => cases hexec; exact h.takeKind _
  | transmissionStart => cases hexec; exact h.beginSending
  | transmissionComplete => cases hexec; exact h.completeSending
  | collision bit => cases hexec; exact h.collide bit
  | backoffEnd => cases hexec; exact h.endBackoff

theorem step {t : State} (h : Consistent s) (hstep : step s = .next t) : Consistent t := by
  unfold Machine.step at hstep
  split at hstep
  · cases hstep; exact h.idle
  · exact (h.setPending _).exec hstep

end Consistent

end Sys2Proof.Machine

namespace Sys2Proof.Proofs

open Sys2Proof.Machine Sys2Proof.Safety

/-- Settles O6: the invariant with its parts named goes through the shared operations one by one, so through every
command and a millisecond of the clock. -/
theorem stationStaysSound : Obligations.StationStaysSound := by
  intro s t h hstep
  rw [← consistent_iff] at h ⊢
  exact h.step hstep

end Sys2Proof.Proofs
end

section
/-! PROOFS. The state after power-on reset (R21, R167), whatever the state was, and the invariants in it. -/

namespace Sys2Proof.Machine

/-- The lift state read from the sensors: both asserted, or neither, read as JAMMED (R166, R167). -/
theorem LiftUnit.fresh_state (p : Pins) :
    (LiftUnit.fresh p).state
      = (if p.sup = true ∧ p.sdn = false then .up else if p.sdn = true ∧ p.sup = false then .down else .jammed) := by
  cases hsup : p.sup <;> cases hsdn : p.sdn <;> simp [LiftUnit.fresh, Pins.reading, SensorReading.liftState, hsup, hsdn]

end Sys2Proof.Machine

namespace Sys2Proof.Proofs

open Sys2Proof.Machine Sys2Proof.Safety

/-- Settles O3: power-on reset is the state of `State.reset` with the pins and the queue kept, and the lift read from the
sensors. -/
theorem powerOnResetClearsEverything : Obligations.PowerOnResetClearsEverything := by
  intro s
  have hlift : s.powerOn.lift.state
      = (if s.pins.sup = true ∧ s.pins.sdn = false then .up
         else if s.pins.sdn = true ∧ s.pins.sup = false then .down else .jammed) := LiftUnit.fresh_state s.pins
  refine ⟨s.powerOn, rfl, ?_⟩
  rw [hlift]
  repeat' apply And.intro
  all_goals intros; rfl

/-- Settles O4, by evaluating each invariant on the reset state. -/
theorem invariantsHoldAtReset : Obligations.InvariantsHoldAtReset := by
  have hqueues : QueuesBounded State.reset := by decide
  have hcounters : CountersFit State.reset := by
    simp [CountersFit, State.reset, LineCounters.zero]
  have hparams : ParamsInRange State.reset.params := by decide
  have hheld : HeldListSound State.reset := by decide
  have hstation : StationInvariant State.reset := (consistent_iff _).1 Consistent.reset
  have hposition : PositionSound State.reset.pos := by decide
  have hcache : CacheSound State.reset.cache := by decide
  have htables : TablesSorted State.reset := by decide
  have huncached : OwnTrackUncached State.reset := by decide
  have hfirst : OccupiedFirst State.reset.claim.held := by decide
  have hspeed : SpeedCapped State.reset := by decide
  exact ⟨hqueues, hcounters, hparams, hheld, hstation, hposition, hcache, htables, huncached, hfirst, hspeed⟩

end Sys2Proof.Proofs
end

section
/-! PROOFS. In HALTED a cause that arrives joins the set (R27), and which operations keep the station in HALTED with a
cause in the set (R26 to R28, R30). -/

namespace Sys2Proof.Machine

open Sys2Proof.Safety

theorem mem_addCause_iff (l : List Cause) (x y : Cause) : y ∈ addCause l x ↔ y = x ∨ y ∈ l := by
  have hall : y ∈ Cause.all := by cases y <;> simp [Cause.all]
  simp [addCause, hall]

theorem State.halt_of_halted {s : State} (t : Nat) (x : Cause) (hs : s.control.state = .halted) :
    s.halt t x = s.setControl { s.control with causes := Machine.addCause s.control.causes x } := by
  simp [State.halt, hs, State.addCause]

/-! ## Clocks and line events that leave Station Control alone -/

theorem State.waitDue_control (s : State) : s.waitDue.control = s.control := by
  unfold State.waitDue; split <;> simp [State.passWaitLimit]

theorem State.beaconDue_control (s : State) : s.beaconDue.control = s.control := by
  unfold State.beaconDue; split <;> simp

theorem State.windowR1Due_control (s : State) : s.windowR1Due.control = s.control := by
  unfold State.windowR1Due State.secondRound; split <;> simp [State.setRecord]

theorem State.contestDue_control (s : State) : s.contestDue.control = s.control := by
  unfold State.contestDue; split <;> simp

theorem State.holdoffDue_control (s : State) : s.holdoffDue.control = s.control := by
  unfold State.holdoffDue; split <;> simp

theorem State.staleDue_control (s : State) (k : Nat) : (s.staleDue k).control = s.control := by
  unfold State.staleDue; (repeat' split) <;> simp

theorem State.liftDue_control (s : State) : s.liftDue.control = s.control := by
  unfold State.liftDue; split <;> simp

theorem State.beginSending_control (s : State) : s.beginSending.control = s.control := by
  unfold State.beginSending; (repeat' split) <;> simp

theorem State.completeSending_control (s : State) : s.completeSending.control = s.control := by
  simp only [State.completeSending, State.sent, State.removalSent, State.roundSent, State.setRecord]
  (repeat' split) <;> simp

theorem State.collide_control (s : State) (bit : Nat) : (s.collide bit).control = s.control := by
  simp only [State.collide, State.afterCollision, State.degradeCheck, State.tellOwner, State.removalNotSent]
  (repeat' split) <;> simp

theorem State.endBackoff_control (s : State) : s.endBackoff.control = s.control := by
  unfold State.endBackoff; split <;> simp

/-- The station is in HALTED with a cause in the set. -/
structure HaltedWith (x : Cause) (s : State) : Prop where
  state : s.control.state = .halted
  cause : x ∈ s.control.causes

namespace HaltedWith

variable {x : Cause} {s : State}

theorem of_same {t : State} (h : HaltedWith x s) (hcontrol : t.control = s.control) : HaltedWith x t :=
  ⟨by rw [hcontrol, h.state], by rw [hcontrol]; exact h.cause⟩

theorem foldl {α : Type} {f : State → α → State} (h : HaltedWith x s)
    (hf : ∀ u a, HaltedWith x u → HaltedWith x (f u a)) (l : List α) : HaltedWith x (l.foldl f s) := by
  induction l generalizing s with
  | nil => exact h
  | cons a l ih => exact ih (hf s a h)

/-! ## Causes that arrive and causes that leave -/

theorem halt (h : HaltedWith x s) (t : Nat) (c : Cause) : HaltedWith x (s.halt t c) := by
  rw [State.halt_of_halted t c h.state]
  exact ⟨h.state, (mem_addCause_iff _ _ _).2 (.inr h.cause)⟩

theorem haltWith (h : HaltedWith x s) (t : Nat) (r : HaltReport) : HaltedWith x (s.haltWith t r) :=
  halt (h.of_same (by simp)) t r.cause

/-- A detected cause halts a station outside SETUP. -/
theorem of_haltWith (t : Nat) (r : HaltReport) (hs : s.control.state ≠ .setup) :
    HaltedWith r.cause (s.haltWith t r) := by
  obtain ⟨hstate, hcause⟩ := State.haltWith_control t r hs
  exact ⟨hstate, hcause⟩

theorem dropCause (h : HaltedWith x s) {c : Cause} (hc : x ≠ c) : HaltedWith x (s.dropCause c) :=
  ⟨h.state, by simp [State.dropCause, h.cause, hc]⟩

theorem settleConflicts (h : HaltedWith x s) (hx : x ≠ .holdConflict) : HaltedWith x s.settleConflicts := by
  unfold State.settleConflicts
  split
  · exact h.dropCause hx
  · exact h

/-! ## The authority limit and the position -/

theorem overrunCheck (h : HaltedWith x s) (t : Nat) : HaltedWith x (s.overrunCheck t) := by
  unfold State.overrunCheck
  (repeat' split)
  · exact h.of_same (by simp)
  · exact h
  · exact haltWith (h.of_same (by simp)) t _
  · exact h.of_same (by simp)
  · exact h
  · exact haltWith (h.of_same (by simp)) t _
  · exact h

theorem newAuthority (h : HaltedWith x s) (t : Nat) : HaltedWith x (s.newAuthority t) :=
  overrunCheck (h.of_same (by rfl)) t

theorem positionLost (h : HaltedWith x s) (t seg : Nat) : HaltedWith x (s.positionLost t seg) :=
  haltWith (h.of_same (by rfl)) t _

theorem reckon (h : HaltedWith x s) (t um : Nat) : HaltedWith x (s.reckon t um) := by
  simp only [State.reckon]
  split
  · exact h
  split
  · exact positionLost (h.of_same (by rfl)) t _
  · exact h.of_same rfl

theorem missCheck (h : HaltedWith x s) (t : Nat) : HaltedWith x (s.missCheck t) := by
  unfold State.missCheck
  split
  · exact h
  split
  · exact h
  split
  · exact h
  split
  · exact h.of_same (by simp)
  split
  · exact h.positionLost t _
  · exact h

theorem positionStep (h : HaltedWith x s) (t pulses : Nat) : HaltedWith x (s.positionStep t pulses) := by
  have hreckoned := reckon (s := s.setPos { s.pos with pulses := 0 }) (h.of_same rfl) t (pulses * s.params.pulsePitch)
  exact (hreckoned.missCheck t).of_same (by simp [State.positionStep])

theorem tagRead (h : HaltedWith x s) (t code : Nat) : HaltedWith x (s.tagRead t code) := by
  unfold State.tagRead
  split
  · exact h.of_same (by simp)
  split
  · simp only [State.mappedRead]
    split
    · exact h
    split
    · exact h.haltWith t _
    split
    · exact h.haltWith t _
    split
    · exact h.haltWith t _
    · exact h.of_same (by simp)
  · exact h.of_same (by simp)

/-! ## The control step -/

theorem emergencyComplete (h : HaltedWith x s) (t : Nat) : HaltedWith x (s.emergencyComplete t) := by
  simp only [State.emergencyComplete]
  split
  · exact h.of_same rfl
  · exact newAuthority (h.of_same (by simp)) t

theorem latchStep (h : HaltedWith x s) (t : Nat) : HaltedWith x (s.latchStep t) := by
  unfold State.latchStep
  split
  · exact h
  · split
    · split
      · exact h.emergencyComplete t
      · exact h.of_same rfl
    · exact h.of_same rfl
  · split
    · exact h
    · exact h.of_same rfl

theorem figuresStep (h : HaltedWith x s) (t : Nat) : HaltedWith x (s.figuresStep t) :=
  overrunCheck (h.of_same (by rfl)) t

/-- The items of a step that act in RUNNING alone leave a halted station as it is. -/
theorem runningItems (h : HaltedWith x s) (t : Nat) (reversal : Bool) :
    ((((s.reversalStep t).driveStep reversal).stallStep t).serviceStep t) = s := by
  have hs : s.control.state ≠ .running := by simp [h.state]
  simp [State.reversalStep, State.driveStep, State.stallStep, State.serviceStep, hs]

theorem obstacleCheck (h : HaltedWith x s) (t : Nat) : HaltedWith x (s.obstacleCheck t) := by
  unfold State.obstacleCheck
  split
  · exact h.haltWith t _
  · exact h

/-- What follows OBST's item in a step. -/
theorem afterObstacle (h : HaltedWith x s) (t : Nat) (reversal mayForm : Bool) :
    HaltedWith x ((((((s.reversalStep t).driveStep reversal).stallStep t).serviceStep t).arrivalStep t
      reversal).claimStep t mayForm) := by
  rw [h.runningItems t reversal]
  exact h.of_same (by simp)

theorem motionStep (h : HaltedWith x s) (t : Nat) : HaltedWith x (s.motionStep t) :=
  (((h.latchStep t).figuresStep t).obstacleCheck t).afterObstacle t _ _

theorem controlStep (h : HaltedWith x s) : HaltedWith x s.controlStep := by
  have hstepped := motionStep (s := (s.positionStep s.now s.pos.pulses).setMotion
    { (s.positionStep s.now s.pos.pulses).motion with measured := measuredSpeed s.params s.pos.pulses })
    ((h.positionStep s.now s.pos.pulses).of_same rfl) s.now
  simp only [State.controlStep]
  split
  · exact hstepped.of_same (by simp)
  · exact hstepped

/-! ## Frames from the buffer and from the line -/

theorem holdConflict (h : HaltedWith x s) (t y seg : Nat) (detail : Option Nat) :
    HaltedWith x (s.holdConflict t y seg detail) := by
  unfold State.holdConflict
  split
  · exact h
  · exact haltWith (h.of_same (by rfl)) t _

theorem conflictCheck (h : HaltedWith x s) (t y : Nat) (own : List HeldEntry) (e : HeldEntry) :
    HaltedWith x (s.conflictCheck t y own e) := by
  unfold State.conflictCheck
  split
  · exact h
  · exact h.holdConflict t y _ _

theorem takeBeacon (h : HaltedWith x s) (hx : x ≠ .holdConflict) (t y edition : Nat) (b : BeaconBody) :
    HaltedWith x (s.takeBeacon t y edition b) := by
  have hchecked : HaltedWith x (b.held.foldl (fun u e => u.conflictCheck t y s.claim.held e) s) :=
    h.foldl (fun _ e hu => hu.conflictCheck t y _ e) b.held
  have homitted : HaltedWith x ((b.held.foldl (fun u e => u.conflictCheck t y s.claim.held e) s).omissionCheck y
      (heldSegs b.held)) := settleConflicts (hchecked.of_same (by rfl)) hx
  have hresponded : HaltedWith x (s.responderBeacon t y edition b.held) := by
    simp only [State.responderBeacon]
    split
    · exact homitted
    · exact homitted.of_same (by simp)
  exact hresponded.of_same (by simp [State.takeBeacon])

theorem lateObjection (h : HaltedWith x s) (t y edition seg : Nat) (why : Reason) :
    HaltedWith x (s.lateObjection t y edition seg why) := by
  unfold State.lateObjection
  split
  · split
    · exact newAuthority (h.of_same (by simp)) t
    · exact h.holdConflict t y seg none
    · exact h.of_same (by simp)
  · split
    · exact h.of_same (by simp)
    · exact h

theorem takeObject (h : HaltedWith x s) (t y edition number seg : Nat) (why : Reason) (r : PeerReport) :
    HaltedWith x (s.takeObject t y edition number seg why r) := by
  simp only [State.takeObject]
  split
  · split
    all_goals exact h.of_same (by simp)
  · exact lateObjection (h.of_same (by rfl)) t y edition seg why

theorem takeHead (h : HaltedWith x s) (hx : x ≠ .holdConflict) : HaltedWith x s.takeHead := by
  unfold State.takeHead
  split
  · exact h
  next r _ =>
    have hpopped : HaltedWith x s.popFrame := h.of_same (by simp)
    simp only [State.process]
    split
    · exact hpopped.takeBeacon hx _ _ _ _
    · exact hpopped.of_same (by simp)
    · exact hpopped.takeObject _ _ _ _ _ _ _
    all_goals exact hpopped.of_same (by simp)

theorem takeKind (h : HaltedWith x s) (hx : x ≠ .holdConflict) (kind : Nat) : HaltedWith x (s.takeKind kind) := by
  unfold State.takeKind
  split
  · split
    · exact h.takeHead hx
    · exact h
  · exact h

theorem takeFrames (h : HaltedWith x s) (hx : x ≠ .holdConflict) (n : Nat) : HaltedWith x (State.takeFrames n s) := by
  induction n generalizing s with
  | zero => exact h
  | succ n ih => exact ih (h.takeHead hx)

theorem goodFrame (h : HaltedWith x s) (t : Nat) (f : Frame) : HaltedWith x (s.goodFrame t f) := by
  unfold State.goodFrame State.duplicateFrame
  split
  · split
    · exact h
    · exact haltWith (h.of_same (by rfl)) t _
  split
  · exact h.of_same rfl
  split
  · unfold State.bufferFrame
    split
    · exact h.of_same rfl
    · exact h.of_same (by simp [State.countLine])
  · exact h

theorem closeFrame (h : HaltedWith x s) (t : Nat) (c : Closing) : HaltedWith x (s.closeFrame t c) := by
  unfold State.closeFrame
  split
  · exact h.of_same rfl
  · exact h.of_same rfl
  · split
    · exact h
    · exact h.of_same rfl
    · exact h.of_same rfl
    · exact h.of_same rfl
    · exact h.goodFrame t _

theorem receive (h : HaltedWith x s) (t : Nat) (bits : List Bool) : HaltedWith x (s.receive t bits) := by
  simp only [State.receive]
  split
  · exact h
  · exact (of_same (t := s.setLine { s.line with receiver := (s.line.receiver.takeAll bits).1 }) h rfl).foldl
      (fun _ c hu => hu.closeFrame t c) _

/-! ## Clocks and pins -/

theorem emergencyStopDue (h : HaltedWith x s) : HaltedWith x s.emergencyStopDue := by
  unfold State.emergencyStopDue
  split
  · exact h.emergencyComplete _
  · exact h

theorem windowR2Due (h : HaltedWith x s) : HaltedWith x s.windowR2Due := by
  unfold State.windowR2Due
  split
  · exact newAuthority (h.of_same (by simp)) _
  · exact h

/-- A clock that acts in another state than HALTED leaves a halted station as it is. -/
theorem otherClocks (h : HaltedWith x s) :
    s.serviceStopDue = s ∧ s.stallDue = s ∧ s.joinDue = s := by
  simp [State.serviceStopDue, State.stallDue, State.joinDue, h.state]

theorem bringObst (h : HaltedWith x s) (hx : x ≠ .obstacle) (obst : Bool) : HaltedWith x (s.bringObst obst) := by
  simp only [State.bringObst]
  split
  · exact h.of_same rfl
  · exact dropCause (h.of_same (by rfl)) hx

theorem outsideSetup {f : State → State} (h : HaltedWith x s) (hf : HaltedWith x (f s)) :
    HaltedWith x (s.outsideSetup f) := by
  unfold State.outsideSetup
  split
  · exact h
  · exact hf

/-! ## Host commands -/

theorem hostCommand {kind : Nat} {args : List Byte} {run : State → Answer} (h : HaltedWith x s)
    (hx : x ≠ .holdConflict) (hrun : ∀ u, HaltedWith x u → HaltedWith x (run u).state) :
    HaltedWith x (s.hostCommand kind args run) := by
  cases he : s.executing kind args with
  | none => rwa [State.hostCommand_of_other s kind args run he]
  | some u =>
    rw [State.hostCommand_of_executing s u kind args run he]
    refine (hrun u ?_).of_same (by simp)
    simp only [State.executing, State.hostReady, Option.map_eq_some_iff] at he
    obtain ⟨v, hv, rfl⟩ := he
    refine takeFrames ?_ hx _
    split at hv
    · split at hv <;> cases hv
      exact h
    all_goals
      cases hv
      exact h.of_same rfl

theorem hostChecked {α : Type} {kind : Nat} {args : List Byte} {read : Option α} {taken : StationState → Bool}
    {run : State → α → Answer} (h : HaltedWith x s) (hx : x ≠ .holdConflict)
    (hrun : ∀ u a, HaltedWith x u → taken u.control.state = true → HaltedWith x (run u a).state) :
    HaltedWith x (s.hostCommand kind args (fun u => u.checked read taken run)) := by
  refine h.hostCommand hx (fun u hu => ?_)
  unfold State.checked
  split
  · exact hu
  split
  next htaken => exact hrun u _ hu htaken
  · exact hu

/-- A command taken in SETUP alone is refused. -/
theorem hostInSetup {α : Type} {kind : Nat} {args : List Byte} {read : Option α} {run : State → α → Answer}
    (h : HaltedWith x s) (hx : x ≠ .holdConflict) :
    HaltedWith x (s.hostCommand kind args (fun u => u.checked read inSetup run)) :=
  h.hostChecked hx (fun u _ hu htaken => by simp [inSetup, hu.state] at htaken)

/-- A cause of class POSITION remains at RESUME (R30). -/
theorem resume (h : HaltedWith x s) (hx : x.class = .position) : HaltedWith x s.resume.state := by
  have hremains : x ∈ s.remainingCauses := by
    refine List.mem_filter.2 ⟨h.cause, ?_⟩
    cases x <;> simp_all [Cause.class]
  unfold State.resume
  split
  · exact h
  split
  next hnone => rw [hnone] at hremains; cases hremains
  · exact h

theorem submitOrder (h : HaltedWith x s) (a : OrderArgs) : HaltedWith x (s.submitOrder a).state := by
  have hplaced (o : Order) : (s.placeOrder s.now o).control = s.control := by
    simp only [State.placeOrder, State.placeFront, State.setList, State.frontSuspend]
    (repeat' split) <;> simp
  simp only [State.submitOrder]
  (repeat' split)
  all_goals exact h.of_same (by simp [State.refuse, hplaced])

theorem cancelOrder (h : HaltedWith x s) (tag : Nat) : HaltedWith x (s.cancelOrder tag).state := by
  simp only [State.cancelOrder, State.cancelActive]
  (repeat' split)
  all_goals exact h.of_same (by simp [State.refuse])

theorem sendRelay (h : HaltedWith x s) (a : Nat × List Byte) : HaltedWith x (s.sendRelay a).state := by
  unfold State.sendRelay
  (repeat' split)
  all_goals exact h.of_same (by simp [State.refuse])

theorem lineReset (h : HaltedWith x s) (t : Nat) : HaltedWith x (s.lineReset t) := by
  refine h.of_same ?_
  simp only [State.lineReset, State.relaysLost]
  split <;> simp

theorem clearLift (h : HaltedWith x s) : HaltedWith x s.clearLift.state := by
  simp only [State.clearLift, State.clearJam]
  (repeat' split)
  all_goals exact h.of_same (by simp [State.refuse])

theorem forgetStation (h : HaltedWith x s) (hx : x ≠ .holdConflict) (n : Nat) :
    HaltedWith x (s.forgetStation n).state := by
  have hfreed : HaltedWith x (s.forgetHoldings (waysOf s.cache.ways n (fun _ => true))) :=
    h.foldl (fun _ k hu => hu.of_same (by simp)) _
  unfold State.forgetStation
  split
  · have hsettled := settleConflicts (s := (s.forgetHoldings (waysOf s.cache.ways n (fun _ => true))).setResp
      ((s.forgetHoldings (waysOf s.cache.ways n (fun _ => true))).resp.forget n)) (hfreed.of_same rfl) hx
    refine hsettled.of_same ?_
    simp only [State.forget, State.forgetWait]
    split <;> simp
  · exact h

theorem readCacheEntry (h : HaltedWith x s) (a : Nat × Nat) : HaltedWith x (s.readCacheEntry a).state := by
  unfold State.readCacheEntry
  split <;> exact h

theorem invalidateEntry (h : HaltedWith x s) (a : Nat × Nat) : HaltedWith x (s.invalidateEntry a).state := by
  unfold State.invalidateEntry
  split
  · exact h.of_same (by simp [State.invalidated])
  · exact h

theorem invalidateSegment (h : HaltedWith x s) (seg : Nat) : HaltedWith x (s.invalidateSegment seg).state := by
  unfold State.invalidateSegment
  split
  · simp only [State.invalidated, State.invalidateFound]
    split
    · exact h
    · exact h.of_same (by simp)
  · exact h

theorem invalidateSet (h : HaltedWith x s) (set : Nat) : HaltedWith x (s.invalidateSet set).state := by
  unfold State.invalidateSet
  split
  · exact h.foldl (fun _ w hu => hu.of_same (by simp)) _
  · exact h

theorem enableNotices (h : HaltedWith x s) (codes : List Nat) : HaltedWith x (s.enableNotices codes).state := by
  unfold State.enableNotices
  split <;> exact h.of_same rfl

theorem disableNotices (h : HaltedWith x s) (codes : List Nat) : HaltedWith x (s.disableNotices codes).state := by
  unfold State.disableNotices
  split <;> exact h.of_same rfl

theorem transaction (h : HaltedWith x s) (hdi : List Bool) (began : Bool) : HaltedWith x (s.transaction hdi began) := by
  refine h.of_same ?_
  simp only [State.transaction, State.judgeCommand, State.takeCommand]
  (repeat' split) <;> simp

/-- Every command but RESTART and power-on reset keeps a station in HALTED with a cause of class POSITION. -/
theorem exec {c : Instr} {t : State} (h : HaltedWith x s) (hx : x.class = .position) (hreset : c ≠ .powerOnReset)
    (hrestart : ∀ args, c ≠ .restart args) (hexec : exec c s = .next t) : HaltedWith x t := by
  have hconflict : x ≠ .holdConflict := by rintro rfl; cases hx
  have hobstacle : x ≠ .obstacle := by rintro rfl; cases hx
  obtain ⟨hservice, hstall, hjoin⟩ := h.otherClocks
  cases c with
  | powerOnReset => exact absurd rfl hreset
  | restart args => exact absurd rfl (hrestart args)
  | commandTransaction hdi began => cases hexec; exact h.transaction hdi began
  | readTransaction hdi began => cases hexec; exact h.transaction hdi began
  | setStation args => cases hexec; exact h.hostInSetup hconflict
  | setParameter args => cases hexec; exact h.hostInSetup hconflict
  | loadSegment args => cases hexec; exact h.hostInSetup hconflict
  | loadTagWindow args => cases hexec; exact h.hostInSetup hconflict
  | setEdition args => cases hexec; exact h.hostInSetup hconflict
  | start args => cases hexec; exact h.hostInSetup hconflict
  | submitOrder args => cases hexec; exact h.hostChecked hconflict (fun _ a hu _ => hu.submitOrder a)
  | cancelOrder args => cases hexec; exact h.hostChecked hconflict (fun _ a hu _ => hu.cancelOrder a)
  | stop args => cases hexec; exact h.hostChecked hconflict (fun _ _ hu _ => hu.halt _ _)
  | resume args => cases hexec; exact h.hostChecked hconflict (fun _ _ hu _ => hu.resume hx)
  | sendRelay args => cases hexec; exact h.hostChecked hconflict (fun _ a hu _ => hu.sendRelay a)
  | lineReset args => cases hexec; exact h.hostChecked hconflict (fun _ _ hu _ => hu.lineReset _)
  | clearLift args => cases hexec; exact h.hostChecked hconflict (fun _ _ hu _ => hu.clearLift)
  | forgetStation args => cases hexec; exact h.hostChecked hconflict (fun _ n hu _ => hu.forgetStation hconflict n)
  | queryStatus args => cases hexec; exact h.hostChecked hconflict (fun _ _ hu _ => hu)
  | queryOrders args => cases hexec; exact h.hostChecked hconflict (fun _ _ hu _ => hu)
  | queryCounters args => cases hexec; exact h.hostChecked hconflict (fun _ _ hu _ => hu)
  | readCacheEntry args => cases hexec; exact h.hostChecked hconflict (fun _ a hu _ => hu.readCacheEntry a)
  | invalidateCacheEntry args => cases hexec; exact h.hostChecked hconflict (fun _ a hu _ => hu.invalidateEntry a)
  | invalidateCacheSegment args =>
    cases hexec; exact h.hostChecked hconflict (fun _ n hu _ => hu.invalidateSegment n)
  | invalidateCacheSet args => cases hexec; exact h.hostChecked hconflict (fun _ n hu _ => hu.invalidateSet n)
  | readNotices args => cases hexec; exact h.hostChecked hconflict (fun _ _ hu _ => hu.of_same rfl)
  | enableNotices args => cases hexec; exact h.hostChecked hconflict (fun _ codes hu _ => hu.enableNotices codes)
  | disableNotices args => cases hexec; exact h.hostChecked hconflict (fun _ codes hu _ => hu.disableNotices codes)
  | setAttention args => cases hexec; exact h.hostChecked hconflict (fun _ _ hu _ => hu.of_same rfl)
  | readFaultRecord args => cases hexec; exact h.hostChecked hconflict (fun _ _ hu _ => hu)
  | clearFaultRecord args => cases hexec; exact h.hostChecked hconflict (fun _ _ hu _ => hu.of_same rfl)
  | unknownCommand kind args =>
    change execUnknownCommand kind args s = .next t at hexec
    unfold execUnknownCommand at hexec
    split at hexec <;> cases hexec
    · exact h
    · exact h.hostCommand hconflict (fun _ hu => hu)
  | encoderPulse => cases hexec; exact h.outsideSetup (h.of_same rfl)
  | tagRead code => cases hexec; exact h.outsideSetup (h.tagRead _ _)
  | obstDeasserted => cases hexec; exact h.bringObst hobstacle false
  | controlStep obst loadc =>
    have hbrought : HaltedWith x ((s.bringObst obst).bringLoad loadc) := (h.bringObst hobstacle obst).of_same rfl
    cases hexec
    exact hbrought.outsideSetup hbrought.controlStep
  | serviceStopComplete => cases hexec; exact hservice.symm ▸ h
  | emergencyStopComplete => cases hexec; exact h.emergencyStopDue
  | driveStall => cases hexec; exact hstall.symm ▸ h
  | waitExpired => cases hexec; exact h.of_same s.waitDue_control
  | joinTimerExpiry => cases hexec; exact hjoin.symm ▸ h
  | beaconTimerExpiry => cases hexec; exact h.of_same s.beaconDue_control
  | windowR1Expiry => cases hexec; exact h.of_same s.windowR1Due_control
  | grant => cases hexec; exact h.windowR2Due
  | contestTimerExpiry => cases hexec; exact h.of_same s.contestDue_control
  | editionRetryExpiry => cases hexec; exact h.of_same rfl
  | holdoffTimerExpiry => cases hexec; exact h.of_same s.holdoffDue_control
  | entryStale set way => cases hexec; exact h.of_same (s.staleDue_control _)
  | liftSensorChange sup sdn loadc => cases hexec; exact h.of_same (by simp [State.bringSensors])
  | liftTimeout => cases hexec; exact h.of_same s.liftDue_control
  | frameClosed bits => cases hexec; exact h.receive _ bits
  | beaconReceived => cases hexec; exact h.takeKind hconflict _
  | claimReceived => cases hexec; exact h.takeKind hconflict _
  | enquireReceived => cases hexec; exact h.takeKind hconflict _
  | objectReceived => cases hexec; exact h.takeKind hconflict _
  | releaseReceived => cases hexec; exact h.takeKind hconflict _
  | withdrawReceived => cases hexec; exact h.takeKind hconflict _
  | relayReceived => cases hexec; exact h.takeKind hconflict _
  | transmissionStart => cases hexec; exact h.of_same s.beginSending_control
  | transmissionComplete => cases hexec; exact h.of_same s.completeSending_control
  | collision bit => cases hexec; exact h.of_same (s.collide_control bit)
  | backoffEnd => cases hexec; exact h.of_same s.endBackoff_control

end HaltedWith

end Sys2Proof.Machine

namespace Sys2Proof.Proofs

open Sys2Proof.Machine Sys2Proof.Safety

/-- Settles O26: the set grows by the cause alone, and no operation but RESTART takes a cause of class POSITION out of
it. -/
theorem causeInHaltedOnlyJoinsTheSet : Obligations.CauseInHaltedOnlyJoinsTheSet := by
  refine ⟨fun s now x hs => ?_, fun c s t x hs hx hclass hreset hrestart hexec => ?_⟩
  · rw [State.halt_of_halted now x hs]
    exact ⟨rfl, mem_addCause_iff s.control.causes x, hs, rfl, rfl⟩
  · have hkept := HaltedWith.exec ⟨hs, hx⟩ hclass hreset hrestart hexec
    exact ⟨hkept.state, hkept.cause⟩

end Sys2Proof.Proofs
end

section
/-! PROOFS. The entry to HALTED by STOP, by OBST at a control step and by a stalled drive (R26, R29, R145, R147); RESUME
(R30) and RESTART (R31). -/

namespace Sys2Proof.Machine

open Sys2Proof.Safety

/-! ## What the entry to HALTED keeps -/

theorem State.halt_of_moving {s : State} (t : Nat) (c : Cause)
    (hs : s.control.state = .joining ∨ s.control.state = .running) : s.halt t c = (s.addCause c).enterHalted t := by
  obtain hs | hs := hs <;> simp [State.halt, hs]

theorem State.enterHalted_idle (s : State) (t : Nat) : (s.enterHalted t).claim.record.state = .idle := by
  simp [State.enterHalted, State.abandonClaim]

/-- The entry to HALTED from JOINING or RUNNING (R26). -/
theorem State.halt_moving_fields {s : State} (t : Nat) (c : Cause)
    (hs : s.control.state = .joining ∨ s.control.state = .running) :
    (s.halt t c).control.state = .halted ∧ c ∈ (s.halt t c).control.causes ∧ (s.halt t c).control.joinTimer = none
      ∧ (s.halt t c).motion = s.motion.emergencyStop s.orders.effective
      ∧ (s.halt t c).claim.record.state = .idle ∧ (s.halt t c).claim.held = s.claim.held
      ∧ (s.halt t c).claim.waited = s.claim.waited := by
  have hcause := mem_addCause s.control.causes c
  rw [State.halt_of_moving t c hs]
  exact ⟨by simp, by simpa [State.addCause] using hcause, by simp, by simp [State.enterHalted_motion],
    State.enterHalted_idle _ t, by simp, by simp⟩

theorem removeClaim_length (q : List TxEntry) : (removeClaim q).length ≤ q.length := by
  unfold removeClaim
  rw [List.length_map]
  exact List.length_filter_le _ _

/-- A frame offered to a transmit queue with room raises no notice and offers no fault (R47). -/
theorem State.offer_notice_of_room {s : State} (t dest : Nat) (content : TxContent) (h : s.line.tx.length < 24) :
    (s.offer t dest content).1.notice = s.notice := by
  unfold State.offer
  split
  · rfl
  split
  · rfl
  · rfl

theorem State.endClaim_notice_of_room {s : State} (t : Nat) (h : s.line.tx.length < 24) :
    (s.endClaim t).notice = s.notice := by
  have hasked : (s.askRemoval false).line.tx.length < 24 := by
    have hlen := removeClaim_length s.line.tx
    unfold State.askRemoval
    split <;> simpa using by omega
  unfold State.endClaim
  split
  · simp
  · simp [State.sendWithdraw, State.send, State.offer_notice_of_room _ _ _ hasked]
  · simp [State.sendWithdraw, State.send, State.offer_notice_of_room _ _ _ h]
  · simp [State.sendWithdraw, State.send, State.offer_notice_of_room _ _ _ h]
  all_goals rfl

theorem State.haltOrders_fault (s : State) (t : Nat) : (s.haltOrders t).notice.fault = s.notice.fault := by
  unfold State.haltOrders
  split
  · rfl
  split
  · simp [State.cancelMarked, State.orderCancelled]
  · simp

/-- With room in the transmit queue the entry to HALTED offers no fault. -/
theorem State.enterHalted_fault {s : State} (t : Nat) (h : s.line.tx.length < 24) :
    (s.enterHalted t).notice.fault = s.notice.fault := by
  simp only [State.enterHalted, State.haltOrders_fault, State.abandonClaim, State.toIdle_frame]
  rw [State.endClaim_notice_of_room t (by simpa using h)]
  simp [State.changeState]

theorem State.halt_moving_fault {s : State} (t : Nat) (c : Cause)
    (hs : s.control.state = .joining ∨ s.control.state = .running) (hroom : s.line.tx.length < 24) :
    (s.halt t c).notice.fault = s.notice.fault := by
  rw [State.halt_of_moving t c hs]
  simpa using State.enterHalted_fault (s := s.addCause c) t (by simpa using hroom)

/-- A detected cause halts a station in JOINING or RUNNING (section 2.4, R26). -/
theorem State.haltWith_moving_fields (s : State) (t : Nat) (r : HaltReport)
    (hs : s.control.state = .joining ∨ s.control.state = .running) :
    (s.haltWith t r).control.state = .halted ∧ r.cause ∈ (s.haltWith t r).control.causes
      ∧ (s.haltWith t r).control.joinTimer = none
      ∧ (s.haltWith t r).motion = s.motion.emergencyStop s.orders.effective
      ∧ (s.haltWith t r).claim.record.state = .idle ∧ (s.haltWith t r).claim.held = s.claim.held
      ∧ (s.haltWith t r).claim.waited = s.claim.waited := by
  simpa [State.haltWith] using State.halt_moving_fields
    (s := (s.raise { Notice.plain r.notice t with seg := r.seg, station := r.station, detail := r.detail }).offerFault
      { kind := r.fault, time := t, station := r.station, seg := r.seg, detail := r.faultDetail }) t r.cause
    (by simpa using hs)

/-- What an empty Fault Record captures of a detected cause, the halt offering no further fault (R191). -/
theorem State.haltWith_moving_fault (s : State) (t : Nat) (r : HaltReport)
    (hs : s.control.state = .joining ∨ s.control.state = .running) (hempty : s.notice.fault = none)
    (hroom : s.line.tx.length < 24) :
    (s.haltWith t r).notice.fault = some
      { kind := r.fault, time := t, centreSeg := (s.pos.centre.map Centre.seg).getD 0,
        centreOffset := (s.pos.centre.map (fun c => c.offset / 1000)).getD 0, commanded := s.motion.commanded,
        station := r.station, seg := r.seg, detail := r.faultDetail, overflow := false, further := 0 } := by
  rw [State.haltWith, State.halt_moving_fault t r.cause (by simpa using hs) (by simpa using hroom)]
  simp [State.offerFault, hempty]

/-! ## The rows outside SETUP -/

/-- A command taken in the present state runs its own rule, and the reply is placed. -/
theorem State.hostCommand_taken {α : Type} {s u : State} {kind : Nat} {args : List Byte} {read : Option α} {a : α}
    {taken : StationState → Bool} (run : State → α → Answer) (h : s.executing kind args = some u)
    (htaken : taken u.control.state = true) (hr : read = some a) :
    s.hostCommand kind args (fun v => v.checked read taken run)
      = (run u a).state.placeReply ⟨kind, (run u a).status, (run u a).results⟩ := by
  rw [State.hostCommand_of_executing s u kind args _ h, hr, State.checked_taken u a taken run htaken]

theorem exec_stop {s u : State} (h : s.executing 18 [] = some u) (hs : u.control.state ≠ .setup) :
    exec (.stop []) s = .next ((u.halt u.now .stop).placeReply ⟨18, .done, []⟩) :=
  congrArg _ (State.hostCommand_taken _ h (by simp [notSetup, hs]) rfl)

theorem exec_resume {s u : State} (h : s.executing 19 [] = some u) (hs : u.control.state = .halted) :
    exec (.resume []) s = .next (u.resume.state.placeReply ⟨19, u.resume.status, u.resume.results⟩) :=
  congrArg _ (State.hostCommand_taken _ h (by simp [inHalted, hs]) rfl)

theorem exec_restart {s u : State} (h : s.executing 20 [] = some u) (hs : u.control.state ≠ .setup) :
    exec (.restart []) s = .next (u.restart.state.placeReply ⟨20, u.restart.status, u.restart.results⟩) :=
  congrArg _ (State.hostCommand_taken _ h (by simp [notSetup, hs]) rfl)

/-! ## RESUME (R30) -/

/-- Whether a cause remains at RESUME. -/
theorem State.mem_remainingCauses (s : State) (x : Cause) :
    x ∈ s.remainingCauses ↔ x ∈ s.control.causes ∧ x ≠ .stop ∧ x ≠ .driveStall
      ∧ (x = .overrun → ∀ d, s.authorityDistance = some d → d < 0) := by
  unfold State.remainingCauses
  rw [List.mem_filter]
  cases x <;> simp
  cases s.authorityDistance <;> simp

/-- The causes that remain are those a test of R30's words keeps, in the order of the set. -/
theorem State.remainingCauses_eq_filter {s : State} {p : Cause → Bool}
    (hp : ∀ x, p x = true ↔ x ≠ .stop ∧ x ≠ .driveStall ∧ (x = .overrun → ∀ d, s.authorityDistance = some d → d < 0)) :
    s.remainingCauses = s.control.causes.filter p := by
  unfold State.remainingCauses
  refine List.filter_congr fun x _ => ?_
  rw [Bool.eq_iff_iff, hp]
  cases x <;> simp
  cases s.authorityDistance <;> simp

theorem State.resume_of_running_latch {s : State} (h : s.motion.latch ≠ .complete) : s.resume = ⟨s, .busy, []⟩ := by
  simp [State.resume, h, State.refuse]

theorem State.resume_of_no_cause {s : State} (h : s.motion.latch = .complete) (hnone : s.remainingCauses = []) :
    s.resume = ⟨s.resumed, .done, []⟩ := by
  simp [State.resume, h, hnone]

theorem State.resume_of_cause {s : State} (h : s.motion.latch = .complete) (hsome : s.remainingCauses ≠ []) :
    s.resume = ⟨s, .refusedState, causeBytes s.remainingCauses⟩ := by
  simp [State.resume, h, hsome, State.refuse]

/-! ## RESTART (R31) -/

theorem State.restart_of_standing {s : State} (h : s.motion.measured = 0) : s.restart = ⟨s.restarted, .done, []⟩ := by
  simp [State.restart, h]

theorem State.restart_of_moving {s : State} (h : s.motion.measured ≠ 0) : s.restart = ⟨s, .refusedState, []⟩ := by
  simp [State.restart, h, State.refuse]

/-- The blocks after an accepted RESTART, but for its notice. -/
theorem State.restarted_blocks (s : State) :
    s.restarted.control = { s.control with state := .setup, causes := [], joinTimer := none }
      ∧ s.restarted.params = s.params ∧ s.restarted.pos = s.pos.restart ∧ s.restarted.line = s.line.off
      ∧ s.restarted.claim = s.claim.restart ∧ s.restarted.resp = ⟨[], false, [], false⟩
      ∧ s.restarted.cache = ⟨[], 0, 0⟩ ∧ s.restarted.motion = Motion.still (emergencyRate .heavy)
      ∧ s.restarted.orders = ⟨[], .heavy, none⟩ ∧ s.restarted.lift = LiftUnit.fresh s.pins
      ∧ s.restarted.notice = s.notice.raise
          { Notice.plain .stateChanged s.now with detail := some s.control.state.code } := by
  simp [State.restarted, State.changeState, State.raise, StationState.code, pairDetail]

/-- Raising a notice changes the queue and the count of losses alone. -/
theorem NoticeUnit.raise_fields (u : NoticeUnit) (n : Notice) :
    (u.raise n).disabled = u.disabled ∧ (u.raise n).fault = u.fault ∧ (u.raise n).threshold = u.threshold
      ∧ (u.raise n).trigger = u.trigger ∧ (u.raise n).now = u.now := by
  unfold NoticeUnit.raise
  (repeat' split) <;> simp

/-! ## A stalled drive (R147) -/

/-- The report of a stalled drive: the centre segment and the commanded speed. -/
def State.stallReport (s : State) : HaltReport :=
  { notice := .driveStall, fault := .driveStall, cause := .driveStall, station := none, seg := s.centreSeg,
    detail := some s.motion.commanded, faultDetail := some s.motion.commanded }

theorem State.raiseStall_eq (s : State) (t : Nat) :
    s.raiseStall t = (s.setMotion { s.motion with stall := 0 }).haltWith t s.stallReport := rfl

/-! ## OBST at a control step (R145) -/

/-- A detected cause halts a running station. -/
theorem State.haltWith_running {s : State} {x : Cause} {r : HaltReport} (t : Nat) (hs : s.control.state = .running)
    (hcause : r.cause = x) : HaltedWith x (s.haltWith t r) :=
  hcause ▸ HaltedWith.of_haltWith t r (by simp [hs])

theorem State.positionLost_running {s : State} (t seg : Nat) (hs : s.control.state = .running) :
    HaltedWith .positionLost (s.positionLost t seg) :=
  State.haltWith_running t (by exact hs) (by rfl)

theorem State.reckon_running {s : State} (t um : Nat) (hs : s.control.state = .running) :
    (s.reckon t um).control.state = .running ∨ HaltedWith .positionLost (s.reckon t um) := by
  simp only [State.reckon]
  split
  · exact .inl hs
  split
  · exact .inr (State.positionLost_running t _ (by exact hs))
  · exact .inl hs

theorem State.missCheck_running {s : State} (t : Nat) (hs : s.control.state = .running) :
    (s.missCheck t).control.state = .running ∨ HaltedWith .positionLost (s.missCheck t) := by
  unfold State.missCheck
  split
  · exact .inl hs
  split
  · exact .inl hs
  split
  · exact .inl hs
  split
  · exact .inl (by simpa using hs)
  split
  · exact .inr (State.positionLost_running t _ hs)
  · exact .inl hs

/-- The Position Unit's part of a step halts a running station for POSITION_LOST alone (R12, R16). -/
theorem State.positionStep_running {s : State} (t pulses : Nat) (hs : s.control.state = .running) :
    (s.positionStep t pulses).control.state = .running ∨ HaltedWith .positionLost (s.positionStep t pulses) := by
  have hmoved (u : State) (before : List Nat) (h : u.control.state = .running ∨ HaltedWith .positionLost u) :
      (u.bodyMoved t before).control.state = .running ∨ HaltedWith .positionLost (u.bodyMoved t before) :=
    h.imp (fun h => by simpa using h) (fun h => h.of_same (by simp))
  refine hmoved _ _ ?_
  obtain hrun | hhalt := State.reckon_running (s := s.setPos { s.pos with pulses := 0 }) t
    (pulses * s.params.pulsePitch) hs
  · exact State.missCheck_running t hrun
  · exact .inr (hhalt.missCheck t)

/-- The overrun check halts a running station for OVERRUN alone (R146). -/
theorem State.overrunCheck_running {s : State} (t : Nat) (hs : s.control.state = .running) :
    (s.overrunCheck t).control.state = .running ∨ HaltedWith .overrun (s.overrunCheck t) := by
  unfold State.overrunCheck
  (repeat' split)
  · exact .inl hs
  · exact .inl hs
  · exact .inr (State.haltWith_running t (by exact hs) (by rfl))
  · exact .inl hs
  · exact .inl hs
  · exact .inr (State.haltWith_running t (by exact hs) (by rfl))
  · exact .inl hs

theorem State.obstacleCheck_halts {s : State} (t : Nat) (hs : s.control.state = .running) (hobst : s.pins.obst = true) :
    HaltedWith .obstacle (s.obstacleCheck t) := by
  rw [State.obstacleCheck, if_pos ⟨hs, hobst⟩]
  exact State.haltWith_running t hs rfl

theorem State.latchStep_of_none {s : State} (t : Nat) (h : s.motion.latch = .none) : s.latchStep t = s := by
  simp [State.latchStep, h]

/-- Items 1 to 9 of a step in RUNNING with OBST asserted end in HALTED (R145, R146). -/
theorem State.motionStep_obstacle {s : State} (t : Nat) (hs : s.control.state = .running) (hlatch : s.motion.latch = .none)
    (hobst : s.pins.obst = true) : HaltedWith .obstacle (s.motionStep t) ∨ HaltedWith .overrun (s.motionStep t) := by
  have hfigures : (s.figuresStep t).control.state = .running ∨ HaltedWith .overrun (s.figuresStep t) :=
    State.overrunCheck_running t (by exact hs)
  simp only [State.motionStep, State.latchStep_of_none t hlatch]
  refine hfigures.imp (fun hrun => ?_) (fun hhalt => ?_)
  · exact (State.obstacleCheck_halts t hrun (by simpa using hobst)).afterObstacle t _ _
  · exact (hhalt.obstacleCheck t).afterObstacle t _ _

/-- A control step in RUNNING with OBST asserted ends in HALTED (R145), for the obstacle or for what an earlier item of
the step has found. -/
theorem State.controlStep_obstacle {s : State} (hs : s.control.state = .running) (hobst : s.pins.obst = true)
    (hsound : Consistent s) :
    HaltedWith .obstacle s.controlStep ∨ HaltedWith .positionLost s.controlStep ∨ HaltedWith .overrun s.controlStep := by
  have hmoved := (hsound.positionStep s.now s.pos.pulses).latch
  have hactivated {x : Cause} (h : HaltedWith x
      (((s.positionStep s.now s.pos.pulses).setMotion { (s.positionStep s.now s.pos.pulses).motion with
        measured := measuredSpeed s.params s.pos.pulses }).motionStep s.now)) : HaltedWith x s.controlStep := by
    simp only [State.controlStep]
    split
    · exact h.of_same (by simp)
    · exact h
  obtain hrun | hlost := State.positionStep_running s.now s.pos.pulses hs
  · exact (State.motionStep_obstacle s.now (by exact hrun) (by exact hmoved.2 (by simp [hrun]))
      (by simpa using hobst)).imp (fun h => hactivated h) (fun h => .inr (hactivated h))
  · exact .inr (.inl (hactivated (HaltedWith.motionStep (hlost.of_same (by rfl)) s.now)))

end Sys2Proof.Machine

namespace Sys2Proof.Proofs

open Sys2Proof.Machine Sys2Proof.Safety

/-! ## STOP and RESUME -/

/-- STOP in JOINING or RUNNING enters HALTED (R26, R29). -/
theorem stop_halts (s u : State) (hexec : s.executing 18 [] = some u) (hq : OrderQueueSound u.orders)
    (hs : u.control.state = .joining ∨ u.control.state = .running) :
    ∃ t, exec (.stop []) s = .next t ∧ t.control.state = .halted ∧ Cause.stop ∈ t.control.causes
      ∧ t.control.joinTimer = none ∧ t.motion.commanded = 0 ∧ t.motion.latch = .braking ∧ t.motion.latchZero = 0
      ∧ t.motion.requests = [] ∧ t.driveCommand = .emergency ∧ t.claim.record.state = .idle
      ∧ t.claim.waited = u.claim.waited ∧ t.claim.held = u.claim.held
      ∧ (∀ o ∈ t.orders.list, o.state ≠ .active) ∧ t.lift = u.lift
      ∧ (u.line.tx.length < 24 → t.notice.fault = u.notice.fault)
      ∧ t.port.slot = .full ⟨18, .done, []⟩ := by
  obtain ⟨hstate, hcause, hjoin, hmotion, hidle, hheld, hwaited⟩ := State.halt_moving_fields u.now .stop hs
  have hfault := fun hroom => State.halt_moving_fault u.now .stop hs hroom
  have hactive : ∀ o ∈ (u.halt u.now .stop).orders.list, o.state ≠ .active := by
    rw [State.halt_of_moving u.now .stop hs]
    exact (State.enterHalted_orders u.now (by simpa using hq)).2
  refine ⟨_, exec_stop hexec (by obtain hs | hs := hs <;> simp [hs]), ?_⟩
  simp only [State.placeReply_frame, hmotion]
  refine ⟨hstate, hcause, hjoin, rfl, rfl, rfl, rfl, ?_, hidle, hwaited, hheld, hactive, by simp, hfault, rfl⟩
  simp [State.driveCommand, hstate]

/-- RESUME with the emergency stop complete and no cause that remains enters RUNNING (R30, R144). -/
theorem resume_runs (s u : State) (hexec : s.executing 19 [] = some u) (hs : u.control.state = .halted)
    (hlatch : u.motion.latch = .complete)
    (hcauses : ∀ x ∈ u.control.causes,
      x = .stop ∨ x = .driveStall ∨ (x = .overrun ∧ ∃ d, u.authorityDistance = some d ∧ 0 ≤ d)) :
    ∃ t, exec (.resume []) s = .next t ∧ t.control.state = .running ∧ t.control.causes = []
      ∧ t.motion.commanded = 0 ∧ t.motion.latch = .none ∧ t.motion.stall = 0
      ∧ t.motion.overrunMark = u.motion.overrunMark ∧ t.motion.figures = u.motion.figures
      ∧ t.motion.reversalPending = u.motion.reversalPending ∧ t.claim = u.claim ∧ t.pos = u.pos
      ∧ t.orders = u.orders ∧ t.line = u.line ∧ t.port.slot = .full ⟨19, .done, []⟩ := by
  have hnone : u.remainingCauses = [] := by
    refine List.eq_nil_iff_forall_not_mem.2 (fun x hx => ?_)
    obtain ⟨hmem, hstop, hstall, hoverrun⟩ := (u.mem_remainingCauses x).1 hx
    obtain rfl | rfl | ⟨rfl, d, hd, hpos⟩ := hcauses x hmem
    · exact hstop rfl
    · exact hstall rfl
    · exact absurd (hoverrun rfl d hd) (Int.not_lt.2 hpos)
  have hrun := exec_resume hexec hs
  rw [State.resume_of_no_cause hlatch hnone] at hrun
  exact ⟨_, hrun, by simp [State.resumed], by simp [State.resumed], by simp [State.resumed, Motion.enterRunning],
    by simp [State.resumed, Motion.enterRunning], by simp [State.resumed, Motion.enterRunning],
    by simp [State.resumed, Motion.enterRunning], by simp [State.resumed, Motion.enterRunning],
    by simp [State.resumed, Motion.enterRunning], by simp [State.resumed], by simp [State.resumed],
    by simp [State.resumed], by simp [State.resumed], rfl⟩

/-- Settles O27: STOP by the entry to HALTED, RESUME by the latch and the causes that remain. -/
theorem stopHaltsAndResumeRuns : Obligations.StopHaltsAndResumeRuns := by
  refine ⟨fun s u hexec hq => ⟨stop_halts s u hexec hq, fun hs => ?_⟩,
    fun s u hexec hs => ⟨fun hlatch => ?_, resume_runs s u hexec hs, fun hlatch hcauses => ?_⟩⟩
  · rw [exec_stop hexec (by simp [hs]), State.halt_of_halted _ _ hs]
  · rw [exec_resume hexec hs, State.resume_of_running_latch hlatch]
  · have hremain : u.remainingCauses ≠ [] := by
      obtain ⟨x, hx, hstop, hstall, hoverrun⟩ := hcauses
      exact List.ne_nil_of_mem ((u.mem_remainingCauses x).2 ⟨hx, hstop, hstall, hoverrun⟩)
    rw [exec_resume hexec hs, State.resume_of_cause hlatch hremain]
    refine congrArg (fun l => Host.Outcome.next (u.placeReply ⟨19, .refusedState, causeBytes l⟩))
      (State.remainingCauses_eq_filter fun x => ?_)
    cases x
    case overrun => cases u.authorityDistance <;> simp
    all_goals simp

/-! ## RESTART -/

/-- Settles O28, block by block after an accepted RESTART. -/
theorem restartReturnsToSetup : Obligations.RestartReturnsToSetup := by
  refine fun s u hexec hs => ⟨fun hmoving => ?_, fun hstanding => ?_⟩
  · rw [exec_restart hexec hs, State.restart_of_moving hmoving]
  · obtain ⟨hcontrol, hparams, hpos, hline, hclaim, hresp, hcache, hmotion, horders, hlift, hnotice⟩ := u.restarted_blocks
    obtain ⟨hdisabled, hfault, hthreshold, htrigger, hnow⟩ := u.notice.raise_fields
      { Notice.plain .stateChanged u.now with detail := some u.control.state.code }
    have habort (f : Frame) (bits : List Bool) (hsending : u.line.transmitter = .sending f bits) :
        u.line.stopBits = List.replicate 8 true := by
      simp [LaneLine.stopBits, hsending, Transmitter.isSending, abortPattern]
    have hrun := exec_restart hexec hs
    rw [State.restart_of_standing hstanding] at hrun
    refine ⟨_, hrun, ?_⟩
    simp only [ConfigurationKept, State.placeReply_frame, State.driveCommand, hcontrol, hparams, hpos, hline, hclaim,
      hresp, hcache, hmotion, horders, hlift, hnotice, hdisabled, hfault, hthreshold, htrigger, hnow]
    simp [PositionUnit.restart, ClaimEngine.restart, ClaimRecord.toIdle, LaneLine.off, Motion.still]
    exact ⟨habort, rfl, rfl, rfl, LiftUnit.fresh_state u.pins,
      fun hkind hlen => NoticeUnit.raise_queue ⟨hkind, hlen⟩, rfl⟩

/-! ## OBST and a stalled drive -/

/-- A control step with OBST asserted halts a running station (R145). -/
theorem obstacle_halts (s : State) (loadc : LoadClass) (hs : s.control.state = .running) (hinv : StationInvariant s) :
    ∃ t, exec (.controlStep true loadc) s = .next t ∧ t.control.state = .halted ∧ t.motion.commanded = 0
      ∧ t.driveCommand = .emergency ∧ t.motion.requests = []
      ∧ (Cause.obstacle ∈ t.control.causes ∨ Cause.positionLost ∈ t.control.causes
          ∨ Cause.overrun ∈ t.control.causes) := by
  have hrun := exec_controlStep_outsideSetup (s := s) true loadc (by simp [hs])
  have hsound := ((consistent_iff s).2 hinv).exec hrun
  have hcauses := State.controlStep_obstacle (s := (s.bringObst true).bringLoad loadc) (by exact hs) rfl
    (((consistent_iff s).2 hinv).bringObst true |>.setPins _)
  have hhalted : (((s.bringObst true).bringLoad loadc).controlStep).control.state = .halted := by
    obtain h | h | h := hcauses <;> exact h.state
  obtain ⟨hspeed, hrequests, -⟩ := hsound.quiet (by simp [hhalted])
  exact ⟨_, hrun, hhalted, hspeed, by simp [State.driveCommand, hhalted], hrequests,
    hcauses.imp (·.cause) (·.imp (·.cause) (·.cause))⟩

/-- A stalled drive halts a running station, the fault captured with the speed before the halt (R147, R191). -/
theorem stall_halts (s : State) (hs : s.control.state = .running) (hspeed : 0 < s.motion.commanded)
    (hmeasured : s.motion.measured = 0) :
    ∃ t, exec .driveStall s = .next t ∧ t.control.state = .halted ∧ Cause.driveStall ∈ t.control.causes
      ∧ t.motion.commanded = 0 ∧ t.motion.stall = 0 ∧ t.motion.latch = .braking ∧ t.motion.requests = []
      ∧ t.claim.record.state = .idle ∧ t.claim.held = s.claim.held
      ∧ (s.notice.fault = none → s.line.tx.length < 24 →
          ∃ r, t.notice.fault = some r ∧ r.kind = .driveStall ∧ r.commanded = s.motion.commanded
            ∧ r.time = s.notice.now ∧ r.detail = some s.motion.commanded
            ∧ r.seg = s.pos.centre.map Centre.seg ∧ r.further = 0)
      ∧ (RoomFor s.notice .driveStall 1 →
          { Notice.plain .driveStall s.notice.now with
            seg := s.pos.centre.map Centre.seg, detail := some s.motion.commanded } ∈ t.notice.queue) := by
  have hrun : exec .driveStall s = .next (s.raiseStall s.now) :=
    congrArg Host.Outcome.next (if_pos ⟨hs, hspeed, hmeasured⟩)
  obtain ⟨hstate, hcause, -, hmotion, hidle, hheld, -⟩ := (s.setMotion { s.motion with stall := 0 }).haltWith_moving_fields
    s.now s.stallReport (.inr hs)
  have hfault := (s.setMotion { s.motion with stall := 0 }).haltWith_moving_fault s.now s.stallReport (.inr hs)
  have hnotice := State.haltWith_notice (s := s.setMotion { s.motion with stall := 0 }) s.now s.stallReport
  rw [← State.raiseStall_eq] at hstate hcause hmotion hidle hheld hfault hnotice
  refine ⟨_, hrun, hstate, hcause, by rw [hmotion]; rfl, by rw [hmotion]; rfl, by rw [hmotion]; rfl, by rw [hmotion]; rfl,
    hidle, hheld, fun hempty hroom => ?_, hnotice⟩
  exact ⟨_, hfault hempty hroom, rfl, rfl, rfl, rfl, rfl, rfl⟩

/-- Settles O41. -/
theorem obstacleAndStallHaltTheStation : Obligations.ObstacleAndStallHaltTheStation :=
  ⟨obstacle_halts, stall_halts⟩

end Sys2Proof.Proofs
end

section
/-! PROOFS. The timers: the join and the beacon timer (R25, R52), the timers that end a wait (R77, R83), the edition
retry (R110) and the ageing of a cache entry (R123). -/

namespace Sys2Proof.Machine

/-! ## A beacon offered to the transmit queue (R45 to R47) -/

/-- Only the kind byte 1 is the kind of a beacon entry. -/
theorem TxEntry.kind_of_beacon {e : TxEntry} (h : e.content = .beacon) : e.kind = 1 := by
  simp [TxEntry.kind, h, TxContent.kind]

theorem mergesWith_beacon_iff (dest : Nat) (e : TxEntry) :
    mergesWith dest .beacon e = true ↔ e.content = .beacon := by
  unfold mergesWith
  cases e.content <;> simp

/-- A beacon merged with a queued beacon leaves the queue as it is, for its content is made when it is sent (R45). -/
theorem State.offerBeacon_merged {s : State} (t : Nat) (h : ∃ e ∈ s.line.tx, e.content = .beacon) :
    (s.offerBeacon t).line.tx = s.line.tx := by
  have hmerge : s.line.tx.any (mergesWith 255 .beacon) = true := by
    simpa [mergesWith_beacon_iff] using h
  have hsame : ∀ e ∈ s.line.tx, (if mergesWith 255 .beacon e = true then { e with content := .beacon } else e) = e := by
    intro e _
    split
    next hb => rw [mergesWith_beacon_iff] at hb; simp [← hb]
    next => rfl
  simp only [State.offerBeacon, State.offer, hmerge, if_true]
  exact (List.map_congr_left hsame).trans (List.map_id _)

/-- A beacon with none queued and room for it enters at the tail. -/
theorem State.offerBeacon_enqueued {s : State} (t : Nat) (hroom : s.line.tx.length < 24)
    (hnone : countKind s.line.tx 1 = 0) : s.offerBeacon t = s.enqueue 255 .beacon := by
  have hmerge : s.line.tx.any (mergesWith 255 .beacon) = false := by
    rw [List.any_eq_false]
    intro e he hb
    have hkind := List.countP_eq_zero.1 hnone e he
    exact hkind (by simp [TxEntry.kind_of_beacon ((mergesWith_beacon_iff 255 e).1 hb)])
  simp [State.offerBeacon, State.offer, hmerge, hroom, TxContent.kind]

/-- A beacon displaces no other frame, and a full queue drops it with no notice and no fault (R47): its class is C. -/
theorem State.offerBeacon_kept (s : State) (t : Nat) :
    (s.offerBeacon t).notice = s.notice ∧ (s.offerBeacon t).line.beaconTimer = s.line.beaconTimer := by
  have hclass : kindClass TxContent.beacon.kind = 2 := by decide
  unfold State.offerBeacon State.offer
  rw [hclass]
  simp only [show ¬ (2 = 0 ∨ 2 = 1) by decide, if_false, if_true]
  split
  · exact ⟨rfl, rfl⟩
  split
  · exact ⟨rfl, rfl⟩
  split <;> exact ⟨rfl, rfl⟩

/-! ## A wait that ends (R77, R83) -/

/-- The wait that a timer ends leaves the waited counter, the held list and the other blocks as they are. -/
theorem State.toIdle_ends_wait (s : State) :
    s.toIdle.claim.record.state = .idle ∧ s.toIdle.claim.record.contestTimer = none
      ∧ s.toIdle.claim.record.rival = none ∧ s.toIdle.claim.record.holdoff = none
      ∧ s.toIdle.claim.waited = s.claim.waited ∧ s.toIdle.claim.held = s.claim.held
      ∧ s.toIdle.line = s.line ∧ s.toIdle.cache = s.cache ∧ s.toIdle.notice = s.notice := by
  simp [State.toIdle_claim, ClaimRecord.toIdle]

end Sys2Proof.Machine

namespace Sys2Proof.Proofs

open Sys2Proof.Machine Sys2Proof.Safety

/-! ## The timers -/

theorem joinTimer_expires (s : State) (hs : s.control.state = .joining) :
    ∃ t, exec .joinTimerExpiry s = .next t ∧ t.control = { s.control with state := .running, joinTimer := none }
      ∧ t.motion.commanded = 0 ∧ t.motion.stall = 0
      ∧ (RoomFor s.notice .stateChanged 1 →
          t.notice.queue = s.notice.queue ++ [{ Notice.plain .stateChanged s.notice.now with detail := some 513 }])
      ∧ t.claim = s.claim ∧ t.pos = s.pos ∧ t.line = s.line ∧ t.orders = s.orders ∧ t.cache = s.cache := by
  have hrun : exec .joinTimerExpiry s = .next (s.joined s.now) := by
    change Host.Outcome.next s.joinDue = _
    rw [State.joinDue, if_pos hs]
  refine ⟨_, hrun, by simp [State.joined, State.changeState], by simp [State.joined, State.changeState, Motion.enterRunning],
    by simp [State.joined, State.changeState, Motion.enterRunning], fun hroom => ?_, by simp [State.joined], by simp [State.joined],
    by simp [State.joined], by simp [State.joined], by simp [State.joined]⟩
  unfold State.joined State.changeState
  rw [State.raise_queue (by simpa [Notice.plain] using hroom)]
  simp [hs, StationState.code, pairDetail, State.now]

theorem beaconTimer_expires (s : State) (n : Nat) (hn : s.line.beaconTimer = some n) :
    ∃ t, exec .beaconTimerExpiry s = .next t ∧ t.line.beaconTimer = some s.params.beaconPeriod
      ∧ (s.line.tx.length < 24 → countKind s.line.tx 1 = 0 →
          t.line.tx = s.line.tx ++ [⟨255, .beacon, 0, false, false⟩])
      ∧ ((∃ e ∈ s.line.tx, e.content = .beacon) → t.line.tx = s.line.tx)
      ∧ t.claim = s.claim ∧ t.control = s.control ∧ t.motion = s.motion ∧ t.notice = s.notice := by
  have hrun : exec .beaconTimerExpiry s
      = .next ((s.setLine { s.line with beaconTimer := some s.params.beaconPeriod }).offerBeacon s.now) := by
    change Host.Outcome.next s.beaconDue = _
    simp only [State.beaconDue, hn]
  obtain ⟨hnotice, htimer⟩ :=
    (s.setLine { s.line with beaconTimer := some s.params.beaconPeriod }).offerBeacon_kept s.now
  refine ⟨_, hrun, by rw [htimer]; rfl, fun hroom hnone => ?_, fun hqueued => ?_, by simp, by simp, by simp, hnotice⟩
  · rw [State.offerBeacon_enqueued _ (by exact hroom) (by exact hnone)]
    rfl
  · exact State.offerBeacon_merged _ hqueued

theorem contestTimer_expires (s : State) (hs : s.claim.record.state = .contested) :
    exec .contestTimerExpiry s = .next s.toIdle := by
  change Host.Outcome.next s.contestDue = _
  rw [State.contestDue, if_pos hs]

theorem holdoffTimer_expires (s : State) {h : Holdoff} (hh : s.claim.record.holdoff = some h) :
    exec .holdoffTimerExpiry s = .next (if h.phase = .waiting then s.toIdle else s) := by
  change Host.Outcome.next s.holdoffDue = _
  simp [State.holdoffDue, ClaimRecord.inWaitingPhase, hh]

theorem entry_stays (s : State) (set way : Nat) (e : CacheEntry) (he : Table.find s.cache.ways (4 * set + way) = some e)
    (hs : e.status ≠ .held) : exec (.entryStale set way) s = .next s := by
  change Host.Outcome.next (s.staleDue (4 * set + way)) = _
  simp [State.staleDue, he, hs]

theorem entry_becomes_stale (s : State) (set way : Nat) (e : CacheEntry)
    (he : Table.find s.cache.ways (4 * set + way) = some e) (hs : e.status = .held) :
    ∃ t q, exec (.entryStale set way) s = .next t ∧ Table.find t.cache.ways (4 * set + way) = some q
      ∧ q = { e with status := .stale, age := q.age } ∧ s.params.staleness < q.age ∧ e.age ≤ q.age
      ∧ (∀ k, k ≠ 4 * set + way → Table.find t.cache.ways k = Table.find s.cache.ways k)
      ∧ t = s.setCache t.cache ∧ t.cache.full = s.cache.full ∧ t.cache.refused = s.cache.refused := by
  have hrun : exec (.entryStale set way) s
      = .next (s.setWays (Table.insert s.cache.ways (4 * set + way) (e.stale s.params.staleness))) := by
    change Host.Outcome.next (s.staleDue (4 * set + way)) = _
    simp [State.staleDue, he, hs]
  exact ⟨_, e.stale s.params.staleness, hrun, Table.find_insert_self _ _ _, rfl,
    Nat.lt_of_succ_le (Nat.le_max_right _ _), Nat.le_max_left _ _, fun k hk => Table.find_insert_ne _ _ k _ hk,
    rfl, rfl, rfl⟩

/-- Settles O50, timer by timer. -/
theorem timersRunOutByTheirRules : Obligations.TimersRunOutByTheirRules := by
  refine ⟨fun s => ⟨joinTimer_expires s, beaconTimer_expires s⟩, fun s => ⟨fun hs => ?_, fun h hh hphase => ?_,
    fun h hh hphase => ?_, rfl⟩, fun s set way e he => ⟨entry_stays s set way e he, entry_becomes_stale s set way e he⟩⟩
  · obtain ⟨hidle, htimer, hrival, -, hkept⟩ := s.toIdle_ends_wait
    exact ⟨_, contestTimer_expires s hs, hidle, htimer, hrival, hkept⟩
  · obtain ⟨hidle, -, -, hholdoff, hkept⟩ := s.toIdle_ends_wait
    exact ⟨_, (holdoffTimer_expires s hh).trans (by rw [if_pos hphase]), hidle, hholdoff, hkept⟩
  · rw [holdoffTimer_expires s hh, hphase]
    rfl

end Sys2Proof.Proofs
end

section
/-! PROOFS. Bytes as bits and back, the line coding and the receiver (R35, R37): what is sent between two flags is what
the receiver hands over. -/

namespace Sys2Proof.Machine

/-! ## Bytes and their bits (R35) -/

theorem byteBits_length (b : Byte) : (byteBits b).length = 8 := by simp [byteBits]

theorem bitsByte_byteBits : ∀ b : Byte, bitsByte (byteBits b) = b := by decide +kernel

theorem bitsOf_cons (b : Byte) (l : List Byte) : bitsOf (b :: l) = byteBits b ++ bitsOf l := rfl

theorem bitsOf_length (l : List Byte) : (bitsOf l).length = 8 * l.length := by
  induction l with
  | nil => rfl
  | cons b l ih => rw [bitsOf_cons, List.length_append, byteBits_length, ih, List.length_cons]; omega

/-- Bytes gathered from their own bits are the bytes. -/
theorem gather_bitsOf (l : List Byte) : gather l.length (bitsOf l) = l := by
  induction l with
  | nil => rfl
  | cons b l ih =>
      have hlong : ¬ (byteBits b ++ bitsOf l).length < 8 := by
        rw [List.length_append, byteBits_length]; omega
      have htake : (byteBits b ++ bitsOf l).take 8 = byteBits b := List.take_left' (byteBits_length b)
      have hdrop : (byteBits b ++ bitsOf l).drop 8 = bitsOf l := List.drop_left' (byteBits_length b)
      rw [bitsOf_cons, List.length_cons, gather, if_neg hlong, htake, hdrop, ih, bitsByte_byteBits]

theorem bytes2_length (n : Nat) : (bytes2 n).length = 2 := rfl

/-! ## The receiver over a run of bits (R37) -/

theorem Receiver.takeAll_cons (r : Receiver) (b : Bool) (l : List Bool) :
    r.takeAll (b :: l) = (((r.take b).1.takeAll l).1, (r.take b).2.toList ++ ((r.take b).1.takeAll l).2) := rfl

theorem Receiver.takeAll_append (r : Receiver) (l m : List Bool) :
    r.takeAll (l ++ m) = (((r.takeAll l).1.takeAll m).1, (r.takeAll l).2 ++ ((r.takeAll l).1.takeAll m).2) := by
  induction l generalizing r with
  | nil => rfl
  | cons b l ih => simp [Receiver.takeAll_cons, ih]

theorem gatherBit_of_room {ones : Nat} {content : List Bool} (h : content.length < 392) :
    gatherBit ones content = (.frame ones content, none) := by
  simp [gatherBit, Nat.not_le.2 h]

/-- The receiver gathers the content bits and drops the zeros inserted among them. -/
theorem Receiver.takeAll_stuff (content : List Bool) :
    ∀ (ones : Nat) (acc : List Bool), ones ≤ 4 → acc.length + content.length < 392 →
      ∃ k, k ≤ 4 ∧ (Receiver.frame ones acc).takeAll (stuff ones content) = (.frame k (acc ++ content), []) := by
  induction content with
  | nil => exact fun ones acc hones _ => ⟨ones, hones, by simp [stuff, Receiver.takeAll]⟩
  | cons b rest ih =>
      intro ones acc hones hlen
      rw [List.length_cons] at hlen
      have hroom : (acc ++ [b]).length < 392 := by simp; omega
      have hrest : (acc ++ [b]).length + rest.length < 392 := by simp; omega
      cases b with
      | false =>
          have htake : (Receiver.frame ones acc).take false = (.frame 0 (acc ++ [false]), none) := by
            simp only [Receiver.take, show ones ≠ 6 by omega, show ones ≠ 5 by omega, if_false, gatherBit_of_room hroom]
          obtain ⟨k, hk, hall⟩ := ih 0 (acc ++ [false]) (by omega) hrest
          exact ⟨k, hk, by simp [stuff, Receiver.takeAll_cons, htake, hall]⟩
      | true =>
          have htake : (Receiver.frame ones acc).take true = (.frame (ones + 1) (acc ++ [true]), none) := by
            simp only [Receiver.take, show ones < 5 by omega, if_true, gatherBit_of_room hroom]
          by_cases hfour : ones = 4
          · have hzero : (Receiver.frame (ones + 1) (acc ++ [true])).take false = (.frame 0 (acc ++ [true]), none) := by
              simp [Receiver.take, hfour]
            obtain ⟨k, hk, hall⟩ := ih 0 (acc ++ [true]) (by omega) hrest
            refine ⟨k, hk, ?_⟩
            rw [stuff, if_pos hfour, Receiver.takeAll_cons, htake, Receiver.takeAll_cons, hzero, hall]
            simp
          · obtain ⟨k, hk, hall⟩ := ih (ones + 1) (acc ++ [true]) (by omega) hrest
            exact ⟨k, hk, by simp [stuff, hfour, Receiver.takeAll_cons, htake, hall]⟩

/-- Up to five 1 bits more of a run are gathered. -/
theorem Receiver.takeAll_ones (n : Nat) :
    ∀ (ones : Nat) (acc : List Bool), ones + n ≤ 5 → acc.length + n < 392 →
      (Receiver.frame ones acc).takeAll (List.replicate n true) = (.frame (ones + n) (acc ++ List.replicate n true), []) := by
  induction n with
  | zero => exact fun ones acc _ _ => by simp [Receiver.takeAll]
  | succ n ih =>
      intro ones acc hones hlen
      have hroom : (acc ++ [true]).length < 392 := by simp; omega
      have htake : (Receiver.frame ones acc).take true = (.frame (ones + 1) (acc ++ [true]), none) := by
        simp only [Receiver.take, show ones < 5 by omega, if_true, gatherBit_of_room hroom]
      have hall := ih (ones + 1) (acc ++ [true]) (by omega) (by simp; omega)
      rw [List.replicate_succ, Receiver.takeAll_cons, htake, hall]
      simp [Nat.add_assoc, Nat.add_comm 1]

/-- A flag closes the frame gathered so far. -/
theorem Receiver.takeAll_flag {ones : Nat} {content : List Bool} (hones : ones ≤ 4) (hlen : content.length ≤ 385) :
    (Receiver.frame ones content).takeAll flagBits = (.frame 0 [], [.flag content]) := by
  have hflag : flagBits = [false] ++ (List.replicate 5 true ++ [true, false]) := rfl
  have hzero : (Receiver.frame ones content).takeAll [false] = (.frame 0 (content ++ [false]), []) := by
    have hroom : (content ++ [false]).length < 392 := by simp; omega
    simp [Receiver.takeAll, Receiver.take, show ones ≠ 6 by omega, show ones ≠ 5 by omega, gatherBit_of_room hroom]
  have hgathered := Receiver.takeAll_ones 5 0 (content ++ [false]) (by omega) (by simp; omega)
  have hend : (Receiver.frame 5 (content ++ false :: List.replicate 5 true)).takeAll [true, false]
      = (.frame 0 [], [.flag content]) := by
    simp only [Receiver.takeAll, Receiver.take, Nat.lt_irrefl, if_false, if_true, withoutFlag_zero, Option.toList,
      List.nil_append, List.append_nil]
  rw [List.append_assoc] at hgathered
  rw [hflag, Receiver.takeAll_append, hzero, Receiver.takeAll_append, hgathered]
  simpa using hend

/-- Whatever stands between two flags is handed over with the inserted zeros removed (R37). -/
theorem Receiver.takeAll_stuffed {content : List Bool} (h : content.length ≤ 385) :
    (Receiver.frame 0 []).takeAll (stuff 0 content ++ flagBits) = (.frame 0 [], [.flag content]) := by
  obtain ⟨k, hk, hall⟩ := Receiver.takeAll_stuff content 0 [] (by omega) (by simp; omega)
  rw [Receiver.takeAll_append, hall]
  simp [Receiver.takeAll_flag hk h]

end Sys2Proof.Machine
end

section
/-! PROOFS. Reading a frame (R38, R56): a frame that fits its layout is read as it was written, and a frame is refused
exactly where a field check fails. -/

namespace Sys2Proof.Machine

open Sys2Proof.Safety

/-! ## Fields -/

theorem toNat_ofNat8 {n : Nat} (h : n < 256) : (BitVec.ofNat 8 n).toNat = n := by
  rw [BitVec.toNat_ofNat]; exact Nat.mod_eq_of_lt h

theorem nat2_bytes {n : Nat} (h : n < 65536) : nat2 (BitVec.ofNat 8 n) (BitVec.ofNat 8 (n / 256)) = n := by
  simp only [nat2, BitVec.toNat_ofNat]; omega

theorem nat2_eq_zero_iff (lo hi : Byte) : nat2 lo hi = 0 ↔ lo.toNat = 0 ∧ hi.toNat = 0 := by
  unfold nat2; omega

theorem segsOk_iff (l : List Nat) : segsOk l = true ↔ SegmentsFit l := by
  simp [segsOk, segOk_iff]

theorem listWrong_iff (l : List Nat) : ListWrong l ↔ ¬ segsOk l = true := by
  have hrange : (∃ n ∈ l, n = 0 ∨ 240 < n) ↔ ¬ ∀ n ∈ l, 1 ≤ n ∧ n ≤ 240 := by
    push Not
    exact exists_congr fun n => and_congr_right fun _ => by omega
  rw [segsOk_iff, not_and_or, ListWrong, hrange]

theorem segBytes_length (l : List Nat) : (segBytes l).length = l.length := by simp [segBytes, byte]

theorem segBytes_toNat {l : List Nat} (h : SegmentsFit l) : (segBytes l).map BitVec.toNat = l := by
  obtain ⟨hrange, -⟩ := h
  induction l with
  | nil => rfl
  | cons n l ih =>
      have hn := hrange n (by simp)
      have hrest := ih fun m hm => hrange m (by simp [hm])
      change (BitVec.ofNat 8 n).toNat :: (segBytes l).map BitVec.toNat = n :: l
      rw [hrest, toNat_ofNat8 (by omega)]

theorem readDirection_code (d : Direction) : readDirection (BitVec.ofNat 8 d.code) = some d := by
  cases d <;> rfl

theorem readStationState_code {x : StationState} (h : x ≠ .setup) :
    readStationState (BitVec.ofNat 8 x.code) = some x := by
  cases x
  case setup => exact absurd rfl h
  all_goals rfl

theorem readReason_code (r : Reason) : readReason (BitVec.ofNat 8 r.code) = some r := by
  cases r <;> rfl

theorem readDirection_eq_none_iff (b : Byte) : readDirection b = none ↔ 1 < b.toNat := by
  unfold readDirection; split_ifs <;> simp <;> omega

theorem readStationState_eq_none_iff (b : Byte) : readStationState b = none ↔ b.toNat = 0 ∨ 3 < b.toNat := by
  unfold readStationState; split_ifs <;> simp <;> omega

theorem readReason_eq_none_iff (b : Byte) : readReason b = none ↔ b.toNat = 0 ∨ 4 < b.toNat := by
  unfold readReason; split_ifs <;> simp <;> omega

/-! ## The marks of a held list -/

theorem markBits_lt (l : List HeldEntry) : markBits l < 2 ^ l.length := by
  induction l with
  | nil => simp [markBits]
  | cons e l ih =>
      have hcode : e.mark.code ≤ 1 := by cases e.mark <;> simp [Mark.code]
      rw [markBits, List.length_cons, Nat.pow_succ]
      omega

theorem readHeld_markBits (l : List HeldEntry) : readHeld (markBits l) (heldSegs l) = l := by
  induction l with
  | nil => rfl
  | cons e l ih =>
      obtain ⟨seg, mark⟩ := e
      have htail : (mark.code + 2 * markBits l) / 2 = markBits l := by
        cases mark <;> simp only [Mark.code] <;> omega
      have hhead : (if (mark.code + 2 * markBits l) % 2 = 1 then Mark.occupied else Mark.reserved) = mark := by
        cases mark <;> simp only [Mark.code]
        · exact if_neg (by omega)
        · exact if_pos (by omega)
      change readHeld (mark.code + 2 * markBits l) (seg :: heldSegs l) = _
      rw [readHeld, htail, hhead, ih]

/-! ## A body read from its own bytes -/

theorem readBeacon_bytes {b : BeaconBody} (h : BodyFits (.beacon b)) :
    readBeacon (Body.beacon b).bytes = some (.beacon b) := by
  obtain ⟨hcentre, hoffset, hstate, hspeed, hurgency, hwaiting, hlen, hsegs⟩ := h
  have hheld : (heldSegs b.held).length = b.held.length := by simp [heldSegs]
  have hmarks : markBits b.held < 65536 :=
    lt_of_lt_of_le (markBits_lt b.held) ((Nat.pow_le_pow_right (by omega) hlen).trans (by norm_num))
  have hcheck : (segBytes (heldSegs b.held)).length = b.held.length ∧ b.held.length ≤ 12
      ∧ segsOk (heldSegs b.held) = true ∧ segOk b.centreSeg = true ∧ b.waitingFor ≤ 240 ∧ b.urgency ≤ 3 :=
    ⟨(segBytes_length _).trans hheld, hlen, (segsOk_iff _).2 hsegs, (segOk_iff _).2 hcentre, hwaiting, hurgency⟩
  simp only [Body.bytes, byte, bytes2, List.cons_append, List.nil_append, readBeacon, readDirection_code,
    readStationState_code hstate, segBytes_toNat hsegs, nat2_bytes hoffset, nat2_bytes hspeed, nat2_bytes hmarks,
    readHeld_markBits, toNat_ofNat8 (show b.centreSeg < 256 by omega), toNat_ofNat8 (show b.urgency < 256 by omega),
    toNat_ofNat8 (show b.waitingFor < 256 by omega), toNat_ofNat8 (show b.held.length < 256 by omega)]
  exact if_pos hcheck

theorem readClaim_bytes {number round urgency waited : Nat} {segs : List Nat}
    (h : BodyFits (.claim number round urgency waited segs)) :
    readClaim (Body.claim number round urgency waited segs).bytes = some (.claim number round urgency waited segs) := by
  obtain ⟨hnumber, hround, hurgency, hwaited, hone, hlen, hsegs⟩ := h
  simp only [Body.bytes, byte, bytes2, List.cons_append, List.nil_append, readClaim, segBytes_toNat hsegs,
    nat2_bytes hwaited, toNat_ofNat8 hnumber, toNat_ofNat8 (show round < 256 by omega),
    toNat_ofNat8 (show urgency < 256 by omega), toNat_ofNat8 (show segs.length < 256 by omega)]
  exact if_pos ⟨segBytes_length segs, hone, hlen, (segsOk_iff _).2 hsegs, hround, hurgency⟩

theorem readObject_bytes {number seg waitingFor urgency : Nat} {reason : Reason}
    (h : BodyFits (.object number seg reason waitingFor urgency)) :
    readObject (Body.object number seg reason waitingFor urgency).bytes
      = some (.object number seg reason waitingFor urgency) := by
  obtain ⟨hnumber, hseg, hwaiting, hurgency⟩ := h
  simp only [Body.bytes, byte, List.cons_append, List.nil_append, readObject, readReason_code, toNat_ofNat8 hnumber,
    toNat_ofNat8 (show seg < 256 by omega), toNat_ofNat8 (show waitingFor < 256 by omega),
    toNat_ofNat8 (show urgency < 256 by omega)]
  exact if_pos ⟨(segOk_iff _).2 hseg, hwaiting, hurgency⟩

theorem readSegs_bytes {top : Nat} {segs : List Nat} (htop : top < 256) (hone : 1 ≤ segs.length) (hlen : segs.length ≤ top)
    (hsegs : SegmentsFit segs) : readSegs top (byte segs.length ++ segBytes segs) = some segs := by
  simp only [byte, List.cons_append, List.nil_append, readSegs, segBytes_toNat hsegs,
    toNat_ofNat8 (show segs.length < 256 by omega)]
  exact if_pos ⟨segBytes_length segs, hone, hlen, (segsOk_iff _).2 hsegs⟩

theorem readRelay_bytes {payload : List Byte} (h : BodyFits (.relay payload)) :
    readRelay (Body.relay payload).bytes = some (.relay payload) := by
  obtain ⟨hone, hlen⟩ := h
  simp [Body.bytes, byte, readRelay, Nat.mod_eq_of_lt (show payload.length < 256 by omega), hone, hlen]

/-- A body that fits its layout is read as it was written (R56). -/
theorem readBody_bytes {b : Body} (h : BodyFits b) : readBody b.kind b.bytes = some b := by
  cases b with
  | beacon b => exact readBeacon_bytes h
  | claim => exact readClaim_bytes h
  | object => exact readObject_bytes h
  | withdraw number =>
      have hnumber : number < 256 := h
      simp [readBody, Body.kind, Body.bytes, byte, Nat.mod_eq_of_lt hnumber]
  | release segs =>
      obtain ⟨hone, hlen, hsegs⟩ := h
      exact congrArg (Option.map Body.release) (readSegs_bytes (by omega) hone hlen hsegs)
  | enquire segs =>
      obtain ⟨hone, hlen, hsegs⟩ := h
      exact congrArg (Option.map Body.enquire) (readSegs_bytes (by omega) hone hlen hsegs)
  | relay => exact readRelay_bytes h

theorem Body.kind_range (b : Body) : 1 ≤ b.kind ∧ b.kind ≤ 7 := by cases b <;> simp [Body.kind]

/-- A body that fits its layout has 1 to 33 bytes (R56). -/
theorem Body.bytes_length {b : Body} (h : BodyFits b) : 1 ≤ b.bytes.length ∧ b.bytes.length ≤ 33 := by
  cases b with
  | beacon b =>
      obtain ⟨-, -, -, -, -, -, hlen, -⟩ := h
      have hheld : (segBytes (heldSegs b.held)).length = b.held.length := by rw [segBytes_length]; simp [heldSegs]
      simp [Body.bytes, byte, bytes2, hheld]; omega
  | claim number round urgency waited segs =>
      obtain ⟨-, -, -, -, hone, hlen, -⟩ := h
      simp [Body.bytes, byte, bytes2, segBytes_length]; omega
  | object => simp [Body.bytes, byte]
  | withdraw => simp [Body.bytes, byte]
  | release segs =>
      obtain ⟨hone, hlen, -⟩ := h
      simp [Body.bytes, byte, segBytes_length]; omega
  | enquire segs =>
      obtain ⟨hone, hlen, -⟩ := h
      simp [Body.bytes, byte, segBytes_length]; omega
  | relay payload =>
      obtain ⟨hone, hlen⟩ := h
      simp [Body.bytes, byte]; omega

/-! ## A frame read from its own bytes -/

theorem Frame.bytes_eq (f : Frame) :
    f.bytes = BitVec.ofNat 8 f.dest :: BitVec.ofNat 8 f.source :: BitVec.ofNat 8 f.body.kind
      :: BitVec.ofNat 8 f.edition :: BitVec.ofNat 8 (f.edition / 256) :: f.body.bytes := rfl

theorem destOk_of_fits {f : Frame} (h : FrameFits f) : destOk f.body.kind f.dest = true := by
  obtain ⟨-, -, -, hobject, hbroadcast, -⟩ := h
  unfold destOk
  split
  next h3 => exact (stationOk_iff _).2 (hobject h3)
  split
  next => rfl
  next h3 h7 => simpa using hbroadcast h3 h7

/-- A frame that fits its layout is read with every field as it was written (R38, R56). -/
theorem readFrame_bytes {f : Frame} (h : FrameFits f) : readFrame f.bytes = some f := by
  have hdestOk := destOk_of_fits h
  obtain ⟨hsource, hedition, hdest, -, -, hbody⟩ := h
  obtain ⟨-, hkind⟩ := f.body.kind_range
  rw [Frame.bytes_eq]
  simp only [readFrame, toNat_ofNat8 hdest, toNat_ofNat8 (show f.source < 256 by omega),
    toNat_ofNat8 (show f.body.kind < 256 by omega), nat2_bytes hedition.2, readBody_bytes hbody]
  exact if_pos ⟨(stationOk_iff _).2 hsource, by omega, hdestOk⟩

theorem Frame.content_length {f : Frame} (h : FrameFits f) : 8 ≤ f.content.length ∧ f.content.length ≤ 40 := by
  obtain ⟨-, -, -, -, -, hbody⟩ := h
  have hlen := Body.bytes_length hbody
  simp only [Frame.content, Frame.bytes_eq, List.length_append, List.length_cons, bytes2_length]
  omega

/-! ## The field checks (R38) -/

/-- A byte of a frame by its place; one that is not there reads 0. -/
def byteAt (l : List Byte) (i : Nat) : Nat := (l[i]?.getD 0).toNat

@[simp] theorem byteAt_nil (i : Nat) : byteAt [] i = 0 := rfl

@[simp] theorem byteAt_cons_zero (b : Byte) (l : List Byte) : byteAt (b :: l) 0 = b.toNat := rfl

@[simp] theorem byteAt_cons_succ (b : Byte) (l : List Byte) (i : Nat) : byteAt (b :: l) (i + 1) = byteAt l i := by
  simp [byteAt]

theorem readBeacon_eq_none_iff (l : List Byte) :
    readBeacon l = none ↔
      l.length ≠ 12 + byteAt l 11 ∨ 12 < byteAt l 11 ∨ ListWrong ((l.drop 12).map BitVec.toNat) ∨ byteAt l 0 = 0
        ∨ 240 < byteAt l 0 ∨ 1 < byteAt l 3 ∨ byteAt l 4 = 0 ∨ 3 < byteAt l 4 ∨ 3 < byteAt l 7 ∨ 240 < byteAt l 8 := by
  rcases l with _ | ⟨c, _ | ⟨o0, _ | ⟨o1, _ | ⟨d, _ | ⟨st, _ | ⟨v0, _ | ⟨v1, _ | ⟨u, _ | ⟨w, _ | ⟨m0, _ | ⟨m1, _ |
    ⟨n, rest⟩⟩⟩⟩⟩⟩⟩⟩⟩⟩⟩⟩
  iterate 12 next => simp [readBeacon]
  simp only [readBeacon, listWrong_iff]
  have hdir := readDirection_eq_none_iff d
  have hstate := readStationState_eq_none_iff st
  cases hd : readDirection d with
  | none => simp [hdir.1 hd]
  | some dir =>
      cases hst : readStationState st with
      | none =>
          have hwrong := hstate.1 hst
          simp; omega
      | some state =>
          rw [hd] at hdir
          rw [hst] at hstate
          by_cases hsegs : segsOk (rest.map BitVec.toNat) = true
          · simp [hsegs, segOk_iff] at hdir hstate ⊢
            omega
          · simp [hsegs]

theorem readClaim_eq_none_iff (l : List Byte) :
    readClaim l = none ↔
      l.length ≠ 6 + byteAt l 5 ∨ byteAt l 5 = 0 ∨ 8 < byteAt l 5 ∨ ListWrong ((l.drop 6).map BitVec.toNat)
        ∨ byteAt l 1 = 0 ∨ 2 < byteAt l 1 ∨ 3 < byteAt l 2 := by
  rcases l with _ | ⟨k, _ | ⟨r, _ | ⟨u, _ | ⟨w0, _ | ⟨w1, _ | ⟨n, rest⟩⟩⟩⟩⟩⟩
  iterate 6 next => simp [readClaim]
  simp only [readClaim, listWrong_iff]
  by_cases hsegs : segsOk (rest.map BitVec.toNat) = true
  · simp [hsegs]
    omega
  · simp [hsegs]

theorem readObject_eq_none_iff (l : List Byte) :
    readObject l = none ↔
      l.length ≠ 5 ∨ byteAt l 1 = 0 ∨ 240 < byteAt l 1 ∨ byteAt l 2 = 0 ∨ 4 < byteAt l 2 ∨ 240 < byteAt l 3
        ∨ 3 < byteAt l 4 := by
  rcases l with _ | ⟨k, _ | ⟨s, _ | ⟨r, _ | ⟨w, _ | ⟨u, _ | ⟨x, rest⟩⟩⟩⟩⟩⟩
  iterate 5 next => simp [readObject]
  · have hreason := readReason_eq_none_iff r
    cases hr : readReason r with
    | none =>
        have hwrong := hreason.1 hr
        simp [readObject, hr]; omega
    | some reason =>
        simp [hr] at hreason
        simp [readObject, hr, segOk_iff]; omega
  · simp [readObject]

theorem readSegs_eq_none_iff (top : Nat) (l : List Byte) :
    readSegs top l = none ↔
      l.length ≠ 1 + byteAt l 0 ∨ byteAt l 0 = 0 ∨ top < byteAt l 0 ∨ ListWrong ((l.drop 1).map BitVec.toNat) := by
  cases l with
  | nil => simp [readSegs]
  | cons n rest =>
      simp only [readSegs, listWrong_iff]
      by_cases hsegs : segsOk (rest.map BitVec.toNat) = true
      · simp [hsegs]; omega
      · simp [hsegs]

theorem readRelay_eq_none_iff (l : List Byte) :
    readRelay l = none ↔ l.length ≠ 1 + byteAt l 0 ∨ byteAt l 0 = 0 ∨ 32 < byteAt l 0 := by
  cases l with
  | nil => simp [readRelay]
  | cons n rest => simp [readRelay]; omega

theorem readWithdraw_eq_none_iff (l : List Byte) : readBody 4 l = none ↔ l.length ≠ 1 := by
  rcases l with _ | ⟨k, _ | ⟨x, rest⟩⟩ <;> simp [readBody]

/-- The rows of R38 that judge a body of the kinds 1 to 7, byte by byte from the body's start. -/
def BodyWrong (kind : Nat) (l : List Byte) : Prop :=
  (kind = 1 ∧ (l.length ≠ 12 + byteAt l 11 ∨ 12 < byteAt l 11 ∨ ListWrong ((l.drop 12).map BitVec.toNat) ∨ byteAt l 0 = 0
      ∨ 240 < byteAt l 0 ∨ 1 < byteAt l 3 ∨ byteAt l 4 = 0 ∨ 3 < byteAt l 4 ∨ 3 < byteAt l 7 ∨ 240 < byteAt l 8))
    ∨ (kind = 2 ∧ (l.length ≠ 6 + byteAt l 5 ∨ byteAt l 5 = 0 ∨ 8 < byteAt l 5 ∨ ListWrong ((l.drop 6).map BitVec.toNat)
      ∨ byteAt l 1 = 0 ∨ 2 < byteAt l 1 ∨ 3 < byteAt l 2))
    ∨ (kind = 3 ∧ (l.length ≠ 5 ∨ byteAt l 1 = 0 ∨ 240 < byteAt l 1 ∨ byteAt l 2 = 0 ∨ 4 < byteAt l 2
      ∨ 240 < byteAt l 3 ∨ 3 < byteAt l 4))
    ∨ (kind = 4 ∧ l.length ≠ 1)
    ∨ (kind = 5 ∧ (l.length ≠ 1 + byteAt l 0 ∨ byteAt l 0 = 0 ∨ 12 < byteAt l 0
      ∨ ListWrong ((l.drop 1).map BitVec.toNat)))
    ∨ (kind = 6 ∧ (l.length ≠ 1 + byteAt l 0 ∨ byteAt l 0 = 0 ∨ 8 < byteAt l 0
      ∨ ListWrong ((l.drop 1).map BitVec.toNat)))
    ∨ (kind = 7 ∧ (l.length ≠ 1 + byteAt l 0 ∨ byteAt l 0 = 0 ∨ 32 < byteAt l 0))

/-- A body is refused by the rows of its kind (R38). -/
theorem readBody_eq_none_iff (kind : Nat) (l : List Byte) :
    readBody kind l = none ↔ kind = 0 ∨ 7 < kind ∨ BodyWrong kind l := by
  unfold BodyWrong
  rw [← readBeacon_eq_none_iff, ← readClaim_eq_none_iff, ← readObject_eq_none_iff, ← readSegs_eq_none_iff 12,
    ← readSegs_eq_none_iff 8, ← readRelay_eq_none_iff]
  by_cases hrange : 1 ≤ kind ∧ kind ≤ 7
  · obtain rfl | rfl | rfl | rfl | rfl | rfl | rfl :
        kind = 1 ∨ kind = 2 ∨ kind = 3 ∨ kind = 4 ∨ kind = 5 ∨ kind = 6 ∨ kind = 7 := by omega
    case inr.inr.inr.inl => simp [readWithdraw_eq_none_iff]
    all_goals simp [readBody]
  · have hout : kind = 0 ∨ 7 < kind := by omega
    have hnone : readBody kind l = none := by
      unfold readBody
      iterate 7 rw [if_neg (by omega)]
    simp only [hnone, true_iff]
    omega

theorem not_stationOk_iff (n : Nat) : ¬ stationOk n = true ↔ n = 0 ∨ 60 < n := by
  rw [stationOk_iff]; omega

theorem not_destOk_iff (kind dest : Nat) : ¬ destOk kind dest = true ↔
    (kind ≠ 3 ∧ kind ≠ 7 ∧ dest ≠ 255) ∨ (kind = 3 ∧ (dest = 0 ∨ 60 < dest)) := by
  unfold destOk
  split
  next h => rw [not_stationOk_iff]; simp [h]
  split
  next h3 h7 => simp [h7]
  next h3 h7 => simp [h3, h7]

/-- A frame is read from its header and its body, or one of them is refused. -/
theorem readFrame_cons_eq_none_iff (d s k e0 e1 : Byte) (body : List Byte) :
    readFrame (d :: s :: k :: e0 :: e1 :: body) = none ↔
      readBody k.toNat body = none ∨ ¬ stationOk s.toNat = true ∨ nat2 e0 e1 = 0
        ∨ ¬ destOk k.toNat d.toNat = true := by
  unfold readFrame
  cases hread : readBody k.toNat body with
  | none => simp [hread]
  | some b => simp [hread, imp_iff_not_or]

theorem fieldsWrong_cons_iff (d s k e0 e1 : Byte) (body : List Byte) :
    FieldsWrong (d :: s :: k :: e0 :: e1 :: body) ↔
      k.toNat = 0 ∨ 7 < k.toNat ∨ (s.toNat = 0 ∨ 60 < s.toNat) ∨ (e0.toNat = 0 ∧ e1.toNat = 0)
        ∨ ((k.toNat ≠ 3 ∧ k.toNat ≠ 7 ∧ d.toNat ≠ 255) ∨ (k.toNat = 3 ∧ (d.toNat = 0 ∨ 60 < d.toNat)))
        ∨ BodyWrong k.toNat body := by
  have hlen (n x : Nat) : body.length + 1 + 1 + 1 + 1 + 1 ≠ n + 5 + x ↔ body.length ≠ n + x := by omega
  have hfive (n : Nat) : body.length + 1 + 1 + 1 + 1 + 1 ≠ n + 5 ↔ body.length ≠ n := by omega
  have h17 := hlen 12
  have h11 := hlen 6
  have h6 := hlen 1
  simp only [FieldsWrong, BodyWrong, byteAt, List.getElem?_cons_succ, List.getElem?_cons_zero, Option.getD_some,
    List.drop_succ_cons, List.length_cons, Nat.reduceAdd, or_assoc] at h17 h11 h6 hfive ⊢
  rw [h17, h11, h6, hfive 5, hfive 1]

/-- The table of R38 refuses exactly the frames that cannot be read. -/
theorem readFrame_eq_none_iff {data : List Byte} (h : 5 ≤ data.length) : readFrame data = none ↔ FieldsWrong data := by
  rcases data with _ | ⟨d, _ | ⟨s, _ | ⟨k, _ | ⟨e0, _ | ⟨e1, body⟩⟩⟩⟩⟩
  iterate 5 next => simp at h
  rw [readFrame_cons_eq_none_iff, readBody_eq_none_iff, not_stationOk_iff, nat2_eq_zero_iff, not_destOk_iff,
    fieldsWrong_cons_iff]
  tauto

end Sys2Proof.Machine
end

section
/-! PROOFS. A frame that ends at the receiver (R33, R37 to R42, R55): what is taken off the line, how it is judged and
what it leaves behind. -/

namespace Sys2Proof.Machine

open Sys2Proof.Safety

/-! ## A frame on the line -/

/-- A frame sent after an opening flag stands before a receiver that has just read one (R35, R37). -/
theorem Frame.takeAll_after_flag {f : Frame} (h : FrameFits f) :
    (Receiver.frame 0 []).takeAll (stuff 0 (bitsOf f.content) ++ flagBits)
      = (.frame 0 [], [.flag (bitsOf f.content)]) := by
  have hlen := Frame.content_length h
  exact Receiver.takeAll_stuffed (by rw [bitsOf_length]; omega)

/-- A frame closes once, at its own closing flag; an opening flag read where a flag has just ended closes an empty
frame first. -/
theorem Frame.takeAll_line {f : Frame} (h : FrameFits f) {r : Receiver} {bits : List Bool}
    (hsent : (r = .hunt 7 ∧ bits = f.line) ∨ (r = .frame 0 [] ∧ (bits = f.line ∨ bits = f.line.drop 8))) :
    r.takeAll bits = (.frame 0 [], [.flag (bitsOf f.content)])
      ∨ r.takeAll bits = (.frame 0 [], [.flag [], .flag (bitsOf f.content)]) := by
  have hframe := Frame.takeAll_after_flag h
  obtain ⟨rfl, rfl⟩ | ⟨rfl, rfl | rfl⟩ := hsent
  · have hopen : (Receiver.hunt 7).takeAll flagBits = (.frame 0 [], []) := by decide
    exact .inl (by simp [Frame.line, Receiver.takeAll_append _ flagBits, hopen, hframe])
  · have hopen : (Receiver.frame 0 []).takeAll flagBits = (.frame 0 [], [.flag []]) :=
      Receiver.takeAll_flag (by omega) (by simp)
    exact .inr (by simp [Frame.line, Receiver.takeAll_append _ flagBits, hopen, hframe])
  · exact .inl hframe

/-! ## The judgement of a closed frame (R37) -/

theorem judge_of_short {content : List Bool} (hne : content ≠ []) (h : content.length < 56) :
    judge content = .tooShort := by
  simp [judge, hne, h]

theorem judge_of_ragged {content : List Bool} (h : 56 ≤ content.length) (hragged : content.length % 8 ≠ 0) :
    judge content = .crcBad := by
  have hne : content ≠ [] := by rintro rfl; simp at h
  simp [judge, hne, hragged, Nat.not_lt.2 h]

/-- Whole bytes are judged by their check field, then by the field checks. -/
theorem judge_bitsOf {data : List Byte} {lo hi : Byte} (h : 5 ≤ data.length) :
    judge (bitsOf (data ++ [lo, hi])) =
      if [lo, hi] ≠ bytes2 (crcOf (bitsOf data)).toNat then .crcBad
      else (readFrame data).elim .malformed .good := by
  have hlen : (bitsOf (data ++ [lo, hi])).length = 8 * (data ++ [lo, hi]).length := bitsOf_length _
  have hbytes : (data ++ [lo, hi]).length = data.length + 2 := by simp
  have hne : (bitsOf (data ++ [lo, hi])).isEmpty = false := by
    rw [List.isEmpty_eq_false_iff_exists_mem]
    exact List.exists_mem_of_length_pos (by omega)
  have hgather : gather ((bitsOf (data ++ [lo, hi])).length / 8) (bitsOf (data ++ [lo, hi])) = data ++ [lo, hi] := by
    rw [hlen, Nat.mul_div_cancel_left _ (by omega), gather_bitsOf]
  unfold judge
  rw [hgather, hne, if_neg (by decide), if_neg (by omega), if_neg (by omega)]
  simp only [hbytes, Nat.add_sub_cancel, List.take_left, List.drop_left]
  cases readFrame data <;> rfl

theorem judge_of_bad_check {data : List Byte} {lo hi : Byte} (h : 5 ≤ data.length)
    (hcheck : [lo, hi] ≠ bytes2 (crcOf (bitsOf data)).toNat) : judge (bitsOf (data ++ [lo, hi])) = .crcBad := by
  rw [judge_bitsOf h, if_pos hcheck]

/-- Under the check field of its own bytes a frame is judged by the field checks alone. -/
theorem judge_of_good_check {data : List Byte} (h : 5 ≤ data.length) :
    judge (bitsOf (data ++ bytes2 (crcOf (bitsOf data)).toNat)) = (readFrame data).elim .malformed .good := by
  have hjudge := judge_bitsOf (lo := BitVec.ofNat 8 (crcOf (bitsOf data)).toNat)
    (hi := BitVec.ofNat 8 ((crcOf (bitsOf data)).toNat / 256)) h
  rw [if_neg (by simp [bytes2])] at hjudge
  exact hjudge

/-- The frame a station sent is judged GOOD as it was sent (R36 to R38). -/
theorem judge_frame {f : Frame} (h : FrameFits f) : judge (bitsOf f.content) = .good f := by
  have hjudge := judge_of_good_check (data := f.bytes) (by simp [Frame.bytes_eq])
  rw [readFrame_bytes h] at hjudge
  exact hjudge

theorem judge_of_wrong_fields {data : List Byte} (h : 5 ≤ data.length) (hwrong : FieldsWrong data) :
    judge (bitsOf (data ++ bytes2 (crcOf (bitsOf data)).toNat)) = .malformed := by
  rw [judge_of_good_check h, (readFrame_eq_none_iff h).2 hwrong]
  rfl

/-! ## What the receiver does with a run of bits (R39) -/

theorem exec_frameClosed_sending {s : State} {f : Frame} {sent : List Bool} (bits : List Bool)
    (h : s.line.transmitter = .sending f sent) : exec (.frameClosed bits) s = .next s := by
  change Host.Outcome.next (s.receive s.now bits) = _
  simp [State.receive, h, Transmitter.isSending]

/-- A station that does not send takes the bits and closes the frames that end among them, in order. -/
theorem exec_frameClosed {s : State} {bits : List Bool} {r : Receiver} {l : List Closing}
    (hidle : ∀ f sent, s.line.transmitter ≠ .sending f sent) (htake : s.line.receiver.takeAll bits = (r, l)) :
    exec (.frameClosed bits) s
      = .next (l.foldl (fun u c => u.closeFrame s.now c) (s.setLine { s.line with receiver := r })) := by
  have hnot : s.line.transmitter.isSending = false := by
    cases htx : s.line.transmitter with
    | sending f sent => exact absurd htx (hidle f sent)
    | off => rfl
    | idle => rfl
    | backoff n => rfl
  change Host.Outcome.next (s.receive s.now bits) = _
  simp [State.receive, hnot, htake]

theorem State.closeFrame_empty (s : State) (t : Nat) : s.closeFrame t (.flag []) = s := rfl

theorem State.closeFrame_good {s : State} {f : Frame} (t : Nat) (h : FrameFits f) :
    s.closeFrame t (.flag (bitsOf f.content)) = s.goodFrame t f := by
  simp [State.closeFrame, judge_frame h]

/-- The state whose receiver has just read a flag and gathers the next frame. -/
def State.afterFlag (s : State) : State := s.setLine { s.line with receiver := .frame 0 [] }

/-- A sent frame that ends at the receiver of a station that does not send. -/
theorem exec_frameClosed_good {s : State} {f : Frame} {bits : List Bool} (h : FrameFits f)
    (hidle : ∀ f sent, s.line.transmitter ≠ .sending f sent)
    (hsent : (s.line.receiver = .hunt 7 ∧ bits = f.line)
      ∨ (s.line.receiver = .frame 0 [] ∧ (bits = f.line ∨ bits = f.line.drop 8))) :
    exec (.frameClosed bits) s = .next (s.afterFlag.goodFrame s.afterFlag.now f) := by
  obtain htake | htake := Frame.takeAll_line h hsent
  · rw [exec_frameClosed hidle htake]
    simp [State.closeFrame_good _ h, State.afterFlag, State.now]
  · rw [exec_frameClosed hidle htake]
    simp [State.closeFrame_empty, State.closeFrame_good _ h, State.afterFlag, State.now]

/-! ## What a halt keeps of the receive side -/

/-- The receiver, the receive buffer and the count of the frames taken are as they were. -/
def ReceptionKept (s t : State) : Prop :=
  t.line.rx = s.line.rx ∧ t.line.receiver = s.line.receiver
    ∧ t.line.counters.framesTaken = s.line.counters.framesTaken

theorem ReceptionKept.of_line {s t : State} (h : t.line = s.line) : ReceptionKept s t := by
  simp [ReceptionKept, h]

theorem ReceptionKept.trans {s t u : State} (h : ReceptionKept s t) (h' : ReceptionKept t u) : ReceptionKept s u := by
  obtain ⟨hrx, hreceiver, htaken⟩ := h
  obtain ⟨hrx', hreceiver', htaken'⟩ := h'
  exact ⟨hrx'.trans hrx, hreceiver'.trans hreceiver, htaken'.trans htaken⟩

theorem State.displace_receptionKept (s : State) (t cls : Nat) (e : TxEntry) : ReceptionKept s (s.displace t cls e) := by
  have hdrop : ReceptionKept s (s.setLine { s.line.countDropped with tx := dropNewest s.line.tx cls }) := ⟨rfl, rfl, rfl⟩
  unfold State.displace
  split
  · exact hdrop.trans (.of_line (by simp [State.relayDiscarded]))
  · exact hdrop

theorem State.enqueue_receptionKept (s : State) (dest : Nat) (content : TxContent) :
    ReceptionKept s (s.enqueue dest content) := ⟨rfl, rfl, rfl⟩

theorem State.dropFrame_receptionKept (s : State) : ReceptionKept s s.dropFrame := ⟨rfl, rfl, rfl⟩

/-- An offer to the transmit queue changes that queue and the count of the frames dropped (R45 to R47). -/
theorem State.offer_receptionKept (s : State) (t dest : Nat) (content : TxContent) :
    ReceptionKept s (s.offer t dest content).1 := by
  unfold State.offer
  split
  · exact ⟨rfl, rfl, rfl⟩
  split
  · exact s.dropFrame_receptionKept
  split
  · exact s.enqueue_receptionKept dest content
  split
  · split
    next e _ => exact (s.displace_receptionKept t 3 e).trans (State.enqueue_receptionKept _ dest content)
    split
    next e _ => exact (s.displace_receptionKept t 2 e).trans (State.enqueue_receptionKept _ dest content)
    next => exact s.dropFrame_receptionKept.trans (.of_line (by simp))
  split
  · exact s.dropFrame_receptionKept
  · exact .of_line rfl

theorem State.askRemoval_receptionKept (s : State) (owed : Bool) : ReceptionKept s (s.askRemoval owed) := by
  unfold State.askRemoval
  split <;> exact ⟨rfl, rfl, rfl⟩

theorem State.toIdle_receptionKept (s : State) : ReceptionKept s s.toIdle := .of_line (by simp)

/-- Ending a claim takes its CLAIM off the transmit queue and offers a WITHDRAW (R72). -/
theorem State.endClaim_receptionKept (s : State) (t : Nat) : ReceptionKept s (s.endClaim t) := by
  unfold State.endClaim
  split
  · exact (s.askRemoval_receptionKept true).trans (State.toIdle_receptionKept _)
  · exact ((s.askRemoval_receptionKept false).trans (State.offer_receptionKept _ t 255 _)).trans
      (State.toIdle_receptionKept _)
  · exact (s.offer_receptionKept t 255 _).trans (State.toIdle_receptionKept _)
  · exact (s.offer_receptionKept t 255 _).trans (State.toIdle_receptionKept _)
  all_goals exact .of_line rfl

theorem State.haltOrders_receptionKept (s : State) (t : Nat) : ReceptionKept s (s.haltOrders t) := .of_line (by simp)

theorem State.enterHalted_receptionKept (s : State) (t : Nat) : ReceptionKept s (s.enterHalted t) := by
  unfold State.enterHalted State.abandonClaim
  refine .trans ?_ (State.haltOrders_receptionKept _ t)
  refine .trans ?_ (State.toIdle_receptionKept _)
  refine .trans ?_ (State.endClaim_receptionKept _ t)
  exact .of_line (by simp)

theorem State.halt_receptionKept (s : State) (t : Nat) (c : Cause) : ReceptionKept s (s.halt t c) := by
  have hcause : ReceptionKept s (s.addCause c) := .of_line rfl
  unfold State.halt
  split
  · exact .of_line rfl
  · exact hcause
  all_goals exact hcause.trans (State.enterHalted_receptionKept _ t)

theorem State.haltWith_receptionKept (s : State) (t : Nat) (r : HaltReport) : ReceptionKept s (s.haltWith t r) :=
  ReceptionKept.trans (.of_line (by simp)) (State.halt_receptionKept _ t r.cause)

/-! ## A GOOD frame of another station (R39, R40, R42) -/

theorem State.goodFrame_of_other {s : State} {f : Frame} (t : Nat) (h : f.source ≠ s.control.number) :
    s.goodFrame t f =
      if f.dest = 0 then s.countLine (fun k => { k with noStation := inc16 k.noStation })
      else if s.control.recognises f.dest then s.bufferFrame t f else s := by
  rw [State.goodFrame, if_neg h]

theorem State.goodFrame_of_own {s : State} {f : Frame} (t : Nat) (h : f.source = s.control.number) :
    s.goodFrame t f = s.duplicateFrame t f := by
  rw [State.goodFrame, if_pos h]

theorem State.bufferFrame_of_room {s : State} (t : Nat) (f : Frame) (h : s.line.rx.length < 8) :
    s.bufferFrame t f = s.setLine
      { s.line with rx := s.line.rx ++ [⟨f, t⟩]
                    counters := { s.line.counters with framesTaken := inc16 s.line.counters.framesTaken } } := by
  rw [State.bufferFrame, if_pos h]
  rfl

/-- The frame an overrun loses is counted, and offered as a fault (R42). -/
theorem State.bufferFrame_of_full {s : State} (t : Nat) (f : Frame) (h : 8 ≤ s.line.rx.length) :
    s.bufferFrame t f
      = (s.countLine (fun k => { k with rxOverrun := inc16 k.rxOverrun })).offerFault
          { kind := .rxOverrun, time := t, station := some f.source, seg := none, detail := none } := by
  rw [State.bufferFrame, if_neg (Nat.not_lt.2 h)]

/-- What a frame under the own number reports (R33). -/
def State.duplicateReport (s : State) (f : Frame) : HaltReport :=
  { notice := .duplicateStation, fault := .duplicateStation, cause := .duplicateStation,
    station := some s.control.number, seg := none, detail := some f.body.kind, faultDetail := some f.body.kind }

theorem State.duplicateFrame_of_known {s : State} (t : Nat) (f : Frame) (h : s.resp.duplicate = true) :
    s.duplicateFrame t f = s := by
  rw [State.duplicateFrame, if_pos h]

theorem State.duplicateFrame_of_new {s : State} (t : Nat) (f : Frame) (h : ¬ s.resp.duplicate = true) :
    s.duplicateFrame t f = (s.setResp { s.resp with duplicate := true }).haltWith t (s.duplicateReport f) := by
  rw [State.duplicateFrame, if_neg h]
  rfl

theorem State.offerFault_queue (s : State) (x : FaultOffer) : (s.offerFault x).notice.queue = s.notice.queue := by
  unfold State.offerFault
  split <;> rfl

end Sys2Proof.Machine
end

section
/-! PROOFS. The frames closed at the receiver, by status and by destination (R33, R37 to R42, R55). -/

namespace Sys2Proof.Machine

open Sys2Proof.Safety

/-! ## A GOOD frame (R33, R39, R40, R42) -/

/-- A GOOD frame leaves the receiver as it is, whatever becomes of the frame. -/
theorem State.goodFrame_receiver (s : State) (t : Nat) (f : Frame) :
    (s.goodFrame t f).line.receiver = s.line.receiver := by
  by_cases hown : f.source = s.control.number
  · rw [State.goodFrame_of_own t hown]
    by_cases hknown : s.resp.duplicate = true
    · rw [State.duplicateFrame_of_known t f hknown]
    · rw [State.duplicateFrame_of_new t f hknown]
      obtain ⟨-, hreceiver, -⟩ :=
        State.haltWith_receptionKept (s.setResp { s.resp with duplicate := true }) t (s.duplicateReport f)
      exact hreceiver
  · rw [State.goodFrame_of_other t hown]
    unfold State.bufferFrame
    split
    · rfl
    split
    · split <;> simp [State.countLine]
    · rfl

end Sys2Proof.Machine

namespace Sys2Proof.Proofs

open Sys2Proof.Machine Sys2Proof.Safety

/-! ## A GOOD frame of another station -/

theorem goodFrame_buffered (s : State) (f : Frame) (hother : f.source ≠ s.control.number) (hdest : f.dest ≠ 0)
    (hours : s.control.recognises f.dest = true) (hroom : s.line.rx.length < 8) :
    (s.goodFrame s.now f).line.rx = s.line.rx ++ [⟨f, s.notice.now⟩]
      ∧ (s.goodFrame s.now f).line.counters
          = { s.line.counters with framesTaken := min 65535 (s.line.counters.framesTaken + 1) }
      ∧ (s.goodFrame s.now f).notice = s.notice := by
  rw [State.goodFrame_of_other _ hother, if_neg hdest, if_pos hours, State.bufferFrame_of_room _ f hroom]
  exact ⟨rfl, rfl, rfl⟩

theorem goodFrame_lost (s : State) (f : Frame) (hother : f.source ≠ s.control.number) (hdest : f.dest ≠ 0)
    (hours : s.control.recognises f.dest = true) (hfull : 8 ≤ s.line.rx.length) :
    (s.goodFrame s.now f).line.rx = s.line.rx
      ∧ (s.goodFrame s.now f).line.counters
          = { s.line.counters with rxOverrun := min 65535 (s.line.counters.rxOverrun + 1) }
      ∧ (s.notice.fault = none →
          ∃ r, (s.goodFrame s.now f).notice.fault = some r ∧ r.kind = .rxOverrun ∧ r.station = some f.source)
      ∧ (s.goodFrame s.now f).notice.queue = s.notice.queue := by
  rw [State.goodFrame_of_other _ hother, if_neg hdest, if_pos hours, State.bufferFrame_of_full _ f hfull]
  refine ⟨by simp [State.countLine], by simp [State.countLine, inc16, satAdd, top16], fun hfault => ?_,
    State.offerFault_queue _ _⟩
  obtain ⟨r, hr, hkind, -, -, hstation, -⟩ := State.offerFault_captures
    (s.countLine (fun k => { k with rxOverrun := inc16 k.rxOverrun }))
    { kind := .rxOverrun, time := s.now, station := some f.source, seg := none, detail := none } hfault
  exact ⟨r, hr, hkind, hstation⟩

theorem goodFrame_to_nobody (s : State) (f : Frame) (hother : f.source ≠ s.control.number) (hdest : f.dest = 0) :
    (s.goodFrame s.now f).line.rx = s.line.rx
      ∧ (s.goodFrame s.now f).line.counters
          = { s.line.counters with noStation := min 65535 (s.line.counters.noStation + 1) } := by
  rw [State.goodFrame_of_other _ hother, if_pos hdest]
  exact ⟨rfl, rfl⟩

theorem goodFrame_to_another (s : State) (f : Frame) (hother : f.source ≠ s.control.number) (hdest : f.dest ≠ 0)
    (hours : s.control.recognises f.dest = false) :
    (s.goodFrame s.now f).line.rx = s.line.rx ∧ (s.goodFrame s.now f).line.counters = s.line.counters := by
  rw [State.goodFrame_of_other _ hother, if_neg hdest, if_neg (by simp [hours])]
  exact ⟨rfl, rfl⟩

/-- A frame of another station changes the receive side and the notices alone. -/
theorem goodFrame_kept (s : State) (f : Frame) (hother : f.source ≠ s.control.number) :
    (s.goodFrame s.now f).line.tx = s.line.tx ∧ (s.goodFrame s.now f).claim = s.claim
      ∧ (s.goodFrame s.now f).control = s.control ∧ (s.goodFrame s.now f).cache = s.cache := by
  rw [State.goodFrame_of_other _ hother]
  split
  · exact ⟨rfl, rfl, rfl, rfl⟩
  split
  · unfold State.bufferFrame
    split <;> simp [State.countLine]
  · exact ⟨rfl, rfl, rfl, rfl⟩

/-! ## A frame under the own number -/

theorem goodFrame_duplicate (s : State) (f : Frame) (hown : f.source = s.control.number) :
    (s.goodFrame s.now f).line.rx = s.line.rx
      ∧ (s.goodFrame s.now f).line.counters.framesTaken = s.line.counters.framesTaken
      ∧ (s.goodFrame s.now f).resp.duplicate = true
      ∧ (s.resp.duplicate = true →
          (s.goodFrame s.now f).control = s.control ∧ (s.goodFrame s.now f).notice = s.notice
            ∧ (s.goodFrame s.now f).cache = s.cache)
      ∧ (s.resp.duplicate = false → s.control.state ≠ .setup →
          (s.goodFrame s.now f).control.state = .halted
          ∧ Cause.duplicateStation ∈ (s.goodFrame s.now f).control.causes
          ∧ (RoomFor s.notice .duplicateStation 1 →
              { Notice.plain .duplicateStation s.notice.now with
                station := some s.control.number, detail := some f.body.kind } ∈ (s.goodFrame s.now f).notice.queue)) := by
  rw [State.goodFrame_of_own _ hown]
  by_cases hknown : s.resp.duplicate = true
  · rw [State.duplicateFrame_of_known _ f hknown]
    exact ⟨rfl, rfl, hknown, fun _ => ⟨rfl, rfl, rfl⟩, fun hnew => by simp [hknown] at hnew⟩
  · rw [State.duplicateFrame_of_new _ f hknown]
    obtain ⟨hrx, -, htaken⟩ :=
      State.haltWith_receptionKept (s.setResp { s.resp with duplicate := true }) s.now (s.duplicateReport f)
    refine ⟨hrx, htaken, by simp, fun h => absurd h hknown, fun _ hs => ?_⟩
    obtain ⟨hhalted, hcause⟩ := State.haltWith_control (s := s.setResp { s.resp with duplicate := true }) s.now
      (s.duplicateReport f) hs
    exact ⟨hhalted, hcause, fun hroom =>
      State.haltWith_notice (s := s.setResp { s.resp with duplicate := true }) s.now (s.duplicateReport f) hroom⟩

/-! ## A frame of any other status -/

theorem closeFrame_of_judge (s : State) (t : Nat) (content : List Bool) :
    (judge content = .nothing → s.closeFrame t (.flag content) = s)
      ∧ (judge content = .tooShort →
          s.closeFrame t (.flag content) = s.countLine (fun k => { k with tooShort := inc16 k.tooShort }))
      ∧ (judge content = .crcBad →
          s.closeFrame t (.flag content) = s.countLine (fun k => { k with crcBad := inc16 k.crcBad }))
      ∧ (judge content = .malformed →
          s.closeFrame t (.flag content) = s.countLine (fun k => { k with malformed := inc16 k.malformed })) := by
  refine ⟨fun h => ?_, fun h => ?_, fun h => ?_, fun h => ?_⟩ <;> simp [State.closeFrame, h]

/-- Settles O53: a sent frame by what the station makes of it, the other closings by the counter of their status. -/
theorem closedFramesAreJudgedAndCounted : Obligations.ClosedFramesAreJudgedAndCounted := by
  refine ⟨fun s f bits hfits hsent htransmitter => ?_, fun s bits r c k hidle htake hk => ?_,
    fun data hlen => readFrame_eq_none_iff hlen, fun s bits f sent hsending => exec_frameClosed_sending bits hsending⟩
  · have hidle : ∀ f sent, s.line.transmitter ≠ .sending f sent := by
      intro g sent hsending
      obtain hidle | ⟨n, hbackoff⟩ := htransmitter
      · cases hidle.symm.trans hsending
      · cases hbackoff.symm.trans hsending
    exact ⟨_, exec_frameClosed_good hfits hidle hsent, s.afterFlag.goodFrame_receiver _ f, fun hother =>
      ⟨goodFrame_buffered s.afterFlag f hother, goodFrame_lost s.afterFlag f hother,
        goodFrame_to_nobody s.afterFlag f hother, goodFrame_to_another s.afterFlag f hother,
        goodFrame_kept s.afterFlag f hother⟩,
      goodFrame_duplicate s.afterFlag f⟩
  · subst hk
    rw [exec_frameClosed hidle htake, List.foldl_cons, List.foldl_nil]
    refine ⟨fun hc => by subst hc; rfl, fun hc => by subst hc; rfl, fun content hc => ?_⟩
    subst hc
    obtain ⟨hnothing, hshort, hcrc, hmalformed⟩ :=
      closeFrame_of_judge (s.setLine { s.line with receiver := r }) s.now content
    refine ⟨fun hempty => ?_, fun hne hlen => ?_, fun hlen => ⟨fun hbad => ?_, fun data hcontent hwrong => ?_⟩⟩
    · rw [hnothing (by subst hempty; rfl)]
    · rw [hshort (judge_of_short hne hlen)]; rfl
    · have hjudge : judge content = .crcBad := by
        obtain hragged | ⟨data, lo, hi, rfl, hcheck⟩ := hbad
        · exact judge_of_ragged hlen hragged
        · exact judge_of_bad_check (by simp [bitsOf_length] at hlen; omega) hcheck
      rw [hcrc hjudge]; rfl
    · have hjudge : judge content = .malformed := by
        subst hcontent
        exact judge_of_wrong_fields (by simp [bitsOf_length, bytes2_length] at hlen; omega) hwrong
      rw [hmalformed hjudge]; rfl

end Sys2Proof.Proofs
end

section
/-! PROOFS. The transmit queue within its limits (R44 to R48): what removing, merging and admitting entries keep of it;
and the ages of the cache's entries (R115). -/

-- One declaration at a time: side by side they need more threads than the check's memory holds.
set_option Elab.async false

namespace Sys2Proof.Machine

open Sys2Proof.Safety

/-! ## The transmit queue -/

/-- The limits of the transmit queue (R44 to R46), with a name for each. -/
structure TxFits (q : List TxEntry) : Prop where
  length : q.length ≤ 24
  beacons : countKind q 1 ≤ 1
  claims : countKind q 2 ≤ 1
  enquiries : countKind q 6 ≤ 3
  relays : countKind q 7 ≤ 6
  formless : ∀ e ∈ q, e.kind = 1 → e.content = .beacon

theorem countKind_eq_count (q : List TxEntry) (k : Nat) : countKind q k = (q.map TxEntry.kind).count k := by
  rw [countKind, List.count, List.countP_map]; rfl

theorem countKind_append (q r : List TxEntry) (k : Nat) : countKind (q ++ r) k = countKind q k + countKind r k :=
  List.countP_append

theorem countKind_singleton (e : TxEntry) (k : Nat) : countKind [e] k = if e.kind = k then 1 else 0 := by
  simp [countKind, List.countP_cons]

/-- The newest entry of a class that is not in flight leaves as one entry, the others standing as they were (R47). -/
theorem dropNewest_sublist (q : List TxEntry) (cls : Nat) : (dropNewest q cls).Sublist q := by
  have h := (List.eraseP_sublist (p := fun e : TxEntry => e.class == cls && !e.inFlight) (l := q.reverse)).reverse
  rwa [List.reverse_reverse] at h

theorem length_dropNewest {q : List TxEntry} {cls : Nat} {e : TxEntry} (h : newestOf q cls = some e) :
    (dropNewest q cls).length = q.length - 1 := by
  rw [dropNewest, List.length_reverse, List.length_eraseP_of_mem (List.mem_of_find?_eq_some h) (List.find?_some h),
    List.length_reverse]

/-- A frame merges with one of its own kind alone (R45). -/
theorem kind_of_mergesWith {dest : Nat} {content : TxContent} {e : TxEntry} (h : mergesWith dest content e = true) :
    content.kind = e.kind := by
  unfold mergesWith at h
  split at h <;> simp_all [TxEntry.kind, TxContent.kind, Body.kind]

/-- Only a CLAIM has the kind of a CLAIM. -/
theorem TxContent.eq_claim_of_kind {content : TxContent} (h : content.kind = 2) :
    ∃ number round urgency waited segs, content = .fixed (.claim number round urgency waited segs) := by
  match content, h with
  | .fixed (.claim number round urgency waited segs), _ => exact ⟨number, round, urgency, waited, segs, rfl⟩

/-- A CLAIM that merges with no entry finds none in the queue (R45). -/
theorem no_claim_of_unmerged {q : List TxEntry} {dest : Nat} {content : TxContent} (hkind : content.kind = 2)
    (h : ¬q.any (mergesWith dest content) = true) : countKind q 2 = 0 := by
  rw [countKind, List.countP_eq_zero]
  intro e he hclaim
  obtain ⟨_, _, _, _, _, rfl⟩ := TxContent.eq_claim_of_kind hkind
  obtain ⟨_, _, _, _, _, heq⟩ := TxContent.eq_claim_of_kind (beq_iff_eq.1 hclaim)
  exact h (List.any_eq_true.2 ⟨e, he, by simp [mergesWith, heq]⟩)

namespace TxFits

variable {q r : List TxEntry}

theorem nil : TxFits [] := by constructor <;> simp [countKind]

theorem of_kinds (h : TxFits q) (hkinds : (r.map TxEntry.kind).Sublist (q.map TxEntry.kind))
    (hformless : ∀ e ∈ r, e.kind = 1 → e.content = .beacon) : TxFits r := by
  have hcount (k : Nat) : countKind r k ≤ countKind q k := by
    simpa only [countKind_eq_count] using hkinds.count_le k
  exact ⟨(by simpa using hkinds.length_le : r.length ≤ q.length).trans h.length, (hcount 1).trans h.beacons,
    (hcount 2).trans h.claims, (hcount 6).trans h.enquiries, (hcount 7).trans h.relays, hformless⟩

/-- Entries that leave the queue leave it within its limits. -/
theorem sublist (h : TxFits q) (hr : r.Sublist q) : TxFits r :=
  h.of_kinds (hr.map _) (fun e he => h.formless e (hr.subset he))

/-- The marks and counts of entries may change freely: their contents stand. -/
theorem of_contents (h : TxFits q) (hr : r.map TxEntry.content = q.map TxEntry.content) : TxFits r := by
  have hkinds (l : List TxEntry) : l.map TxEntry.kind = (l.map TxEntry.content).map TxContent.kind := by
    rw [List.map_map]; rfl
  refine h.of_kinds (by rw [hkinds, hkinds, hr]) (fun e he hk => ?_)
  obtain ⟨d, hd, heq⟩ := List.mem_map.1 (hr ▸ List.mem_map_of_mem he : e.content ∈ q.map TxEntry.content)
  rw [← heq]
  exact h.formless d hd (by rw [TxEntry.kind, heq]; exact hk)

/-- An entry replaced by one of its content keeps the queue within its limits. -/
theorem set (h : TxFits q) {i : Nat} {e f : TxEntry} (he : q[i]? = some e) (hf : f.content = e.content) :
    TxFits (q.set i f) := by
  obtain ⟨hi, rfl⟩ := List.getElem?_eq_some_iff.1 he
  refine h.of_contents ?_
  have hcontent : f.content = (q.map TxEntry.content)[i]'(by simpa using hi) := by rw [List.getElem_map, hf]
  rw [List.map_set, hcontent, List.set_getElem_self]

theorem map (h : TxFits q) {f : TxEntry → TxEntry} (hf : ∀ e, (f e).content = e.content) : TxFits (q.map f) :=
  h.of_contents (by rw [List.map_map]; exact List.map_congr_left (fun e _ => hf e))

/-- A CLAIM leaves the queue or is marked as removed (R48). -/
theorem removeClaim (h : TxFits q) : TxFits (removeClaim q) :=
  (h.sublist List.filter_sublist).map (fun e => by split <;> rfl)

/-- A merge puts a content in the place of one of its kind (R45). -/
theorem merge (h : TxFits q) {content : TxContent} (hbeacon : content.kind = 1 → content = .beacon) (dest : Nat) :
    TxFits (q.map (fun e => if mergesWith dest content e then { e with content := content } else e)) := by
  have hkinds : (q.map (fun e => if mergesWith dest content e then { e with content := content } else e)).map
      TxEntry.kind = q.map TxEntry.kind := by
    rw [List.map_map]
    refine List.map_congr_left (fun e _ => ?_)
    dsimp only [Function.comp]
    split
    next hmerge => exact kind_of_mergesWith hmerge
    · rfl
  refine h.of_kinds (by rw [hkinds]) (fun e he hk => ?_)
  obtain ⟨d, hd, rfl⟩ := List.mem_map.1 he
  by_cases hmerge : mergesWith dest content d = true
  · rw [if_pos hmerge] at hk ⊢
    exact hbeacon hk
  · rw [if_neg hmerge] at hk ⊢
    exact h.formless d hd hk

/-- A BEACON that merges with no entry finds none in the queue (R45). -/
theorem no_beacon_of_unmerged (h : TxFits q) {dest : Nat} (hmerge : ¬q.any (mergesWith dest .beacon) = true) :
    countKind q 1 = 0 := by
  rw [countKind, List.countP_eq_zero]
  intro e he hbeacon
  exact hmerge (List.any_eq_true.2 ⟨e, he, by simp [mergesWith, h.formless e he (beq_iff_eq.1 hbeacon)]⟩)

/-- An entry joins the queue where there is room for it and for one of its kind (R44, R46). -/
theorem enqueue (h : TxFits q) {e : TxEntry} (hroom : q.length < 24)
    (hbeacon : e.kind = 1 → e.content = .beacon ∧ countKind q 1 = 0) (hclaim : e.kind = 2 → countKind q 2 = 0)
    (henquire : e.kind = 6 → countKind q 6 < 3) (hrelay : e.kind = 7 → countKind q 7 < 6) : TxFits (q ++ [e]) := by
  obtain ⟨-, hbeacons, hclaims, henquiries, hrelays, hformless⟩ := h
  have hcount {k limit : Nat} (hold : countKind q k ≤ limit) (hnew : e.kind = k → countKind q k < limit) :
      countKind (q ++ [e]) k ≤ limit := by
    rw [countKind_append, countKind_singleton]
    split
    next hk => exact hnew hk
    · exact hold
  refine ⟨by simpa using hroom, hcount hbeacons (fun hk => by simp [hbeacon hk]), hcount hclaims (fun hk => by simp [hclaim hk]),
    hcount henquiries henquire, hcount hrelays hrelay, fun d hd hk => ?_⟩
  obtain hd | hd := List.mem_append.1 hd
  · exact hformless d hd hk
  · obtain rfl := List.mem_singleton.1 hd
    exact (hbeacon hk).1

end TxFits

/-! ## The ages of cache entries -/

/-- Every age of the cache within 0..65535 (R115). -/
def AgesFit (ways : Table CacheEntry) : Prop := ∀ w ∈ ways, w.2.age ≤ 65535

namespace AgesFit

variable {ways : Table CacheEntry}

theorem insert (h : AgesFit ways) (k : Nat) {e : CacheEntry} (he : e.age ≤ 65535) : AgesFit (Table.insert ways k e) :=
  fun w hw => (Table.mem_insert ways k e w hw).elim (fun heq => heq ▸ he) (h w)

theorem erase (h : AgesFit ways) (k : Nat) : AgesFit (Table.erase ways k) :=
  fun w hw => h w (List.mem_of_mem_filter hw)

theorem of_findEntry (h : AgesFit ways) {seg k : Nat} {e : CacheEntry} (he : findEntry ways seg = some (k, e)) :
    e.age ≤ 65535 :=
  h (k, e) (List.mem_of_find?_eq_some he)

theorem of_find (h : AgesFit ways) {k : Nat} {e : CacheEntry} (he : Table.find ways k = some e) : e.age ≤ 65535 := by
  induction ways with
  | nil => cases he
  | cons w ways ih =>
    obtain ⟨hw, hways⟩ := List.forall_mem_cons.1 h
    unfold Table.find at he
    split at he
    · cases he; exact hw
    · exact ih hways he

/-- A tag that leaves the pins leaves the age of an entry as it is (R125). -/
theorem unpin (h : AgesFit ways) (tag : Nat) (p : Nat → Bool) : AgesFit (ways.filterMap (unpinEntry tag p)) := by
  intro w hw
  obtain ⟨v, hv, hpin⟩ := List.mem_filterMap.1 hw
  have hage : v.2.age ≤ 65535 := h v hv
  simp only [unpinEntry] at hpin
  split at hpin
  · split at hpin <;> cases hpin
    exact hage
  · cases hpin; exact hage

/-- A ms raises an age to its top value at most (R123). -/
theorem tick (h : AgesFit ways) (limit : Nat) : AgesFit (ways.map (fun w => (w.1, w.2.tick limit))) := by
  intro w hw
  obtain ⟨v, hv, rfl⟩ := List.mem_map.1 hw
  dsimp only [CacheEntry.tick]
  split
  · exact inc16_le _
  · exact inc16_le _
  · exact h v hv

end AgesFit

/-- The cache's counts and ages within their top values (R115, R129). -/
structure CacheFits (c : PeerCache) : Prop where
  full : c.full ≤ 65535
  refused : c.refused ≤ 65535
  ages : AgesFit c.ways

namespace CacheFits

variable {c : PeerCache}

theorem refusePin (h : CacheFits c) : CacheFits c.refusePin := { h with refused := inc16_le _ }

theorem pin (h : CacheFits c) (tag seg : Nat) : CacheFits (c.pin tag seg) := by
  unfold PeerCache.pin
  split
  next he =>
    split
    · exact h
    split
    · exact h.refusePin
    · exact { h with ages := h.ages.insert _ (h.ages.of_findEntry he :) }
  · split
    · exact h.refusePin
    split
    · exact { h with ages := h.ages.insert _ (Nat.zero_le _) }
    · exact h.refusePin

theorem pinPath (h : CacheFits c) (tag : Nat) (path : List Nat) : CacheFits (c.pinPath tag path) := by
  have hpins (l : List Nat) (d : PeerCache) (hd : CacheFits d) : CacheFits (l.foldl (fun d seg => d.pin tag seg) d) := by
    induction l generalizing d with
    | nil => exact hd
    | cons seg l ih => exact ih _ (hd.pin tag seg)
  exact hpins path _ { h with ages := h.ages.unpin tag _ }

end CacheFits

end Sys2Proof.Machine
end

section
/-! PROOFS. The bounds of queues and counters (R11, R42, R44 to R46, R55, R64, R84, R95, R115, R129, R150, R175, R187,
R191) through one block replaced, and through the operations of the notices, the line, the claim record and the cache. -/

-- One declaration at a time: side by side they need more threads than the check's memory holds.
set_option Elab.async false

namespace Sys2Proof.Machine

open Sys2Proof.Safety

/-- The notices' counts within their top values and the time stamp below 2^32 (R186, R187, R191). -/
structure NoticeCountsFit (u : NoticeUnit) : Prop where
  lost : u.lost ≤ 255
  further : ∀ r ∈ u.fault.toList, r.further ≤ 255
  now : u.now < 2 ^ 32

/-- Every counter of the line within its top value, with a name for each bound (R55). -/
structure TalliesFit (k : LineCounters) : Prop where
  crcBad : k.crcBad ≤ 65535
  aborted : k.aborted ≤ 65535
  tooLong : k.tooLong ≤ 65535
  tooShort : k.tooShort ≤ 65535
  malformed : k.malformed ≤ 65535
  noStation : k.noStation ≤ 65535
  rxOverrun : k.rxOverrun ≤ 65535
  framesTaken : k.framesTaken ≤ 65535
  framesSent : k.framesSent ≤ 65535
  collisions : k.collisions ≤ 65535
  lineFail : k.lineFail ≤ 65535
  txDropped : k.txDropped ≤ 65535

theorem talliesFit_iff (k : LineCounters) : TalliesFit k ↔ LineCountersFit k :=
  ⟨fun ⟨crc, aborted, long, short, malformed, station, overrun, taken, sent, collisions, fail, dropped⟩ =>
      ⟨crc, aborted, long, short, malformed, station, overrun, taken, sent, collisions, fail, dropped⟩,
    fun ⟨crc, aborted, long, short, malformed, station, overrun, taken, sent, collisions, fail, dropped⟩ =>
      ⟨crc, aborted, long, short, malformed, station, overrun, taken, sent, collisions, fail, dropped⟩⟩

theorem talliesFit_zero : TalliesFit .zero := (talliesFit_iff _).2 (by decide)

/-- The line's counters and its run of discards within their top values (R51, R55). -/
structure LineCountsFit (l : LaneLine) : Prop where
  tallies : TalliesFit l.counters
  discards : l.discards ≤ 255

/-- The claim number counter and the waited counter within their top values (R64, R84). -/
abbrev ClaimCountsFit (c : ClaimEngine) : Prop := c.counter ≤ 255 ∧ c.waited ≤ 65535

/-- The port's counters within their top values (R175). -/
abbrev PortCountsFit (p : HostPort) : Prop := p.overwritten ≤ 65535 ∧ p.discarded ≤ 65535 ∧ p.framing ≤ 65535

/-- Every order's activations within 0..255 (R150). -/
abbrev ActivationsFit (q : OrderQueue) : Prop := ∀ o ∈ q.list, o.activations ≤ 255

/-- `t` is within every bound that `s` is within, block by block; the waited counter and the cache's ages need the
parameters of `s` in their ranges, since two events set them by the wait limit and the staleness limit (R112, R123). -/
structure BoundsKept (s t : State) : Prop where
  rx : s.line.rx.length ≤ 8 → t.line.rx.length ≤ 8
  tx : TxFits s.line.tx → TxFits t.line.tx
  notices : s.notice.queue.length ≤ 32 → t.notice.queue.length ≤ 32
  conflicts : s.resp.conflicts.length ≤ 32 → t.resp.conflicts.length ≤ 32
  lineCounts : LineCountsFit s.line → LineCountsFit t.line
  noticeCounts : NoticeCountsFit s.notice → NoticeCountsFit t.notice
  portCounts : PortCountsFit s.port → PortCountsFit t.port
  pulses : s.pos.pulses ≤ 65535 → t.pos.pulses ≤ 65535
  activations : ActivationsFit s.orders → ActivationsFit t.orders
  claimCounts : ParamsInRange s.params → ClaimCountsFit s.claim → ClaimCountsFit t.claim
  cache : ParamsInRange s.params → CacheFits s.cache → CacheFits t.cache

theorem queuesBounded_iff (s : State) : QueuesBounded s ↔ s.line.rx.length ≤ 8 ∧ TxFits s.line.tx
    ∧ s.notice.queue.length ≤ 32 ∧ s.resp.conflicts.length ≤ 32 :=
  ⟨fun ⟨hrx, hlen, hbeacons, hclaims, henquiries, hrelays, hnotices, hconflicts, hformless⟩ =>
      ⟨hrx, ⟨hlen, hbeacons, hclaims, henquiries, hrelays, hformless⟩, hnotices, hconflicts⟩,
    fun ⟨hrx, ⟨hlen, hbeacons, hclaims, henquiries, hrelays, hformless⟩, hnotices, hconflicts⟩ =>
      ⟨hrx, hlen, hbeacons, hclaims, henquiries, hrelays, hnotices, hconflicts, hformless⟩⟩

theorem countersFit_iff (s : State) : CountersFit s ↔ LineCountsFit s.line ∧ NoticeCountsFit s.notice
    ∧ PortCountsFit s.port ∧ s.pos.pulses ≤ 65535 ∧ ActivationsFit s.orders ∧ ClaimCountsFit s.claim
    ∧ CacheFits s.cache :=
  ⟨fun ⟨hline, hdiscards, hfull, hrefused, hover, hdiscarded, hframing, hlost, hfurther, hpulses, hnow, hnumber, hwaited,
        horders, hages⟩ =>
      ⟨⟨(talliesFit_iff _).2 hline, hdiscards⟩, ⟨hlost, hfurther, hnow⟩, ⟨hover, hdiscarded, hframing⟩, hpulses, horders, ⟨hnumber, hwaited⟩,
        ⟨hfull, hrefused, hages⟩⟩,
    fun ⟨⟨hline, hdiscards⟩, ⟨hlost, hfurther, hnow⟩, ⟨hover, hdiscarded, hframing⟩, hpulses, horders, ⟨hnumber, hwaited⟩,
        ⟨hfull, hrefused, hages⟩⟩ =>
      ⟨(talliesFit_iff _).1 hline, hdiscards, hfull, hrefused, hover, hdiscarded, hframing, hlost, hfurther, hpulses, hnow, hnumber, hwaited,
        horders, hages⟩⟩

namespace BoundsKept

variable {s₀ s t : State}

theorem refl (s : State) : BoundsKept s s := ⟨id, id, id, id, id, id, id, id, id, fun _ => id, fun _ => id⟩

theorem queuesBounded (h : BoundsKept s t) (hs : QueuesBounded s) : QueuesBounded t := by
  rw [queuesBounded_iff] at hs ⊢
  obtain ⟨hrx, htx, hnotices, hconflicts⟩ := hs
  exact ⟨h.rx hrx, h.tx htx, h.notices hnotices, h.conflicts hconflicts⟩

theorem countersFit (h : BoundsKept s t) (hp : ParamsInRange s.params) (hs : CountersFit s) : CountersFit t := by
  rw [countersFit_iff] at hs ⊢
  obtain ⟨hline, hnotice, hport, hpulses, horders, hclaim, hcache⟩ := hs
  exact ⟨h.lineCounts hline, h.noticeCounts hnotice, h.portCounts hport, h.pulses hpulses, h.activations horders,
    h.claimCounts hp hclaim, h.cache hp hcache⟩

/-! ## One block replaced

A bound that a replacement leaves as it was needs no argument. -/

theorem setLine {l : LaneLine} (h : BoundsKept s₀ s) (hrx : s.line.rx.length ≤ 8 → l.rx.length ≤ 8 := by exact id)
    (htx : TxFits s.line.tx → TxFits l.tx := by exact id)
    (htallies : TalliesFit s.line.counters → TalliesFit l.counters := by exact id)
    (hdiscards : s.line.discards ≤ 255 → l.discards ≤ 255 := by exact id) : BoundsKept s₀ (s.setLine l) :=
  { h with rx := hrx ∘ h.rx, tx := htx ∘ h.tx, lineCounts := fun hs => ⟨htallies (h.lineCounts hs).tallies, hdiscards (h.lineCounts hs).discards⟩ }

theorem setNotice {u : NoticeUnit} (h : BoundsKept s₀ s)
    (hqueue : s.notice.queue.length ≤ 32 → u.queue.length ≤ 32 := by exact id)
    (hcounts : NoticeCountsFit s.notice → NoticeCountsFit u := by exact fun ⟨hlost, hfurther, hnow⟩ => ⟨hlost, hfurther, hnow⟩) :
    BoundsKept s₀ (s.setNotice u) :=
  { h with notices := hqueue ∘ h.notices, noticeCounts := hcounts ∘ h.noticeCounts }

theorem setResp {u : LaneResponder} (h : BoundsKept s₀ s)
    (hconflicts : s.resp.conflicts.length ≤ 32 → u.conflicts.length ≤ 32 := by exact id) :
    BoundsKept s₀ (s.setResp u) :=
  { h with conflicts := hconflicts ∘ h.conflicts }

theorem setPort {p : HostPort} (h : BoundsKept s₀ s) (hcounts : PortCountsFit s.port → PortCountsFit p := by exact id) :
    BoundsKept s₀ (s.setPort p) :=
  { h with portCounts := hcounts ∘ h.portCounts }

theorem setPos {p : PositionUnit} (h : BoundsKept s₀ s)
    (hpulses : s.pos.pulses ≤ 65535 → p.pulses ≤ 65535 := by exact id) : BoundsKept s₀ (s.setPos p) :=
  { h with pulses := hpulses ∘ h.pulses }

theorem setOrders {q : OrderQueue} (h : BoundsKept s₀ s)
    (hactivations : ActivationsFit s.orders → ActivationsFit q := by exact id) : BoundsKept s₀ (s.setOrders q) :=
  { h with activations := hactivations ∘ h.activations }

theorem setClaim {c : ClaimEngine} (h : BoundsKept s₀ s)
    (hcounts : ClaimCountsFit s.claim → ClaimCountsFit c := by exact id) : BoundsKept s₀ (s.setClaim c) :=
  { h with claimCounts := fun hp hs => hcounts (h.claimCounts hp hs) }

theorem setCache {c : PeerCache} (h : BoundsKept s₀ s) (hcache : CacheFits s.cache → CacheFits c) :
    BoundsKept s₀ (s.setCache c) :=
  { h with cache := fun hp hs => hcache (h.cache hp hs) }

theorem setControl (h : BoundsKept s₀ s) (c : Control) : BoundsKept s₀ (s.setControl c) := { h with }
theorem setMotion (h : BoundsKept s₀ s) (m : Motion) : BoundsKept s₀ (s.setMotion m) := { h with }
theorem setLift (h : BoundsKept s₀ s) (u : LiftUnit) : BoundsKept s₀ (s.setLift u) := { h with }
theorem setPins (h : BoundsKept s₀ s) (p : Pins) : BoundsKept s₀ (s.setPins p) := { h with }
theorem setParams (h : BoundsKept s₀ s) (p : Params) : BoundsKept s₀ (s.setParams p) := { h with }
theorem setPhase (h : BoundsKept s₀ s) (n : Nat) : BoundsKept s₀ (s.setPhase n) := { h with }
theorem setPending (h : BoundsKept s₀ s) (q : List Instr) : BoundsKept s₀ (s.setPending q) := { h with }

/-- What each step of a fold keeps bounded, the fold keeps bounded. -/
theorem foldl {α : Type} {f : State → α → State} (h : BoundsKept s₀ s)
    (hf : ∀ u x, BoundsKept s₀ u → BoundsKept s₀ (f u x)) (l : List α) : BoundsKept s₀ (l.foldl f s) := by
  induction l generalizing s with
  | nil => exact h
  | cons x l ih => exact ih (hf s x h)

/-! ## Notices, faults, replies and the reckoning run -/

theorem raise (h : BoundsKept s₀ s) (n : Notice) : BoundsKept s₀ (s.raise n) := by
  unfold State.raise
  obtain heq | ⟨hroom, heq⟩ | ⟨-, heq⟩ := NoticeUnit.raise_cases s.notice n <;> rw [heq]
  · exact h
  · exact h.setNotice (hqueue := fun _ => by simpa using hroom)
  · exact h.setNotice (hcounts := fun hu => { hu with lost := satAdd_le _ _ _ })

theorem offerFault (h : BoundsKept s₀ s) (f : FaultOffer) : BoundsKept s₀ (s.offerFault f) := by
  unfold State.offerFault
  split
  · exact h.setNotice (hcounts := fun hu => { hu with further := by simpa using satAdd_le _ _ _ })
  · exact h.setNotice (hcounts := fun hu => { hu with further := by simp })

theorem placeReply (h : BoundsKept s₀ s) (r : Reply) : BoundsKept s₀ (s.placeReply r) := by
  refine h.setPort (fun ⟨hover, hdiscarded, hframing⟩ => ⟨?_, hdiscarded, hframing⟩)
  have hcounted (lost : Bool) : (if lost = true then inc16 s.port.overwritten else s.port.overwritten) ≤ 65535 := by
    split
    · exact inc16_le _
    · exact hover
  exact hcounted _

theorem chooseExpected (h : BoundsKept s₀ s) : BoundsKept s₀ s.chooseExpected := h.setPos

theorem runChanged (h : BoundsKept s₀ s) (before : List Nat) : BoundsKept s₀ (s.runChanged before) := by
  unfold State.runChanged
  split
  · exact h
  · exact h.chooseExpected

theorem dropCause (h : BoundsKept s₀ s) (c : Cause) : BoundsKept s₀ (s.dropCause c) := h.setControl _

theorem askStop (h : BoundsKept s₀ s) (m : StopMember) : BoundsKept s₀ (s.askStop m) := h.setMotion _

theorem withdrawStop (h : BoundsKept s₀ s) (m : StopMember) : BoundsKept s₀ (s.withdrawStop m) := h.setMotion _

/-! ## The line -/

theorem dropFrame (h : BoundsKept s₀ s) : BoundsKept s₀ s.dropFrame :=
  h.setLine (htallies := fun hk => { hk with txDropped := inc16_le _ })

/-- A full queue displaces one entry and takes another (R47). -/
theorem displace_enqueue (h : BoundsKept s₀ s) {cls : Nat} {e : TxEntry} (he : newestOf s.line.tx cls = some e)
    {content : TxContent} (hcontent : kindClass content.kind = 0 ∨ kindClass content.kind = 1) {dest : Nat}
    (hmerge : ¬s.line.tx.any (mergesWith dest content) = true) (t : Nat) :
    BoundsKept s₀ ((s.displace t cls e).enqueue dest content) := by
  have hline : (s.displace t cls e).line = { s.line.countDropped with tx := dropNewest s.line.tx cls } := by
    simp only [State.displace]; split <;> simp
  have hdisplaced : BoundsKept s₀ (s.displace t cls e) := by
    have hdropped : BoundsKept s₀ (s.setLine { s.line.countDropped with tx := dropNewest s.line.tx cls }) :=
      h.setLine (htx := fun hq => hq.sublist (dropNewest_sublist _ _))
        (htallies := fun hk => { hk with txDropped := inc16_le _ })
    simp only [State.displace]
    split
    · exact hdropped.raise _
    · exact hdropped
  have hkind (k : Nat) (hk : k = 1 ∨ k = 6 ∨ k = 7) (heq : content.kind = k) : False := by
    obtain rfl | rfl | rfl := hk <;> simp [kindClass, heq] at hcontent
  refine { hdisplaced with
    tx := fun hs => ?_
    lineCounts := fun hs => ⟨(hdisplaced.lineCounts hs).tallies, (hdisplaced.lineCounts hs).discards⟩ }
  have hq := h.tx hs
  have hlen := hq.length
  have hpos := List.length_pos_of_mem (List.mem_reverse.1 (List.mem_of_find?_eq_some he))
  simp only [State.enqueue, State.setLine_line, hline]
  refine (hq.sublist (dropNewest_sublist _ _)).enqueue (by rw [length_dropNewest he]; omega)
    (fun hk => (hkind 1 (by simp) hk).elim) (fun hk => ?_) (fun hk => (hkind 6 (by simp) hk).elim)
    (fun hk => (hkind 7 (by simp) hk).elim)
  exact Nat.le_zero.1 ((dropNewest_sublist s.line.tx cls).countP_le.trans (no_claim_of_unmerged hk hmerge).le)

/-- A frame offered to the transmit queue: a BEACON without its content, a RELAY where there is room for it. -/
theorem offer (h : BoundsKept s₀ s) (t dest : Nat) {content : TxContent}
    (hbeacon : content.kind = 1 → content = .beacon) (hrelay : content.kind = 7 → countKind s.line.tx 7 < 6) :
    BoundsKept s₀ (s.offer t dest content).1 := by
  unfold State.offer
  split
  · exact h.setLine (htx := fun hq => hq.merge hbeacon dest)
  next hmerge =>
    split
    · exact h.dropFrame
    next henquire =>
      split
      next hroom =>
        refine h.setLine (htx := fun hq => hq.enqueue hroom (fun hk => ?_) (fun hk => no_claim_of_unmerged hk hmerge)
          (fun hk => by simpa [show content.kind = 6 from hk] using henquire) hrelay)
        obtain rfl := hbeacon hk
        exact ⟨rfl, hq.no_beacon_of_unmerged hmerge⟩
      split
      next hclass =>
        split
        next he => exact h.displace_enqueue he hclass hmerge t
        split
        next he => exact h.displace_enqueue he hclass hmerge t
        · exact h.dropFrame.offerFault _
      split
      · exact h.dropFrame
      · exact h

theorem offerBeacon (h : BoundsKept s₀ s) (t : Nat) : BoundsKept s₀ (s.offerBeacon t) :=
  h.offer t 255 (fun _ => rfl) nofun

/-- A body is sent that is neither a BEACON's, which is formed later, nor a RELAY's. -/
theorem send (h : BoundsKept s₀ s) (t dest : Nat) {body : Body} (hbeacon : body.kind ≠ 1 := by simp [Body.kind])
    (hrelay : body.kind ≠ 7 := by simp [Body.kind]) : BoundsKept s₀ (s.send t dest body) :=
  h.offer t dest (fun hk => absurd hk hbeacon) (fun hk => absurd hk hrelay)

/-! ## The claim record -/

theorem toIdle (h : BoundsKept s₀ s) : BoundsKept s₀ s.toIdle := by
  simp only [State.toIdle]
  split
  · exact h.setClaim.withdrawStop _
  · exact h.setClaim

/-- A wait on another segment starts the waited counter again (R84). -/
theorem countFor_counts {c : ClaimEngine} (h : ClaimCountsFit c) (seg : Nat) : ClaimCountsFit (c.countFor seg) := by
  unfold ClaimEngine.countFor
  split
  · exact h
  · exact ⟨h.1, Nat.zero_le _⟩

theorem enterBlocked (h : BoundsKept s₀ s) (seg holder : Nat) : BoundsKept s₀ (s.enterBlocked seg holder) :=
  h.setClaim (fun hs => countFor_counts hs seg)

theorem enterContested (h : BoundsKept s₀ s) (seg : Nat) (rival : Rival) : BoundsKept s₀ (s.enterContested seg rival) :=
  h.setClaim (fun hs => countFor_counts hs seg)

theorem askRemoval (h : BoundsKept s₀ s) (owed : Bool) : BoundsKept s₀ (s.askRemoval owed) := by
  have hremoved : BoundsKept s₀ (s.setLine { s.line with tx := removeClaim s.line.tx }) :=
    h.setLine (htx := TxFits.removeClaim)
  simp only [State.askRemoval]
  split
  · exact hremoved.setClaim
  · exact hremoved

theorem sendWithdraw (h : BoundsKept s₀ s) (t number : Nat) : BoundsKept s₀ (s.sendWithdraw t number) := h.send t 255

theorem endClaim (h : BoundsKept s₀ s) (t : Nat) : BoundsKept s₀ (s.endClaim t) := by
  unfold State.endClaim
  split
  · exact (h.askRemoval true).toIdle
  · exact ((h.askRemoval false).sendWithdraw t _).toIdle
  · exact (h.sendWithdraw t _).toIdle
  · exact (h.sendWithdraw t _).toIdle
  all_goals exact h

theorem abandonClaim (h : BoundsKept s₀ s) (t : Nat) : BoundsKept s₀ (s.abandonClaim t) := (h.endClaim t).toIdle

theorem claimUndelivered (h : BoundsKept s₀ s) (t : Nat) : BoundsKept s₀ (s.claimUndelivered t) := by
  unfold State.claimUndelivered
  split
  · exact h.toIdle
  · exact h.toIdle.sendWithdraw t _
  all_goals exact h

theorem offerClaim (h : BoundsKept s₀ s) (t : Nat) : BoundsKept s₀ (s.offerClaim t) := by
  have hoffered : BoundsKept s₀ _ := h.send t 255 (body := .claim s.claim.record.number s.claim.record.round
    s.claim.record.urgency s.claim.record.waited s.claim.record.segs)
  simp only [State.offerClaim]
  split
  · exact hoffered
  · exact hoffered.claimUndelivered t

theorem fileReport (h : BoundsKept s₀ s) (x : Nat) (r : PeerReport) : BoundsKept s₀ (s.fileReport x r) := h.setClaim

theorem cacheReport (h : BoundsKept s₀ s) (seg holder : Nat) : BoundsKept s₀ (s.cacheReport seg holder) := by
  unfold State.cacheReport
  split
  · exact h.toIdle
  · exact h

theorem cacheReportAny (h : BoundsKept s₀ s) (seg : Nat) : BoundsKept s₀ (s.cacheReportAny seg) := by
  unfold State.cacheReportAny
  split
  · exact h.toIdle
  · exact h

theorem giveBack (h : BoundsKept s₀ s) (t : Nat) (segs : List Nat) : BoundsKept s₀ (s.giveBack t segs) := by
  unfold State.giveBack
  split
  · exact h
  · exact send h.setClaim t 255

theorem releaseReserved (h : BoundsKept s₀ s) (t : Nat) : BoundsKept s₀ (s.releaseReserved t) := by
  unfold State.releaseReserved
  split
  · exact h
  · exact (h.giveBack t _).chooseExpected

/-! ## The cache -/

theorem setWays {w : Table CacheEntry} (h : BoundsKept s₀ s) (hw : AgesFit s.cache.ways → AgesFit w) :
    BoundsKept s₀ (s.setWays w) :=
  h.setCache (fun hc => { hc with ages := hw hc.ages })

theorem writeHolding (h : BoundsKept s₀ s) (seg x : Nat) (mark : Mark) (source : Source) (barred : List Nat) :
    BoundsKept s₀ (s.writeHolding seg x mark source barred) := by
  simp only [State.writeHolding]
  split
  next k e _ =>
    have hwritten : BoundsKept s₀ (s.setWays (Table.insert s.cache.ways k
        { e with holder := x, mark := some mark, status := .held, age := 0, source := some source })) :=
      h.setWays (fun hw => hw.insert k (Nat.zero_le _))
    split
    · exact hwritten.cacheReport _ _
    · exact hwritten
  · split
    · exact h.setWays (fun hw => hw.insert _ (Nat.zero_le _))
    · exact h.setCache (fun hc => { hc with full := inc16_le _ })

theorem freeWay (h : BoundsKept s₀ s) (source : Option Source) (k : Nat) : BoundsKept s₀ (s.freeWay source k) := by
  simp only [State.freeWay]
  split
  · exact h
  · refine cacheReport (h.setWays (fun hw => ?_)) _ _
    split
    · exact hw.erase k
    · exact hw.insert k (Nat.zero_le _)

theorem invalidateWay (h : BoundsKept s₀ s) (k : Nat) : BoundsKept s₀ (s.invalidateWay k) := by
  unfold State.invalidateWay
  split
  · exact h
  · exact (h.setWays (fun hw => hw.erase k)).cacheReportAny _

theorem refresh (h : BoundsKept s₀ s) (x : Nat) (e : HeldEntry) : BoundsKept s₀ (s.refresh x e) := by
  unfold State.refresh
  split
  · exact h.writeHolding _ _ _ _ _
  · exact h

theorem fill (h : BoundsKept s₀ s) (x : Nat) (barred : List Nat) (e : HeldEntry) : BoundsKept s₀ (s.fill x barred e) := by
  unfold State.fill
  split
  · exact h.writeHolding _ _ _ _ _
  · exact h

theorem cacheBeacon (h : BoundsKept s₀ s) (x : Nat) (listed : List HeldEntry) (skip : List Nat) :
    BoundsKept s₀ (s.cacheBeacon x listed skip) := by
  have hswept : BoundsKept s₀ (s.sweep x (heldSegs listed)) := h.foldl (fun _ k hu => hu.freeWay (some .beacon) k) _
  exact (hswept.foldl (fun _ e hu => hu.refresh x e) _).foldl (fun _ e hu => hu.fill x _ e) _

theorem cacheRelease (h : BoundsKept s₀ s) (x : Nat) (segs : List Nat) : BoundsKept s₀ (s.cacheRelease x segs) :=
  h.foldl (fun _ k hu => hu.freeWay (some .release) k) _

theorem cacheJoin (h : BoundsKept s₀ s) (segs : List Nat) : BoundsKept s₀ (s.cacheJoin segs) :=
  h.foldl (fun _ k hu => hu.freeWay none k) _

end BoundsKept

end Sys2Proof.Machine
end

section
/-! PROOFS. The bounds of queues and counters through the orders and a halt (R26, R27, R160, R165), the position, the lift,
and a whole control step (R130). -/

-- One declaration at a time: side by side they need more threads than the check's memory holds.
set_option Elab.async false

namespace Sys2Proof.Machine

open Sys2Proof.Safety

namespace BoundsKept

variable {s₀ s : State}

/-! ## Orders (R160, R165) -/

theorem setOrder (h : BoundsKept s₀ s) (tag : Nat) {f : Order → Order}
    (hf : ∀ o, o.activations ≤ 255 → (f o).activations ≤ 255 := by exact fun _ => id) :
    BoundsKept s₀ (s.setOrder tag f) := by
  refine h.setOrders (fun hs o ho => ?_)
  obtain ⟨x, hx, rfl⟩ := List.mem_map.1 ho
  split
  · exact hf x (hs x hx)
  · exact hs x hx

theorem removeOrder (h : BoundsKept s₀ s) (tag : Nat) : BoundsKept s₀ (s.removeOrder tag) := by
  have hremoved : BoundsKept s₀ (s.setOrders { s.orders with list := s.orders.list.filter (fun o => o.tag != tag) }) :=
    h.setOrders (fun hs o ho => hs o (List.mem_of_mem_filter ho))
  have hunpinned (hc : CacheFits s.cache) : CacheFits (s.cache.unpin tag (fun _ => true)) :=
    { hc with ages := hc.ages.unpin tag _ }
  exact (hremoved.setCache hunpinned).runChanged _

theorem orderDone (h : BoundsKept s₀ s) (t : Nat) (o : Order) : BoundsKept s₀ (s.orderDone t o) :=
  (h.removeOrder _).raise _

theorem orderCancelled (h : BoundsKept s₀ s) (t : Nat) (o : Order) : BoundsKept s₀ (s.orderCancelled t o) :=
  (h.removeOrder _).raise _

theorem orderFailed (h : BoundsKept s₀ s) (t : Nat) (o : Order) (why : FailReason) (seg : Option Nat) :
    BoundsKept s₀ (s.orderFailed t o why seg) := (h.removeOrder _).raise _

theorem suspend (h : BoundsKept s₀ s) (tag : Nat) (why : SuspendReason) : BoundsKept s₀ (s.suspend tag why) :=
  runChanged (h.setOrder tag) _

theorem cancelMarked (h : BoundsKept s₀ s) (t : Nat) (o : Order) : BoundsKept s₀ (s.cancelMarked t o) :=
  (h.orderCancelled t o).setOrders

theorem setEffective (h : BoundsKept s₀ s) (c : LoadClass) : BoundsKept s₀ (s.setEffective c) := h.setOrders

/-! ## Halts (R26, R27, R34) -/

theorem haltOrders (h : BoundsKept s₀ s) (t : Nat) : BoundsKept s₀ (s.haltOrders t) := by
  unfold State.haltOrders
  split
  · exact h
  split
  · exact h.cancelMarked t _
  · exact h.suspend _ _

theorem changeState (h : BoundsKept s₀ s) (t : Nat) (x : StationState) : BoundsKept s₀ (s.changeState t x) :=
  (h.setControl _).raise _

theorem enterHalted (h : BoundsKept s₀ s) (t : Nat) : BoundsKept s₀ (s.enterHalted t) :=
  ((((h.setControl _).changeState t .halted).setMotion _).abandonClaim t).haltOrders t

theorem halt (h : BoundsKept s₀ s) (t : Nat) (c : Cause) : BoundsKept s₀ (s.halt t c) := by
  have hcause : BoundsKept s₀ (s.addCause c) := h.setControl _
  unfold State.halt
  split
  · exact h
  · exact hcause
  all_goals exact hcause.enterHalted t

theorem haltWith (h : BoundsKept s₀ s) (t : Nat) (r : HaltReport) : BoundsKept s₀ (s.haltWith t r) :=
  ((h.raise _).offerFault _).halt t r.cause

theorem overrunCheck (h : BoundsKept s₀ s) (t : Nat) : BoundsKept s₀ (s.overrunCheck t) := by
  have hmark (b : Bool) : BoundsKept s₀ (s.setOverrunMark b) := h.setMotion _
  unfold State.overrunCheck
  split
  case h_3 => exact h
  all_goals
    split
    · exact hmark false
    split
    · exact h
    · exact (hmark true).haltWith t _

theorem newAuthority (h : BoundsKept s₀ s) (t : Nat) : BoundsKept s₀ (s.newAuthority t) :=
  (h.setMotion _).overrunCheck t

theorem stopRelease (h : BoundsKept s₀ s) (t : Nat) : BoundsKept s₀ (s.stopRelease t) :=
  (h.releaseReserved t).newAuthority t

theorem settleConflicts (h : BoundsKept s₀ s) : BoundsKept s₀ s.settleConflicts := by
  unfold State.settleConflicts
  split
  · exact h.dropCause _
  · exact h

/-! ## Position (R11 to R20) -/

theorem bodyMoved (h : BoundsKept s₀ s) (t : Nat) (before : List Nat) : BoundsKept s₀ (s.bodyMoved t before) := by
  have hcap : BoundsKept s₀ (s.capEntry t before) := by
    unfold State.capEntry
    split
    · split
      · exact h
      · exact raise (h.setMotion _) _
    · exact h
  exact giveBack hcap.setClaim t _

theorem positionLost (h : BoundsKept s₀ s) (t seg : Nat) : BoundsKept s₀ (s.positionLost t seg) := h.setPos.haltWith t _

theorem reckon (h : BoundsKept s₀ s) (t um : Nat) : BoundsKept s₀ (s.reckon t um) := by
  simp only [State.reckon]
  split
  · exact h
  split
  · exact positionLost (setPos h.setPos) t _
  · exact h.setPos

theorem missCheck (h : BoundsKept s₀ s) (t : Nat) : BoundsKept s₀ (s.missCheck t) := by
  unfold State.missCheck
  split
  · exact h
  split
  · exact h
  split
  · exact h
  split
  · exact raise (chooseExpected h.setPos) _
  split
  · exact h.positionLost t _
  · exact h

theorem positionStep (h : BoundsKept s₀ s) (t pulses : Nat) : BoundsKept s₀ (s.positionStep t pulses) := by
  have htaken : BoundsKept s₀ (s.setPos { s.pos with pulses := 0 }) := h.setPos (fun _ => Nat.zero_le _)
  exact ((htaken.reckon t _).missCheck t).bodyMoved t _

theorem unmappedRead (h : BoundsKept s₀ s) (t code : Nat) : BoundsKept s₀ (s.unmappedRead t code) := by
  unfold State.unmappedRead
  split
  · exact h
  · exact raise h.setPos _

theorem drift (h : BoundsKept s₀ s) (t seg : Nat) (e : Int) : BoundsKept s₀ (s.drift t seg e) := by
  unfold State.drift
  split
  · exact h
  · exact h.raise _

theorem mappedRead (h : BoundsKept s₀ s) (t : Nat) (m : Marker) : BoundsKept s₀ (s.mappedRead t m) := by
  simp only [State.mappedRead]
  split
  · exact h
  split
  · exact h.haltWith t _
  split
  · exact h.haltWith t _
  split
  · exact h.haltWith t _
  · exact bodyMoved (chooseExpected (h.drift t _ _).setPos) t _

theorem tagRead (h : BoundsKept s₀ s) (t code : Nat) : BoundsKept s₀ (s.tagRead t code) := by
  unfold State.tagRead
  split
  · exact h.unmappedRead t code
  split
  · exact h.mappedRead t _
  · exact h.unmappedRead t code

/-! ## The lift (R164, R168 to R172) -/

theorem loadCheck (h : BoundsKept s₀ s) (t : Nat) (tag : Option Nat) : BoundsKept s₀ (s.loadCheck t tag) := by
  simp only [State.loadCheck]
  split
  · exact ((h.setLift _).setEffective _).raise _
  · exact h.setLift _

theorem liftDownReset (h : BoundsKept s₀ s) : BoundsKept s₀ s.liftDownReset := (h.setEffective .empty).setLift _

theorem liftSuccess (h : BoundsKept s₀ s) (t : Nat) : BoundsKept s₀ (s.liftSuccess t) := by
  simp only [State.liftSuccess]
  split
  · exact h.setLift _
  split
  · exact h.setLift _
  · exact (h.setLift _).orderDone t _

theorem judgeSensors (h : BoundsKept s₀ s) (t : Nat) : BoundsKept s₀ (s.judgeSensors t) := by
  have hreached : BoundsKept s₀ (s.liftReached t) := by
    simp only [State.liftReached]
    split
    · exact ((h.setLift _).loadCheck t _).liftSuccess t
    · exact (h.setLift _).liftDownReset.liftSuccess t
    all_goals exact h
  unfold State.judgeSensors
  split
  · exact hreached
  · exact hreached
  · exact h

theorem beginLift (h : BoundsKept s₀ s) (t tag : Nat) (action : EndAction) : BoundsKept s₀ (s.beginLift t tag action) := by
  simp only [State.beginLift]
  split
  · exact ((h.setLift _).setLift _).judgeSensors t
  · exact ((h.setLift _).setLift _).judgeSensors t
  · exact ((h.setLift _).loadCheck t _).liftSuccess t
  · exact (h.setLift _).liftDownReset.liftSuccess t
  · exact h

theorem liftTimeout (h : BoundsKept s₀ s) (t : Nat) : BoundsKept s₀ (s.liftTimeout t) := by
  simp only [State.liftTimeout]
  split
  · exact h.setLift _
  split
  · exact ((h.setLift _).raise _).offerFault _
  · exact (((h.setLift _).raise _).offerFault _).orderFailed t _ _ _

/-! ## The figures, the drive and the latch (R134 to R140, R143, R145, R147) -/

theorem figuresStep (h : BoundsKept s₀ s) (t : Nat) : BoundsKept s₀ (s.figuresStep t) := (h.setMotion _).overrunCheck t

theorem obstacleCheck (h : BoundsKept s₀ s) (t : Nat) : BoundsKept s₀ (s.obstacleCheck t) := by
  unfold State.obstacleCheck
  split
  · exact h.haltWith t _
  · exact h

theorem driveStep (h : BoundsKept s₀ s) (reversal : Bool) : BoundsKept s₀ (s.driveStep reversal) := by
  unfold State.driveStep
  split
  · split
    · exact h
    · exact h.setMotion _
  · exact h

theorem raiseStall (h : BoundsKept s₀ s) (t : Nat) : BoundsKept s₀ (s.raiseStall t) := (h.setMotion _).haltWith t _

theorem stallStep (h : BoundsKept s₀ s) (t : Nat) : BoundsKept s₀ (s.stallStep t) := by
  unfold State.stallStep
  split
  · split
    · split
      · exact h.raiseStall t
      · exact h.setMotion _
    · exact h.setMotion _
  · exact h

theorem emergencyComplete (h : BoundsKept s₀ s) (t : Nat) : BoundsKept s₀ (s.emergencyComplete t) := by
  simp only [State.emergencyComplete]
  split
  · exact h.setMotion _
  · exact (h.setMotion _).stopRelease t

theorem latchStep (h : BoundsKept s₀ s) (t : Nat) : BoundsKept s₀ (s.latchStep t) := by
  unfold State.latchStep
  split
  · exact h
  · split
    · split
      · exact h.emergencyComplete t
      · exact h.setMotion _
    · exact h.setMotion _
  · split
    · exact h
    · exact h.setMotion _

/-! ## Service stops, reversal and arrival (R142, R148, R149, R163) -/

theorem yieldStopped (h : BoundsKept s₀ s) (t : Nat) : BoundsKept s₀ (s.yieldStopped t) := by
  unfold State.yieldStopped
  split
  · exact h
  split
  · split
    · split
      · exact h.toIdle
      · exact ((h.suspend _ .yield).raise _).toIdle
    · split
      · exact h.setClaim
      · exact h.toIdle
  · exact h

theorem cancelStopped (h : BoundsKept s₀ s) (t : Nat) : BoundsKept s₀ (s.cancelStopped t) := by
  unfold State.cancelStopped
  split
  · exact h
  split
  · exact h.cancelMarked t _
  · exact h

theorem serviceComplete (h : BoundsKept s₀ s) (t : Nat) : BoundsKept s₀ (s.serviceComplete t) := by
  have hreleased : BoundsKept s₀ (((s.setMotion { s.motion with requests := [], stopZero := 0 }).setClaim
      { s.claim with waitLimitYield := false }).releaseReserved t) := releaseReserved (h.setMotion _).setClaim t
  simp only [State.serviceComplete]
  refine newAuthority ?_ t
  split
  · split
    · exact (hreleased.yieldStopped t).cancelStopped t
    · exact hreleased.cancelStopped t
  · split
    · exact hreleased.yieldStopped t
    · exact hreleased

theorem serviceStep (h : BoundsKept s₀ s) (t : Nat) : BoundsKept s₀ (s.serviceStep t) := by
  unfold State.serviceStep
  split
  · split
    · split
      · exact h.serviceComplete t
      · exact h.setMotion _
    · exact h.setMotion _
  · exact h

theorem reversalStep (h : BoundsKept s₀ s) (t : Nat) : BoundsKept s₀ (s.reversalStep t) := by
  simp only [State.reversalStep]
  split
  · split
    · exact newAuthority (bodyMoved (chooseExpected (setMotion (setClaim (setPos (h.setMotion _))) _)) t _) t
    · exact h.setMotion _
  · exact h

theorem endAction (h : BoundsKept s₀ s) (t : Nat) (o : Order) : BoundsKept s₀ (s.endAction t o) := by
  unfold State.endAction
  split
  · exact h.orderDone t o
  all_goals
    split
    · exact h.orderFailed t o _ _
    · exact (h.setOrder o.tag).beginLift t _ _

theorem arrivalStep (h : BoundsKept s₀ s) (t : Nat) (reversal : Bool) : BoundsKept s₀ (s.arrivalStep t reversal) := by
  unfold State.arrivalStep
  split
  · split
    · exact h
    · exact (h.abandonClaim t).endAction t _
  · exact h

/-! ## The Claim Engine's part (R64 to R68, R84, R105 to R113) -/

/-- The claim number counter starts again after 255 (R64). -/
theorem newAttempt (h : BoundsKept s₀ s) (t : Nat) (segs : List Nat) (urgency : Nat) :
    BoundsKept s₀ (s.newAttempt t segs urgency) := by
  have hnumber : (s.claim.counter + 1) % 256 ≤ 255 := by omega
  refine offerClaim (h.setClaim (fun hs => ?_)) t
  exact ⟨hnumber, hs.2⟩

theorem formClaim (h : BoundsKept s₀ s) (t : Nat) : BoundsKept s₀ (s.formClaim t) := by
  unfold State.formClaim
  split
  · split
    · split
      · exact h
      split
      · exact h.enterBlocked _ _
      · exact setClaim (h.enterBlocked _ _)
      · exact h.newAttempt t _ _
      · exact h.newAttempt t _ _
    · exact h
  · exact h

theorem enquiryStep (h : BoundsKept s₀ s) (t : Nat) : BoundsKept s₀ (s.enquiryStep t) := by
  have henquire (seg : Nat) : BoundsKept s₀ (s.enquire t seg) := by
    unfold State.enquire
    split
    · exact send h.setClaim t 255
    · exact h
  unfold State.enquiryStep
  split
  · split
    · exact henquire _
    all_goals exact h.setClaim
  · exact h

/-- The waited counter stops at its top value (R84). -/
theorem waitedStep (h : BoundsKept s₀ s) : BoundsKept s₀ s.waitedStep := by
  unfold State.waitedStep
  split
  · exact h.setClaim (fun hs => ⟨hs.1, inc16_le _⟩)
  · exact h

theorem expireWait (h : BoundsKept s₀ s) (t : Nat) : BoundsKept s₀ (s.expireWait t) := by
  have hexpired : BoundsKept s₀ (s.setClaim { s.claim with expired := true }) := h.setClaim
  simp only [State.expireWait]
  split
  · exact askStop (setClaim (hexpired.raise _)) _
  · exact askStop (setClaim (hexpired.raise _)) _
  all_goals exact hexpired.raise _

theorem waitLimitStep (h : BoundsKept s₀ s) (t : Nat) : BoundsKept s₀ (s.waitLimitStep t) := by
  unfold State.waitLimitStep
  split
  · exact h.expireWait t
  · exact h

theorem cycleStep (h : BoundsKept s₀ s) : BoundsKept s₀ s.cycleStep := by
  have hyield (x w : Nat) : BoundsKept s₀ (s.beginYield x w) := by
    simp only [State.beginYield]
    split
    · exact withdrawStop (askStop h.setClaim .yield) .waitLimit
    · exact askStop h.setClaim .yield
  unfold State.cycleStep
  split
  · split
    · exact hyield _ _
    · exact h
  · exact h

theorem claimStep (h : BoundsKept s₀ s) (t : Nat) (mayForm : Bool) : BoundsKept s₀ (s.claimStep t mayForm) := by
  have hformed : BoundsKept s₀ (if mayForm then s.formClaim t else s) := by
    split
    · exact h.formClaim t
    · exact h
  exact (((hformed.enquiryStep t).waitedStep).waitLimitStep t).cycleStep

/-! ## Activation and the whole step (R130, R156 to R159) -/

/-- An order counts its activations up to 255 (R150); another tag starts the waited counter again (R84). -/
theorem activate (h : BoundsKept s₀ s) (t : Nat) (o : Order) (path : List Nat) : BoundsKept s₀ (s.activate t o path) := by
  have hclaim {c : ClaimEngine} (hc : ClaimCountsFit c) (tag : Nat) : ClaimCountsFit (c.followTag tag) := by
    unfold ClaimEngine.followTag
    split
    · exact hc
    · exact ⟨hc.1, Nat.zero_le _⟩
  have hactive := h.setOrder o.tag (f := fun x =>
    { x with state := .active, reason := none, path := path, activations := satAdd 255 x.activations 1 })
    (fun _ _ => satAdd_le _ _ _)
  exact raise (runChanged (setEffective (setClaim (hactive.setCache (fun hc => hc.pinPath o.tag path))
    (fun hc => hclaim hc o.tag)) _) _) _

theorem judgeActivation (h : BoundsKept s₀ s) (t fuel : Nat) : BoundsKept s₀ (s.judgeActivation t fuel) := by
  induction fuel generalizing s with
  | zero => exact h
  | succ fuel ih =>
    unfold State.judgeActivation
    split
    · split
      · split
        · exact h.activate t _ _
        · exact ih (h.orderFailed t _ _ _)
      · exact h
    · exact h

theorem controlStep (h : BoundsKept s₀ s) : BoundsKept s₀ s.controlStep := by
  have hmotion {u : State} (hu : BoundsKept s₀ u) (t : Nat) : BoundsKept s₀ (u.motionStep t) :=
    ((((((((hu.latchStep t).figuresStep t).obstacleCheck t).reversalStep t).driveStep _).stallStep t).serviceStep
      t).arrivalStep t _).claimStep t _
  have hstepped := hmotion ((h.positionStep s.now s.pos.pulses).setMotion
    { (s.positionStep s.now s.pos.pulses).motion with measured := measuredSpeed s.params s.pos.pulses }) s.now
  simp only [State.controlStep, State.activationStep]
  split
  · split
    · exact hstepped.judgeActivation _ 9
    · exact hstepped
  · exact hstepped

end BoundsKept

end Sys2Proof.Machine
end

section
/-! PROOFS. The bounds of queues and counters through the frames taken from the buffer (R43, R75 to R101), the line (R33,
R37 to R51), the clocks and a millisecond (R70, R71, R112, R123), and the host commands (R175 to R192); so through every
step. -/

-- One declaration at a time: side by side they need more threads than the check's memory holds.
set_option Elab.async false

namespace Sys2Proof.Machine

open Sys2Proof.Safety

namespace BoundsKept

variable {s₀ s : State}

/-! ## Frames from the buffer -/

theorem editionMismatch (h : BoundsKept s₀ s) (t x edition : Nat) : BoundsKept s₀ (s.editionMismatch t x edition) := by
  unfold State.editionMismatch
  split
  · exact h
  · exact raise h.setResp _

/-- A full conflict-segment set takes the overflow mark in place of a pair (R95). -/
theorem holdConflict (h : BoundsKept s₀ s) (t x seg : Nat) (detail : Option Nat) :
    BoundsKept s₀ (s.holdConflict t x seg detail) := by
  have hpair (u : LaneResponder) (hu : u.conflicts.length ≤ 32) : (u.addPair seg x).conflicts.length ≤ 32 := by
    unfold LaneResponder.addPair
    split
    next hroom => simpa using hroom
    · exact hu
  unfold State.holdConflict
  split
  · exact h
  · exact (h.setResp (hpair _)).haltWith t _

theorem responderBeacon (h : BoundsKept s₀ s) (t x edition : Nat) (listed : List HeldEntry) :
    BoundsKept s₀ (s.responderBeacon t x edition listed) := by
  have hcheck (u : State) (e : HeldEntry) (hu : BoundsKept s₀ u) : BoundsKept s₀ (u.conflictCheck t x s.claim.held e) := by
    unfold State.conflictCheck
    split
    · exact hu
    · exact hu.holdConflict t x _ _
  have homitted : BoundsKept s₀ ((listed.foldl (fun u e => u.conflictCheck t x s.claim.held e) s).omissionCheck x
      (heldSegs listed)) :=
    settleConflicts (setResp (h.foldl hcheck listed) (fun hs => (List.length_filter_le _ _).trans hs))
  simp only [State.responderBeacon]
  split
  · exact homitted
  · exact homitted.editionMismatch t x edition

theorem claimBeacon (h : BoundsKept s₀ s) (t x : Nat) (b : BeaconBody) : BoundsKept s₀ (s.claimBeacon t x b) := by
  have hfiled := h.fileReport x ⟨b.waitingFor, b.urgency⟩
  simp only [State.claimBeacon]
  split
  · unfold State.beaconBlocked
    split
    · split
      · exact hfiled
      · exact hfiled.toIdle
    · split
      · exact hfiled.toIdle
      · exact hfiled
  · split
    · exact hfiled.enterBlocked _ x
    · exact hfiled
  · unfold State.beaconHoldoff
    split
    · exact hfiled
    split
    · exact hfiled.toIdle
    · exact hfiled
  · split
    · exact hfiled
    · unfold State.beaconEndsClaim
      split
      · exact (hfiled.endClaim t).enterBlocked _ x
      · exact hfiled.endClaim t

theorem object (h : BoundsKept s₀ s) (t x number seg : Nat) (why : Reason) :
    BoundsKept s₀ (s.object t x number seg why) :=
  h.send t x

theorem answerClaim (h : BoundsKept s₀ s) (t x edition number urgency waited : Nat) (segs : List Nat) :
    BoundsKept s₀ (s.answerClaim t x edition number urgency waited segs) := by
  unfold State.answerClaim
  split
  · exact (h.object t x number _ _).editionMismatch t x edition
  split
  · exact h.object t x number _ _
  split
  · unfold State.crossing
    split
    · split
      · exact h.object t x number _ _
      · exact (h.endClaim t).enterContested _ _
    · exact h
  · exact h

theorem takeClaim (h : BoundsKept s₀ s) (t x edition number urgency waited : Nat) (segs : List Nat) :
    BoundsKept s₀ (s.takeClaim t x edition number urgency waited segs) := by
  refine answerClaim ?_ t x edition number urgency waited segs
  unfold State.supplyRival
  split
  · exact h.setClaim
  · exact h

theorem lateObjection (h : BoundsKept s₀ s) (t x edition seg : Nat) (why : Reason) :
    BoundsKept s₀ (s.lateObjection t x edition seg why) := by
  unfold State.lateObjection
  split
  · split
    · exact ((((h.giveBack t _).writeHolding seg x _ .object []).endClaim t).chooseExpected).newAuthority t
    · exact h.holdConflict t x seg none
    · have hwritten := h.writeHolding seg x
      simp only [State.lateOther]
      split
      · exact (hwritten _ .object []).enterBlocked seg x
      · exact hwritten _ .object []
  · split
    · exact h.editionMismatch t x edition
    · exact h

theorem objectHeld (h : BoundsKept s₀ s) (t x seg : Nat) (m : Mark) : BoundsKept s₀ (s.objectHeld t x seg m) := by
  have hwritten := (h.endClaim t).writeHolding seg x m .object []
  simp only [State.objectHeld]
  split
  · exact hwritten.enterBlocked seg x
  · exact hwritten

theorem takeObject (h : BoundsKept s₀ s) (t x edition number seg : Nat) (why : Reason) (r : PeerReport) :
    BoundsKept s₀ (s.takeObject t x edition number seg why r) := by
  have hfiled := h.fileReport x r
  simp only [State.takeObject]
  split
  · split
    · exact hfiled.objectHeld t x seg _
    · exact hfiled.objectHeld t x seg _
    · exact (hfiled.endClaim t).enterContested seg _
    · exact setClaim ((hfiled.endClaim t).editionMismatch t x edition)
  · exact hfiled.lateObjection t x edition seg why

theorem takeRelease (h : BoundsKept s₀ s) (x : Nat) (segs : List Nat) : BoundsKept s₀ (s.takeRelease x segs) := by
  have hfreed := h.cacheRelease x segs
  simp only [State.takeRelease, State.claimRelease]
  split
  · split
    · exact hfreed.toIdle
    · exact hfreed
  · exact hfreed

theorem takeWithdraw (h : BoundsKept s₀ s) (x number : Nat) : BoundsKept s₀ (s.takeWithdraw x number) := by
  unfold State.takeWithdraw
  split
  · split
    · exact h.toIdle
    · exact h
  · exact h

theorem process (h : BoundsKept s₀ s) (r : Received) : BoundsKept s₀ (s.process r) := by
  simp only [State.process]
  split
  · exact ((h.responderBeacon _ _ _ _).cacheBeacon _ _ _).claimBeacon _ _ _
  · exact h.takeClaim _ _ _ _ _ _ _
  · exact h.takeObject _ _ _ _ _ _ _
  · exact h.takeWithdraw _ _
  · exact h.takeRelease _ _
  · unfold State.takeEnquire
    split
    · exact h.offerBeacon _
    · exact h
  · exact h.raise _

theorem takeHead (h : BoundsKept s₀ s) : BoundsKept s₀ s.takeHead := by
  have hport (p : HostPort) (hp : PortCountsFit p) : PortCountsFit p.frameTaken := by
    unfold HostPort.frameTaken
    split <;> exact hp
  have hline : BoundsKept s₀ (s.setLine { s.line with rx := s.line.rx.drop 1 }) :=
    h.setLine (hrx := fun hs => by simp; omega)
  unfold State.takeHead
  split
  · exact h
  · exact (hline.setPort (hport _)).process _

theorem takeKind (h : BoundsKept s₀ s) (kind : Nat) : BoundsKept s₀ (s.takeKind kind) := by
  unfold State.takeKind
  split
  · split
    · exact h.takeHead
    · exact h
  · exact h

theorem takeFrames (h : BoundsKept s₀ s) (n : Nat) : BoundsKept s₀ (State.takeFrames n s) := by
  induction n generalizing s with
  | zero => exact h
  | succ n ih => exact ih h.takeHead

/-! ## The line -/

theorem goodFrame (h : BoundsKept s₀ s) (t : Nat) (f : Frame) : BoundsKept s₀ (s.goodFrame t f) := by
  unfold State.goodFrame
  split
  · unfold State.duplicateFrame
    split
    · exact h
    · exact haltWith h.setResp t _
  split
  · exact h.setLine (htallies := fun hk => { hk with noStation := inc16_le _ })
  split
  · unfold State.bufferFrame
    split
    next hroom =>
      have hbuffered : BoundsKept s₀ (s.setLine { s.line with rx := s.line.rx ++ [⟨f, t⟩] }) :=
        h.setLine (hrx := fun _ => by simpa using hroom)
      exact hbuffered.setLine (htallies := fun hk => { hk with framesTaken := inc16_le _ })
    · have hlost : BoundsKept s₀ (s.countLine (fun k => { k with rxOverrun := inc16 k.rxOverrun })) :=
        h.setLine (htallies := fun hk => { hk with rxOverrun := inc16_le _ })
      exact hlost.offerFault _
  · exact h

theorem closeFrame (h : BoundsKept s₀ s) (t : Nat) (c : Closing) : BoundsKept s₀ (s.closeFrame t c) := by
  unfold State.closeFrame
  split
  · exact h.setLine (htallies := fun hk => { hk with aborted := inc16_le _ })
  · exact h.setLine (htallies := fun hk => { hk with tooLong := inc16_le _ })
  · split
    · exact h
    · exact h.setLine (htallies := fun hk => { hk with tooShort := inc16_le _ })
    · exact h.setLine (htallies := fun hk => { hk with crcBad := inc16_le _ })
    · exact h.setLine (htallies := fun hk => { hk with malformed := inc16_le _ })
    · exact h.goodFrame t _

theorem receive (h : BoundsKept s₀ s) (t : Nat) (bits : List Bool) : BoundsKept s₀ (s.receive t bits) := by
  simp only [State.receive]
  split
  · exact h
  · exact foldl h.setLine (fun _ c hu => hu.closeFrame t c) _

/-- An entry that is marked as in flight keeps its place and its content (R49). -/
theorem beginSending (h : BoundsKept s₀ s) : BoundsKept s₀ s.beginSending := by
  unfold State.beginSending
  split
  · split
    · exact h
    next he => exact h.setLine (htx := fun hq => hq.set he rfl)
  · exact h

theorem removalNotSent (h : BoundsKept s₀ s) : BoundsKept s₀ s.removalNotSent := h.setClaim

theorem completeSending (h : BoundsKept s₀ s) : BoundsKept s₀ s.completeSending := by
  have hsent : BoundsKept s₀ (s.setLine s.line.sent) :=
    h.setLine (htx := fun hq => hq.sublist List.filter_sublist)
      (htallies := fun hk => { hk with framesSent := inc16_le _ }) (hdiscards := fun _ => Nat.zero_le _)
  unfold State.completeSending
  split
  · simp only [State.sent]
    split
    · split
      · simp only [State.removalSent]
        split
        · exact hsent
        split
        · exact sendWithdraw hsent.setClaim _ _
        · exact hsent.setClaim
      · unfold State.roundSent
        split
        case h_1 => exact hsent.setClaim
        case h_2 => exact hsent.setClaim
        all_goals exact hsent
    · exact hsent
  · exact h

theorem tellOwner (h : BoundsKept s₀ s) (t : Nat) (e : TxEntry) : BoundsKept s₀ (s.tellOwner t e) := by
  unfold State.tellOwner
  split
  · exact h.removalNotSent
  split
  · exact h.claimUndelivered t
  split
  · exact h.raise _
  · exact h

theorem degradeCheck (h : BoundsKept s₀ s) (t : Nat) : BoundsKept s₀ (s.degradeCheck t) := by
  unfold State.degradeCheck
  split
  · exact raise h.setLine _
  · exact h

/-- What a collision makes of the line, with its entry in the queue or gone from it (R50). -/
theorem collided {l : LaneLine} (h : BoundsKept s₀ (s.setLine l)) (own bit attempts : Nat) (bits : List Bool) :
    BoundsKept s₀ (s.setLine (l.collided own bit attempts bits)) :=
  h.setLine (htx := fun hq => hq.map (fun e => by split <;> rfl))
    (htallies := fun hk => { hk with collisions := inc16_le _ })

theorem discarded {l : LaneLine} (h : BoundsKept s₀ (s.setLine l)) : BoundsKept s₀ (s.setLine l.discarded) :=
  h.setLine (htallies := fun hk => { hk with lineFail := inc16_le _ }) (hdiscards := fun _ => satAdd_le _ _ _)

theorem collide (h : BoundsKept s₀ s) (bit : Nat) : BoundsKept s₀ (s.collide bit) := by
  have hdropped : BoundsKept s₀ (s.setLine s.line.dropInFlight) :=
    h.setLine (htx := fun hq => hq.sublist List.filter_sublist)
  unfold State.collide
  split
  · split
    · simp only [State.afterCollision]
      split
      · exact ((hdropped.collided _ _ _ _).discarded.tellOwner _ _).degradeCheck _
      split
      · exact (hdropped.collided _ _ _ _).removalNotSent
      · exact collided h _ _ _ _
    · exact h
  · exact h

theorem endBackoff (h : BoundsKept s₀ s) : BoundsKept s₀ s.endBackoff := by
  unfold State.endBackoff
  split
  · exact h.setLine
  all_goals exact h

end BoundsKept

end Sys2Proof.Machine
end

section
/-! PROOFS. The bounds of queues and counters through the clocks and a millisecond (R25, R52, R70, R71, R112, R123) and the
host commands (R175 to R192), and so through every step. -/

-- One declaration at a time: side by side they need more threads than the check's memory holds.
set_option Elab.async false

namespace Sys2Proof.Machine

open Sys2Proof.Safety

namespace BoundsKept

variable {s₀ s : State}

/-! ## The clocks -/

theorem serviceStopDue (h : BoundsKept s₀ s) : BoundsKept s₀ s.serviceStopDue := by
  unfold State.serviceStopDue
  split
  · exact h.serviceComplete _
  · exact h

theorem emergencyStopDue (h : BoundsKept s₀ s) : BoundsKept s₀ s.emergencyStopDue := by
  unfold State.emergencyStopDue
  split
  · exact h.emergencyComplete _
  · exact h

theorem stallDue (h : BoundsKept s₀ s) : BoundsKept s₀ s.stallDue := by
  unfold State.stallDue
  split
  · exact h.raiseStall _
  · exact h

/-- The waited counter is put above the wait limit, which its parameter keeps far below the top value (R112, R184). -/
theorem waitDue (s : State) : BoundsKept s s.waitDue := by
  have hpassed : BoundsKept s s.passWaitLimit :=
    { refl s with
      claimCounts := fun hp hs => by
        obtain ⟨-, -, -, -, -, -, -, -, -, -, -, -, ⟨-, hlimit⟩, -⟩ := hp
        refine ⟨hs.1, max_le hs.2 ?_⟩
        omega }
  unfold State.waitDue
  split
  · exact hpassed.expireWait _
  · exact refl s

/-- An age is put above the staleness limit, which its parameter keeps below the top value (R123, R184). -/
theorem staleDue (s : State) (k : Nat) : BoundsKept s (s.staleDue k) := by
  unfold State.staleDue
  split
  · exact refl s
  next e he =>
    split
    · exact { refl s with
        cache := fun hp hc => { hc with
          ages := hc.ages.insert k (by
            obtain ⟨-, -, -, -, -, -, -, -, -, -, ⟨-, hlimit⟩, -⟩ := hp
            have hage := hc.ages.of_find he
            simp only [CacheEntry.stale]
            omega) } }
    · exact refl s

theorem joinDue (h : BoundsKept s₀ s) : BoundsKept s₀ s.joinDue := by
  unfold State.joinDue
  split
  · exact ((h.setControl _).setMotion _).changeState _ _
  · exact h

theorem beaconDue (h : BoundsKept s₀ s) : BoundsKept s₀ s.beaconDue := by
  unfold State.beaconDue
  split
  · exact h
  · exact offerBeacon h.setLine _

theorem windowR1Due (h : BoundsKept s₀ s) : BoundsKept s₀ s.windowR1Due := by
  unfold State.windowR1Due
  split
  · exact offerClaim h.setClaim _
  · exact h

theorem windowR2Due (h : BoundsKept s₀ s) : BoundsKept s₀ s.windowR2Due := by
  unfold State.windowR2Due
  split
  · have hgranted : BoundsKept s₀ (s.setClaim s.claim.granted) := h.setClaim (fun hs => ⟨hs.1, Nat.zero_le _⟩)
    exact (((hgranted.cacheJoin _).toIdle).chooseExpected).newAuthority _
  · exact h

theorem contestDue (h : BoundsKept s₀ s) : BoundsKept s₀ s.contestDue := by
  unfold State.contestDue
  split
  · exact h.toIdle
  · exact h

theorem holdoffDue (h : BoundsKept s₀ s) : BoundsKept s₀ s.holdoffDue := by
  unfold State.holdoffDue
  split
  · exact h.toIdle
  · exact h

theorem liftDue (h : BoundsKept s₀ s) : BoundsKept s₀ s.liftDue := by
  unfold State.liftDue
  split
  · exact h.liftTimeout _
  · exact h

/-! ## One millisecond and the pins -/

theorem outsideSetup {f : State → State} (h : BoundsKept s₀ s) (hf : ∀ u, BoundsKept s₀ u → BoundsKept s₀ (f u)) :
    BoundsKept s₀ (s.outsideSetup f) := by
  unfold State.outsideSetup
  split
  · exact h
  · exact hf s h

theorem tickStation (h : BoundsKept s₀ s) : BoundsKept s₀ s.tickStation := by
  have hticked (limit : Nat) (hc : CacheFits s.cache) : CacheFits (s.cache.tick limit) :=
    { hc with ages := hc.ages.tick limit }
  refine setLift (setCache (setClaim (setLine (h.setControl _))) ?_) _
  exact hticked _

/-- The time stamp starts again at 2^32 (R186). -/
theorem idle (h : BoundsKept s₀ s) : BoundsKept s₀ s.idle := by
  have hnow : BoundsKept s₀ (s.setNotice s.notice.tick) :=
    h.setNotice (hcounts := fun hu => { hu with now := Nat.mod_lt _ (by decide) })
  exact setPending (outsideSetup (hnow.setPhase _) (fun _ hu => hu.tickStation)) _

theorem bringObst (h : BoundsKept s₀ s) (obst : Bool) : BoundsKept s₀ (s.bringObst obst) := by
  simp only [State.bringObst]
  split
  · exact h.setPins _
  · exact (h.setPins _).dropCause _

/-! ## Host commands -/

theorem hostCommand {kind : Nat} {args : List Byte} {run : State → Answer} (h : BoundsKept s₀ s)
    (hrun : ∀ u, BoundsKept s₀ u → BoundsKept s₀ (run u).state) : BoundsKept s₀ (s.hostCommand kind args run) := by
  cases he : s.executing kind args with
  | none => rwa [State.hostCommand_of_other s kind args run he]
  | some u =>
    rw [State.hostCommand_of_executing s u kind args run he]
    refine (hrun u ?_).placeReply _
    simp only [State.executing, State.hostReady, Option.map_eq_some_iff] at he
    obtain ⟨v, hv, rfl⟩ := he
    split at hv
    · split at hv <;> cases hv
      exact h.takeFrames _
    all_goals
      cases hv
      exact takeFrames h.setPort _

/-- A command whose own rule keeps the bounds keeps them with its checks before it (R179). -/
theorem hostChecked {α : Type} {kind : Nat} {args : List Byte} {read : Option α} {taken : StationState → Bool}
    {run : State → α → Answer} (h : BoundsKept s₀ s)
    (hrun : ∀ u a, BoundsKept s₀ u → BoundsKept s₀ (run u a).state) :
    BoundsKept s₀ (s.hostCommand kind args (fun u => u.checked read taken run)) := by
  refine h.hostCommand (fun u hu => ?_)
  unfold State.checked
  split
  · exact hu
  split
  · exact hrun u _ hu
  · exact hu

/-! ## The commands' own rules -/

/-- An order joins the queue with no activation yet (R150). -/
theorem setList {l : List Order} (h : BoundsKept s₀ s)
    (hl : ActivationsFit s.orders → ∀ o ∈ l, o.activations ≤ 255) : BoundsKept s₀ (s.setList l) :=
  h.setOrders hl

theorem placeOrder (h : BoundsKept s₀ s) (t : Nat) {o : Order} (ho : o.activations ≤ 255) :
    BoundsKept s₀ (s.placeOrder t o) := by
  have hpush {u : State} (hu : BoundsKept s₀ u) : BoundsKept s₀ (u.setList (o :: u.orders.list)) :=
    hu.setList (fun hs => List.forall_mem_cons.2 ⟨ho, hs⟩)
  unfold State.placeOrder
  split
  · unfold State.placeFront
    split
    · exact h.setList (fun _ => by simpa using ho)
    next head rest hl =>
      have hsplit (hs : ActivationsFit s.orders) : head.activations ≤ 255 ∧ ∀ x ∈ rest, x.activations ≤ 255 := by
        rwa [ActivationsFit, hl, List.forall_mem_cons] at hs
      split
      · exact h.setList (fun hs => by simpa [ho] using hsplit hs)
      · exact h.setList (fun hs => by simpa [ho] using hsplit hs)
      · dsimp only
        split
        · exact hpush (h.cancelMarked t head)
        · exact hpush (((h.suspend _ .front).askStop .front).abandonClaim t)
      · exact h.setList (fun hs => by simpa [ho] using hsplit hs)
  · refine h.setList (fun hs x hx => ?_)
    obtain hx | hx := List.mem_append.1 hx
    · exact hs x hx
    · rwa [List.mem_singleton.1 hx]

theorem submitOrder (h : BoundsKept s₀ s) (a : OrderArgs) : BoundsKept s₀ (s.submitOrder a).state := by
  have hplaced : BoundsKept s₀ (s.placeOrder s.now (a.order (s.endBounds a.path))) := h.placeOrder _ (Nat.zero_le _)
  simp only [State.submitOrder]
  split
  · exact h
  split
  · exact h
  split
  · exact h
  split
  · exact h
  · exact h
  split
  · exact h
  split
  · exact hplaced
  · exact hplaced

theorem cancelOrder (h : BoundsKept s₀ s) (tag : Nat) : BoundsKept s₀ (s.cancelOrder tag).state := by
  unfold State.cancelOrder
  split
  · exact h
  split
  · exact h.orderCancelled _ _
  · exact h.orderCancelled _ _
  · split
    · exact h
    · exact abandonClaim (askStop h.setOrders _) _
  · exact h

theorem resume (h : BoundsKept s₀ s) : BoundsKept s₀ s.resume.state := by
  unfold State.resume
  split
  · exact h
  split
  · exact ((h.setControl _).setMotion _).changeState _ _
  · exact h

/-- RESTART empties what it does not keep; it keeps the claim number counter and the notices (R31). -/
theorem restart (h : BoundsKept s₀ s) : BoundsKept s₀ s.restart.state := by
  have hline : BoundsKept s₀ (((s.setControl { s.control with causes := [], joinTimer := none }).setPos
      s.pos.restart).setLine s.line.off) :=
    setLine (setPos (h.setControl _) (fun _ => Nat.zero_le _)) (fun _ => Nat.zero_le _) (fun _ => TxFits.nil)
      (fun _ => talliesFit_zero) (fun _ => Nat.zero_le _)
  have hclaim : BoundsKept s₀ ((((s.setControl { s.control with causes := [], joinTimer := none }).setPos
      s.pos.restart).setLine s.line.off).setClaim s.claim.restart) :=
    hline.setClaim (fun hs => ⟨hs.1, Nat.zero_le _⟩)
  unfold State.restart
  split
  · refine changeState (setLift (setOrders (setMotion (setCache (setResp hclaim (fun _ => Nat.zero_le _)) ?_) _) ?_) _) _ _
    · exact fun _ => ⟨Nat.zero_le _, Nat.zero_le _, fun _ hw => nomatch hw⟩
    · exact fun _ _ ho => nomatch ho
  · exact h

/-- START empties the queues of the line and the waited counter and keeps the counters (R24). -/
theorem start (h : BoundsKept s₀ s) (a : StartArgs) : BoundsKept s₀ (s.start a).state := by
  have hstarted (c : Centre) (run : List Nat) : BoundsKept s₀ (s.started c run) := by
    have hpos : BoundsKept s₀ (s.setPos (s.pos.begin c)) := h.setPos (fun _ => Nat.zero_le _)
    refine changeState (setControl (offerBeacon (setLine (setNotice (chooseExpected (cacheJoin
      (setClaim (hpos.setMotion _) ?_) _)) (hcounts := ?_)) ?_ ?_ (hdiscards := ?_)) _) _) _ _
    · exact fun hs => ⟨hs.1, Nat.zero_le _⟩
    · exact fun hu => { hu with now := Nat.two_pow_pos 32 }
    · exact fun _ => Nat.zero_le _
    · exact fun _ => TxFits.nil
    · exact fun _ => Nat.zero_le _
  unfold State.start
  split
  · exact h
  split
  · exact h
  split
  · split
    · exact h
    split
    · exact h
    · exact hstarted _ _
  · exact h

theorem lineReset (h : BoundsKept s₀ s) (t : Nat) : BoundsKept s₀ (s.lineReset t) := by
  have hreset : BoundsKept s₀ (s.setLine s.line.lineReset) :=
    h.setLine (fun _ => Nat.zero_le _) (fun _ => TxFits.nil) (fun _ => talliesFit_zero)
      (fun _ => Nat.zero_le _)
  have hlost (n : Nat) : BoundsKept s₀ ((s.setLine s.line.lineReset).relaysLost t n) := by
    unfold State.relaysLost
    split
    · exact hreset
    · exact hreset.raise _
  exact offerBeacon (endClaim (removalNotSent (hlost _)) t) t

theorem clearLift (h : BoundsKept s₀ s) : BoundsKept s₀ s.clearLift.state := by
  unfold State.clearLift
  split
  · simp only [State.clearJam]
    split
    · exact (h.setLift _).loadCheck _ none
    · exact (h.setLift _).liftDownReset
    · exact h.setLift _
  · exact h

theorem forgetStation (h : BoundsKept s₀ s) (n : Nat) : BoundsKept s₀ (s.forgetStation n).state := by
  have hfreed : BoundsKept s₀ (s.forgetHoldings (waysOf s.cache.ways n (fun _ => true))) :=
    h.foldl (fun _ k hu => hu.freeWay none k) _
  have hforgot := settleConflicts (hfreed.setResp (u := (State.resp _).forget n)
    (fun hs => (List.length_filter_le _ _).trans hs))
  unfold State.forgetStation
  split
  · simp only [State.forget, State.forgetWait]
    split
    · exact toIdle hforgot.setClaim
    · exact hforgot.setClaim
  · exact h

/-- A seventh RELAY is refused (R46). -/
theorem sendRelay (h : BoundsKept s₀ s) (a : Nat × List Byte) : BoundsKept s₀ (s.sendRelay a).state := by
  unfold State.sendRelay
  split
  · exact h
  split
  · exact h
  next hroom => exact h.offer _ _ nofun (fun _ => by omega)

theorem setStation (h : BoundsKept s₀ s) (a : StationArgs) : BoundsKept s₀ (s.setStation a).state := by
  unfold State.setStation
  split
  · exact h.setControl _
  · exact h

theorem setParameter (h : BoundsKept s₀ s) (a : Nat × Nat) : BoundsKept s₀ (s.setParameter a).state := by
  simp only [State.setParameter]
  split
  · exact h
  split
  · exact h.setParams _
  · exact h.setParams _

theorem loadSegment (h : BoundsKept s₀ s) (a : SegmentArgs) : BoundsKept s₀ (s.loadSegment a).state := by
  simp only [State.loadSegment]
  split
  · exact h
  split
  · exact h.setPos
  · exact h.setPos

theorem loadTagWindow (h : BoundsKept s₀ s) (a : Nat × TagWindow) : BoundsKept s₀ (s.loadTagWindow a).state := by
  unfold State.loadTagWindow
  split
  · split
    · exact h.setPos
    · exact h
  · exact h

theorem readCacheEntry (h : BoundsKept s₀ s) (a : Nat × Nat) : BoundsKept s₀ (s.readCacheEntry a).state := by
  unfold State.readCacheEntry
  split
  · exact h
  · exact h

theorem invalidateEntry (h : BoundsKept s₀ s) (a : Nat × Nat) : BoundsKept s₀ (s.invalidateEntry a).state := by
  unfold State.invalidateEntry
  split
  · exact h.invalidateWay _
  · exact h

theorem invalidateSegment (h : BoundsKept s₀ s) (seg : Nat) : BoundsKept s₀ (s.invalidateSegment seg).state := by
  unfold State.invalidateSegment
  split
  · simp only [State.invalidated, State.invalidateFound]
    split
    · exact h
    · exact h.invalidateWay _
  · exact h

theorem invalidateSet (h : BoundsKept s₀ s) (set : Nat) : BoundsKept s₀ (s.invalidateSet set).state := by
  unfold State.invalidateSet
  split
  · exact h.foldl (fun _ w hu => hu.invalidateWay (4 * set + w)) _
  · exact h

/-- READ_NOTICES takes notices off the queue and puts one NOTICES_LOST in their place at most (R187, R188). -/
theorem readNotices (h : BoundsKept s₀ s) : BoundsKept s₀ s.readNotices.state := by
  have hqueue (u : NoticeUnit) (hu : u.queue.length ≤ 32) : u.drain.queue.length ≤ 32 := by
    unfold NoticeUnit.drain
    split
    · simp; omega
    · simp; omega
  have hcounts (u : NoticeUnit) (hu : NoticeCountsFit u) : NoticeCountsFit u.drain := by
    unfold NoticeUnit.drain
    split
    · exact { hu with }
    · exact { hu with lost := Nat.zero_le _ }
  exact h.setNotice (hqueue _) (hcounts _)

theorem enableNotices (h : BoundsKept s₀ s) (codes : List Nat) : BoundsKept s₀ (s.enableNotices codes).state := by
  unfold State.enableNotices
  split
  · exact h
  · exact h.setNotice

theorem disableNotices (h : BoundsKept s₀ s) (codes : List Nat) : BoundsKept s₀ (s.disableNotices codes).state := by
  unfold State.disableNotices
  split
  · exact h
  · exact h.setNotice

theorem clearFaultRecord (h : BoundsKept s₀ s) : BoundsKept s₀ s.clearFaultRecord.state :=
  h.setNotice (hcounts := fun hu => { hu with further := fun _ hr => nomatch hr })

theorem judgeCommand (h : BoundsKept s₀ s) (first : Byte) (rest : List Byte) :
    BoundsKept s₀ (s.judgeCommand first rest) := by
  have hframing : BoundsKept s₀ (s.setPort { s.port with framing := inc16 s.port.framing }) :=
    h.setPort (fun ⟨hover, hdiscarded, _⟩ => ⟨hover, hdiscarded, inc16_le _⟩)
  unfold State.judgeCommand
  split
  · exact h.setPort (fun ⟨hover, _, hframing⟩ => ⟨hover, inc16_le _, hframing⟩)
  all_goals
    split
    · exact hframing.placeReply _
    split
    · exact hframing.placeReply _
    · exact h.setPort

theorem transaction (h : BoundsKept s₀ s) (hdi : List Bool) (began : Bool) : BoundsKept s₀ (s.transaction hdi began) := by
  unfold State.transaction
  split
  · exact h
  split
  · exact h.setPort
  · exact judgeCommand h.setPort _ _

theorem powerOn (s : State) : BoundsKept s s.powerOn where
  rx := fun _ => Nat.zero_le _
  tx := fun _ => TxFits.nil
  notices := fun _ => Nat.zero_le _
  conflicts := fun _ => Nat.zero_le _
  lineCounts := fun _ => ⟨talliesFit_zero, Nat.zero_le _⟩
  noticeCounts := fun _ => ⟨Nat.zero_le _, (fun _ hr => nomatch hr), Nat.two_pow_pos 32⟩
  portCounts := fun _ => ⟨Nat.zero_le _, Nat.zero_le _, Nat.zero_le _⟩
  pulses := fun _ => Nat.zero_le _
  activations := fun _ _ ho => nomatch ho
  claimCounts := fun _ _ => ⟨Nat.zero_le _, Nat.zero_le _⟩
  cache := fun _ _ => ⟨Nat.zero_le _, Nat.zero_le _, fun _ hw => nomatch hw⟩

/-! ## Every command and every step -/

/-- Every command keeps the bounds. -/
theorem exec {c : Instr} {t : State} (hexec : exec c s = .next t) : BoundsKept s t := by
  have h := refl s
  cases c with
  | powerOnReset => cases hexec; exact powerOn s
  | commandTransaction hdi began => cases hexec; exact h.transaction hdi began
  | readTransaction hdi began => cases hexec; exact h.transaction hdi began
  | setStation args => cases hexec; exact h.hostChecked (fun _ a hu => hu.setStation a)
  | setParameter args => cases hexec; exact h.hostChecked (fun _ a hu => hu.setParameter a)
  | loadSegment args => cases hexec; exact h.hostChecked (fun _ a hu => hu.loadSegment a)
  | loadTagWindow args => cases hexec; exact h.hostChecked (fun _ a hu => hu.loadTagWindow a)
  | setEdition args => cases hexec; exact h.hostChecked (fun _ _ hu => hu.setPos)
  | start args => cases hexec; exact h.hostChecked (fun _ a hu => hu.start a)
  | submitOrder args => cases hexec; exact h.hostChecked (fun _ a hu => hu.submitOrder a)
  | cancelOrder args => cases hexec; exact h.hostChecked (fun _ a hu => hu.cancelOrder a)
  | stop args => cases hexec; exact h.hostChecked (fun _ _ hu => hu.halt _ _)
  | resume args => cases hexec; exact h.hostChecked (fun _ _ hu => hu.resume)
  | restart args => cases hexec; exact h.hostChecked (fun _ _ hu => hu.restart)
  | sendRelay args => cases hexec; exact h.hostChecked (fun _ a hu => hu.sendRelay a)
  | lineReset args => cases hexec; exact h.hostChecked (fun _ _ hu => hu.lineReset _)
  | clearLift args => cases hexec; exact h.hostChecked (fun _ _ hu => hu.clearLift)
  | forgetStation args => cases hexec; exact h.hostChecked (fun _ a hu => hu.forgetStation a)
  | queryStatus args => cases hexec; exact h.hostChecked (fun _ _ hu => hu)
  | queryOrders args => cases hexec; exact h.hostChecked (fun _ _ hu => hu)
  | queryCounters args => cases hexec; exact h.hostChecked (fun _ _ hu => hu)
  | readCacheEntry args => cases hexec; exact h.hostChecked (fun _ a hu => hu.readCacheEntry a)
  | invalidateCacheEntry args => cases hexec; exact h.hostChecked (fun _ a hu => hu.invalidateEntry a)
  | invalidateCacheSegment args => cases hexec; exact h.hostChecked (fun _ a hu => hu.invalidateSegment a)
  | invalidateCacheSet args => cases hexec; exact h.hostChecked (fun _ a hu => hu.invalidateSet a)
  | readNotices args => cases hexec; exact h.hostChecked (fun _ _ hu => hu.readNotices)
  | enableNotices args => cases hexec; exact h.hostChecked (fun _ a hu => hu.enableNotices a)
  | disableNotices args => cases hexec; exact h.hostChecked (fun _ a hu => hu.disableNotices a)
  | setAttention args => cases hexec; exact h.hostChecked (fun _ _ hu => hu.setNotice)
  | readFaultRecord args => cases hexec; exact h.hostChecked (fun _ _ hu => hu)
  | clearFaultRecord args => cases hexec; exact h.hostChecked (fun _ _ hu => hu.clearFaultRecord)
  | unknownCommand kind args =>
    change execUnknownCommand kind args s = .next t at hexec
    unfold execUnknownCommand at hexec
    split at hexec <;> cases hexec
    · exact h
    · exact h.hostCommand (fun _ hu => hu)
  | encoderPulse => cases hexec; exact h.outsideSetup (fun _ hu => hu.setPos (fun _ => inc16_le _))
  | tagRead code => cases hexec; exact h.outsideSetup (fun _ hu => hu.tagRead _ _)
  | obstDeasserted => cases hexec; exact h.bringObst false
  | controlStep obst loadc =>
    cases hexec; exact ((h.bringObst obst).setPins _).outsideSetup (fun _ hu => hu.controlStep)
  | serviceStopComplete => cases hexec; exact h.serviceStopDue
  | emergencyStopComplete => cases hexec; exact h.emergencyStopDue
  | driveStall => cases hexec; exact h.stallDue
  | waitExpired => cases hexec; exact waitDue s
  | joinTimerExpiry => cases hexec; exact h.joinDue
  | beaconTimerExpiry => cases hexec; exact h.beaconDue
  | windowR1Expiry => cases hexec; exact h.windowR1Due
  | grant => cases hexec; exact h.windowR2Due
  | contestTimerExpiry => cases hexec; exact h.contestDue
  | editionRetryExpiry => cases hexec; exact h.setClaim
  | holdoffTimerExpiry => cases hexec; exact h.holdoffDue
  | entryStale set way => cases hexec; exact staleDue s _
  | liftSensorChange sup sdn loadc => cases hexec; exact (h.setPins _).judgeSensors _
  | liftTimeout => cases hexec; exact h.liftDue
  | frameClosed bits => cases hexec; exact h.receive _ bits
  | beaconReceived => cases hexec; exact h.takeKind _
  | claimReceived => cases hexec; exact h.takeKind _
  | enquireReceived => cases hexec; exact h.takeKind _
  | objectReceived => cases hexec; exact h.takeKind _
  | releaseReceived => cases hexec; exact h.takeKind _
  | withdrawReceived => cases hexec; exact h.takeKind _
  | relayReceived => cases hexec; exact h.takeKind _
  | transmissionStart => cases hexec; exact h.beginSending
  | transmissionComplete => cases hexec; exact h.completeSending
  | collision bit => cases hexec; exact h.collide bit
  | backoffEnd => cases hexec; exact h.endBackoff

theorem step {t : State} (hstep : step s = .next t) : BoundsKept s t := by
  unfold Machine.step at hstep
  split at hstep
  · cases hstep; exact (refl s).idle
  next rest _ =>
    have hrun : BoundsKept (s.setPending rest) t := exec hstep
    exact { hrun with }

end BoundsKept

end Sys2Proof.Machine

namespace Sys2Proof.Proofs

open Sys2Proof.Machine Sys2Proof.Safety

/-- Settles O5: the bounds, block by block, go through the shared operations one by one, so through every command and a
millisecond of the clock. -/
theorem queuesAndCountersStayBounded : Obligations.QueuesAndCountersStayBounded := by
  refine ⟨fun s t hs hstep => ?_, fun s t hs hparams hstep => ?_⟩
  · exact (BoundsKept.step hstep).queuesBounded hs
  · exact (BoundsKept.step hstep).countersFit hparams hs

end Sys2Proof.Proofs
end

section
/-! PROOFS. What the queries and READ_NOTICES reply, byte by byte, and what they leave (R126, R181 to R183, R187, R188). -/

-- One declaration at a time: side by side they need more threads than the check's memory holds.
set_option Elab.async false

namespace Sys2Proof.Machine

open Sys2Proof.Safety

/-! ## The rows of the commands without arguments -/

/-- A command taken in every state runs its own rule, and the reply is placed. -/
theorem State.hostCommand_inAny {α : Type} {s u : State} {kind : Nat} {args : List Byte} {read : Option α} {a : α}
    (run : State → α → Answer) (h : s.executing kind args = some u) (hr : read = some a) :
    s.hostCommand kind args (fun v => v.checked read inAny run)
      = (run u a).state.placeReply ⟨kind, (run u a).status, (run u a).results⟩ :=
  State.hostCommand_taken run h rfl hr

/-- A query replies DONE with the bytes it reads and leaves the state as it is. -/
theorem exec_queryStatus {s u : State} (h : s.executing 32 [] = some u) :
    exec (.queryStatus []) s = .next (u.placeReply ⟨32, .done, u.statusBytes⟩) :=
  congrArg _ (State.hostCommand_inAny _ h rfl)

theorem exec_queryOrders {s u : State} (h : s.executing 33 [] = some u) :
    exec (.queryOrders []) s = .next (u.placeReply ⟨33, .done, u.orders.bytes⟩) :=
  congrArg _ (State.hostCommand_inAny _ h rfl)

theorem exec_queryCounters {s u : State} (h : s.executing 34 [] = some u) :
    exec (.queryCounters []) s = .next (u.placeReply ⟨34, .done, u.counterBytes⟩) :=
  congrArg _ (State.hostCommand_inAny _ h rfl)

theorem exec_readCacheEntry {s u : State} {set way : Byte} (h : s.executing 35 [set, way] = some u) :
    exec (.readCacheEntry [set, way]) s
      = .next ((u.readCacheEntry (set.toNat, way.toNat)).state.placeReply
          ⟨35, (u.readCacheEntry (set.toNat, way.toNat)).status, (u.readCacheEntry (set.toNat, way.toNat)).results⟩) :=
  congrArg _ (State.hostCommand_inAny State.readCacheEntry h rfl)

theorem exec_readNotices {s u : State} (h : s.executing 39 [] = some u) :
    exec (.readNotices []) s
      = .next ((u.setNotice u.notice.drain).placeReply
          ⟨39, .done, listBytes Notice.bytes (u.notice.queue.take 8)⟩) :=
  congrArg _ (State.hostCommand_inAny _ h rfl)

/-! ## READ_CACHE_ENTRY (R126) -/

theorem wayOk_iff (a : Nat × Nat) : wayOk a = true ↔ a.1 < 16 ∧ a.2 < 4 := by simp [wayOk]

theorem State.readCacheEntry_of_ok (s : State) {set way : Nat} (hset : set < 16) (hway : way < 4) :
    s.readCacheEntry (set, way)
      = ⟨s, .done, ((Table.find s.cache.ways (4 * set + way)).map CacheEntry.bytes).getD invalidBytes⟩ := by
  rw [State.readCacheEntry, if_pos ((wayOk_iff _).2 ⟨hset, hway⟩)]

theorem State.readCacheEntry_of_not_ok (s : State) {set way : Nat} (h : 16 ≤ set ∨ 4 ≤ way) :
    s.readCacheEntry (set, way) = ⟨s, .refusedArgument, []⟩ := by
  rw [State.readCacheEntry, if_neg (by rw [wayOk_iff]; dsimp only; omega)]
  rfl

/-! ## QUERY_COUNTERS (R183) -/

/-- A body is of one of the seven kinds (R56). -/
theorem TxEntry.kind_mem (e : TxEntry) : 1 ≤ e.kind ∧ e.kind ≤ 7 := by
  obtain ⟨_, content, _, _, _⟩ := e
  match content with
  | .beacon => exact ⟨Nat.le_refl 1, Nat.le_add_left 1 6⟩
  | .fixed body => cases body <;> simp [TxEntry.kind, TxContent.kind, Body.kind]

/-- The entries of a class are those of its two kinds. -/
theorem countP_class_pair {cls k m : Nat} (hne : k ≠ m)
    (hclass : ∀ n, 1 ≤ n → n ≤ 7 → (kindClass n = cls ↔ n = k ∨ n = m)) (q : List TxEntry) :
    q.countP (fun e => e.class == cls) = countKind q k + countKind q m := by
  induction q with
  | nil => rfl
  | cons e q ih =>
    obtain ⟨hlo, hhi⟩ := e.kind_mem
    have h := hclass e.kind hlo hhi
    simp only [countKind, List.countP_cons, TxEntry.class, beq_iff_eq] at ih ⊢
    rw [ih, if_congr h rfl rfl]
    by_cases hk : e.kind = k
    · have hm : e.kind ≠ m := fun hm => hne (hk.symm.trans hm)
      rw [if_pos (Or.inl hk), if_pos hk, if_neg hm]
      exact Nat.add_right_comm _ _ 1
    · rw [if_congr (or_iff_right hk) rfl rfl, if_neg hk]
      exact Nat.add_assoc _ _ _

theorem countP_class_relay (q : List TxEntry) : q.countP (fun e => e.class == 3) = countKind q 7 := by
  have hclass : ∀ n, n < 8 → 1 ≤ n → (kindClass n = 3 ↔ n = 7) := by decide
  refine List.countP_congr (fun e _ => ?_)
  obtain ⟨hlo, hhi⟩ := e.kind_mem
  simpa [TxEntry.class] using hclass e.kind (by omega) hlo

/-- The queue's depths by class and the buffer's, as the kinds of the frames give them (R183). -/
theorem LaneLine.occupancyBytes_eq (l : LaneLine) :
    l.occupancyBytes
      = [BitVec.ofNat 8 (countKind l.tx 3 + countKind l.tx 4), BitVec.ofNat 8 (countKind l.tx 2 + countKind l.tx 5),
          BitVec.ofNat 8 (countKind l.tx 1 + countKind l.tx 6), BitVec.ofNat 8 (countKind l.tx 7),
          BitVec.ofNat 8 l.rx.length] := by
  have hclass {cls k m : Nat} (h : ∀ n, n < 8 → 1 ≤ n → (kindClass n = cls ↔ n = k ∨ n = m)) (n : Nat) (hlo : 1 ≤ n)
      (hhi : n ≤ 7) : kindClass n = cls ↔ n = k ∨ n = m := h n (by omega) hlo
  rw [← countP_class_relay, ← countP_class_pair (cls := 0) (by decide) (hclass (by decide)),
    ← countP_class_pair (cls := 1) (by decide) (hclass (by decide)),
    ← countP_class_pair (cls := 2) (by decide) (hclass (by decide))]
  rfl

/-! ## READ_NOTICES (R186 to R188) -/

theorem getD_map_nil {α β : Type} (f : α → List β) (o : Option α) : (o.map f).getD [] = o.toList.flatMap f := by
  cases o <;> simp

/-- A payload is returned after its length (R57). -/
theorem listBytes_payload : listBytes (fun b : Byte => [b]) = fun p => byte p.length ++ p := by
  funext p
  simp [listBytes]

theorem Notice.bytes_eq (n : Notice) :
    n.bytes = byte n.kind.code ++ byte n.kind.class ++ bytes4 n.time
      ++ byte n.tag.isSome.toNat ++ byte n.seg.isSome.toNat ++ byte n.station.isSome.toNat
      ++ byte n.detail.isSome.toNat ++ byte n.payload.isSome.toNat
      ++ n.tag.toList.flatMap bytes2 ++ n.seg.toList.flatMap byte
      ++ n.station.toList.flatMap byte ++ n.detail.toList.flatMap bytes2
      ++ n.payload.toList.flatMap (fun p => byte p.length ++ p) := by
  simp only [Notice.bytes, getD_map_nil, listBytes_payload, flagByte]

theorem NoticeUnit.drain_of_no_loss {u : NoticeUnit} (h : u.lost = 0 ∨ u.queue = []) :
    u.drain = { u with queue := u.queue.drop 8 } := by
  rw [NoticeUnit.drain, if_pos h]

/-- A loss is reported once, at the tail of what is left (R187). -/
theorem NoticeUnit.drain_of_loss {u : NoticeUnit} (hlost : u.lost ≠ 0) (hqueue : u.queue ≠ []) :
    u.drain = { u with
      queue := u.queue.drop 8 ++ [{ Notice.plain .noticesLost u.now with detail := some u.lost }], lost := 0 } := by
  rw [NoticeUnit.drain, if_neg (by simp [hlost, hqueue])]
  rfl

end Sys2Proof.Machine

namespace Sys2Proof.Proofs

open Sys2Proof.Machine Sys2Proof.Safety

/-- Settles O32: each query by its row, its bytes as the groups and fields it is made of. -/
theorem queriesChangeNothing : Obligations.QueriesChangeNothing := by
  intro s u
  refine ⟨fun h => ?_, fun h => ?_, fun h => ?_, fun set way hset hway h => ?_, fun set way hrange h => ?_⟩
  · rw [exec_queryStatus h, State.statusBytes, State.motionBytes]
    cases u.motion.figures <;> rfl
  · rw [exec_queryOrders h]; rfl
  · rw [exec_queryCounters h, State.counterBytes, LaneLine.occupancyBytes_eq]
    simp only [LineCounters.bytes, List.flatMap_cons, List.flatMap_nil, List.append_assoc, List.append_nil]
  · rw [exec_readCacheEntry h, State.readCacheEntry_of_ok u hset hway]
    cases Table.find u.cache.ways (4 * set.toNat + way.toNat) <;> rfl
  · rw [exec_readCacheEntry h, State.readCacheEntry_of_not_ok u hrange]

/-- Settles O34: what the queue's head holds is returned notice by notice, and the queue is drained. -/
theorem readNoticesDrainsTheQueue : Obligations.ReadNoticesDrainsTheQueue := by
  intro s u h
  refine ⟨_, exec_readNotices h, ?_, fun hkept => ?_, fun hlost hqueue => ?_⟩
  · rw [funext Notice.bytes_eq]; rfl
  · simp [NoticeUnit.drain_of_no_loss hkept]
  · simp [NoticeUnit.drain_of_loss hlost hqueue]

end Sys2Proof.Proofs
end

section
/-! PROOFS. What a transmission starts with (R44, R49) and what a BEACON reports (R53). -/

-- One declaration at a time: side by side they need more threads than the check's memory holds.
set_option Elab.async false

namespace Sys2Proof.Machine

/-! ## The choice (R44) -/

/-- No entry of the queue goes before the entry at `i`: each is of a lower class, or of the same class and not older. -/
def GoesFirst (q : List TxEntry) (i : Nat) (e : TxEntry) : Prop :=
  q[i]? = some e ∧ ∀ j f, q[j]? = some f → e.class < f.class ∨ (e.class = f.class ∧ i ≤ j)

theorem TxEntry.class_mem (e : TxEntry) : e.class ∈ [0, 1, 2, 3] := by
  rw [TxEntry.class, kindClass]
  split_ifs <;> decide

/-- Looking for the classes in ascending order finds the oldest entry of the first that has any. -/
theorem findSome_class_ascending (q : List TxEntry) (e₀ : TxEntry) (he₀ : e₀ ∈ q) :
    ∀ classes : List Nat, classes.Pairwise (· < ·) → e₀.class ∈ classes →
      ∃ i e, classes.findSome? (fun cls => q.findIdx? (fun e => e.class == cls)) = some i ∧ q[i]? = some e
        ∧ ∀ j f, q[j]? = some f → f.class ∈ classes → e.class < f.class ∨ (e.class = f.class ∧ i ≤ j)
  | [], _, hmem => absurd hmem List.not_mem_nil
  | cls :: classes, hsorted, hmem => by
    obtain ⟨hbelow, hsorted⟩ := List.pairwise_cons.1 hsorted
    cases hfind : q.findIdx? (fun e => e.class == cls) with
    | some i =>
      obtain ⟨hi, hcls, hfirst⟩ := List.findIdx?_eq_some_iff_getElem.1 hfind
      have hcls : q[i].class = cls := by simpa using hcls
      refine ⟨i, q[i], by simp [hfind],
        List.getElem?_eq_getElem hi, fun j f hj hf => ?_⟩
      obtain ⟨hjlt, hjf⟩ := List.getElem?_eq_some_iff.1 hj
      rcases List.mem_cons.1 hf with heq | htail
      · refine Or.inr ⟨hcls.trans heq.symm, Nat.le_of_not_lt fun hlt => hfirst j hlt ?_⟩
        simp [hjf, heq]
      · exact Or.inl (hcls ▸ hbelow _ htail)
    | none =>
      have hother : ∀ f ∈ q, f.class ≠ cls := by simpa using hfind
      have htail {f : TxEntry} (hf : f ∈ q) (hmem : f.class ∈ cls :: classes) : f.class ∈ classes :=
        (List.mem_cons.1 hmem).resolve_left (hother f hf)
      obtain ⟨i, e, hsome, hi, hfirst⟩ := findSome_class_ascending q e₀ he₀ classes hsorted (htail he₀ hmem)
      exact ⟨i, e, by simpa only [List.findSome?_cons, hfind] using hsome, hi,
        fun j f hj hf => hfirst j f hj (htail (List.mem_of_getElem? hj) hf)⟩

/-- A queue that is not empty has an entry to send: the oldest of the highest class. -/
theorem chooseTx_goesFirst {q : List TxEntry} (h : q ≠ []) : ∃ i e, chooseTx q = some i ∧ GoesFirst q i e := by
  obtain ⟨e₀, he₀⟩ := List.exists_mem_of_ne_nil q h
  obtain ⟨i, e, hsome, hi, hfirst⟩ := findSome_class_ascending q e₀ he₀ [0, 1, 2, 3] (by decide) e₀.class_mem
  exact ⟨i, e, hsome, hi, fun j f hj => hfirst j f hj f.class_mem⟩

theorem State.beginSending_of_chosen {s : State} {i : Nat} {e : TxEntry} (hidle : s.line.transmitter = .idle)
    (hchoose : chooseTx s.line.tx = some i) (hi : s.line.tx[i]? = some e) :
    s.beginSending = s.setLine { s.line with
      tx := s.line.tx.set i e.fly, transmitter := .sending (s.frameOf e) (s.frameOf e).line, abortBits := [] } := by
  simp only [State.beginSending, hidle, hchoose, hi]

/-! ## The content of a BEACON (R53) -/

theorem State.reportedUrgency_of_current {s : State} {o : Order} (h : s.currentOrder = some o) :
    s.reportedUrgency = o.urgency := by
  rw [State.reportedUrgency, h]; rfl

theorem State.reportedUrgency_of_none {s : State} (h : s.currentOrder = none) : s.reportedUrgency = 0 := by
  rw [State.reportedUrgency, h]; rfl

theorem State.currentOrder_none_of_states {s : State}
    (h : ∀ o ∈ s.orders.list, o.state ≠ .active ∧ o.state ≠ .finishing) : s.currentOrder = none :=
  List.find?_eq_none.2 fun o ho => by simp [h o ho]

theorem ClaimRecord.waitingFor_of_waiting {r : ClaimRecord} {n : Nat} (hstate : r.state = .blocked ∨ r.state = .contested)
    (hseg : r.waitSeg = some n) : r.waitingFor = n := by
  rcases hstate with h | h <;> simp [ClaimRecord.waitingFor, h, hseg]

theorem ClaimRecord.waitingFor_of_not_waiting {r : ClaimRecord} (hblocked : r.state ≠ .blocked)
    (hcontested : r.state ≠ .contested) : r.waitingFor = 0 := by
  cases h : r.state <;> simp_all [ClaimRecord.waitingFor]

theorem State.beaconBody_of_centre {s : State} {c : Centre} (h : s.pos.centre = some c) :
    s.beaconBody.centreSeg = c.seg ∧ s.beaconBody.offset = c.offset / 1000 ∧ s.beaconBody.dir = c.dir := by
  simp [State.beaconBody, h]

theorem State.frameOf_body_of_beacon {s : State} {e : TxEntry} (h : e.content = .beacon) :
    (s.frameOf e).body = .beacon s.beaconBody := by
  rw [State.frameOf, h]

theorem State.frameOf_body_of_fixed {s : State} {e : TxEntry} {b : Body} (h : e.content = .fixed b) :
    (s.frameOf e).body = b := by
  rw [State.frameOf, h]

end Sys2Proof.Machine

namespace Sys2Proof.Proofs

open Sys2Proof.Machine

/-- Settles O59: the entry `chooseTx` gives goes first, and the frame formed of it reports the blocks' present state. -/
theorem transmissionStartsWithTheHighestClass : Obligations.TransmissionStartsWithTheHighestClass := by
  intro s hidle hqueue
  obtain ⟨i, e, hchoose, hi, hfirst⟩ := chooseTx_goesFirst hqueue
  refine ⟨_, i, e, congrArg Host.Outcome.next (State.beginSending_of_chosen hidle hchoose hi), hi, hfirst,
    rfl, rfl, rfl, rfl,
    fun hbeacon => ?_, fun b hb => State.frameOf_body_of_fixed hb, rfl⟩
  exact ⟨s.beaconBody, State.frameOf_body_of_beacon hbeacon, rfl, rfl, rfl, fun c hc => State.beaconBody_of_centre hc,
    fun o ho => State.reportedUrgency_of_current ho,
    fun hnone => State.reportedUrgency_of_none (State.currentOrder_none_of_states hnone),
    fun n hstate hseg => ClaimRecord.waitingFor_of_waiting hstate hseg,
    fun hblocked hcontested => ClaimRecord.waitingFor_of_not_waiting hblocked hcontested⟩

end Sys2Proof.Proofs
end

section
/-! PROOFS. How a transmission ends: completed (R48, R49, R51, R69, R70, R72) or collided (R35, R50, R51, R74). -/

-- One declaration at a time: side by side they need more threads than the check's memory holds.
set_option Elab.async false

namespace Sys2Proof.Machine

open Sys2Proof.Safety

/-! ## What an offer to the transmit queue may change of the line (R45 to R47) -/

/-- The line but for its transmit queue and its count of dropped frames. -/
def OfferedTo (s t : State) : Prop :=
  ∃ q n, t.line = { s.line with tx := q, counters := { s.line.counters with txDropped := n } }

namespace OfferedTo

variable {s t u : State}

theorem of_line (h : t.line = s.line) : OfferedTo s t := ⟨s.line.tx, s.line.counters.txDropped, h⟩

theorem trans (h : OfferedTo s t) (h' : OfferedTo t u) : OfferedTo s u := by
  obtain ⟨q, n, ht⟩ := h
  obtain ⟨q', n', hu⟩ := h'
  exact ⟨q', n', by rw [hu, ht]⟩

end OfferedTo

theorem State.enqueue_offeredTo (s : State) (dest : Nat) (content : TxContent) : OfferedTo s (s.enqueue dest content) :=
  ⟨_, s.line.counters.txDropped, rfl⟩

theorem State.dropFrame_offeredTo (s : State) : OfferedTo s s.dropFrame := ⟨s.line.tx, _, rfl⟩

theorem State.displace_offeredTo (s : State) (t cls : Nat) (e : TxEntry) : OfferedTo s (s.displace t cls e) := by
  refine ⟨dropNewest s.line.tx cls, inc16 s.line.counters.txDropped, ?_⟩
  unfold State.displace
  split
  · simp [LaneLine.countDropped]
  · rfl

theorem State.offer_offeredTo (s : State) (t dest : Nat) (content : TxContent) :
    OfferedTo s (s.offer t dest content).1 := by
  unfold State.offer
  split
  · exact ⟨_, s.line.counters.txDropped, rfl⟩
  split
  · exact s.dropFrame_offeredTo
  split
  · exact s.enqueue_offeredTo dest content
  split
  · split
    next e _ => exact (s.displace_offeredTo t 3 e).trans (State.enqueue_offeredTo _ dest content)
    split
    next e _ => exact (s.displace_offeredTo t 2 e).trans (State.enqueue_offeredTo _ dest content)
    next => exact s.dropFrame_offeredTo.trans (.of_line (by simp))
  split
  · exact s.dropFrame_offeredTo
  · exact .of_line rfl

theorem State.sendWithdraw_offeredTo (s : State) (t number : Nat) : OfferedTo s (s.sendWithdraw t number) :=
  s.offer_offeredTo t 255 _

/-- A WITHDRAW merges with nothing: with room it joins the queue at its tail. -/
theorem State.sendWithdraw_of_room {s : State} (t number : Nat) (h : s.line.tx.length < 24) :
    s.sendWithdraw t number = s.enqueue 255 (.fixed (.withdraw number)) := by
  have hmerge : s.line.tx.any (mergesWith 255 (.fixed (.withdraw number))) = false := by
    simp [mergesWith]
  simp [State.sendWithdraw, State.send, State.offer, hmerge, TxContent.kind, Body.kind, h]

/-- A full queue that loses its entry in flight has room. -/
theorem length_landed_lt {q : List TxEntry} {e : TxEntry} (h : q.find? TxEntry.inFlight = some e) (hlen : q.length ≤ 24) :
    (q.filter (fun x => !x.inFlight)).length < 24 := by
  have hfly : e.inFlight = true := List.find?_some h
  exact Nat.lt_of_lt_of_le
    (List.length_filter_lt_length_iff_exists.2 ⟨e, List.mem_of_find?_eq_some h, by simp [hfly]⟩) hlen

/-! ## A completed transmission -/

theorem State.completeSending_of_flying {s : State} {f : Frame} {bits : List Bool} {e : TxEntry}
    (hsending : s.line.transmitter = .sending f bits) (he : s.line.tx.find? TxEntry.inFlight = some e) :
    s.completeSending = s.sent s.now e := by
  simp only [State.completeSending, hsending, inFlightEntry, he]

theorem State.sent_of_other {s : State} {e : TxEntry} (t : Nat) (h : e.kind ≠ 2) : s.sent t e = s.setLine s.line.sent := by
  simp [State.sent, h]

theorem State.sent_of_claim {s : State} {e : TxEntry} (t : Nat) (h : e.kind = 2) (hremoved : e.removed = false) :
    s.sent t e = (s.setLine s.line.sent).roundSent := by
  simp [State.sent, h, hremoved]

theorem State.sent_of_removed {s : State} {e : TxEntry} (t : Nat) (h : e.kind = 2) (hremoved : e.removed = true) :
    s.sent t e = (s.setLine s.line.sent).removalSent t := by
  simp [State.sent, h, hremoved]

/-- The window of a round starts in the claim record alone. -/
theorem State.roundSent_of_setClaim (s : State) : ∃ c, s.roundSent = s.setClaim c := by
  unfold State.roundSent
  cases s.claim.record.state with
  | queuedR1 | queuedR2 => exact ⟨_, rfl⟩
  | idle | windowR1 | windowR2 | blocked | contested | holdoff => exact ⟨s.claim, rfl⟩

theorem State.removalSent_of_none {s : State} (t : Nat) (h : s.claim.removal = none) : s.removalSent t = s := by
  simp only [State.removalSent, h]

theorem State.removalSent_of_some {s : State} (t : Nat) {r : Removal} (h : s.claim.removal = some r) :
    s.removalSent t = if r.owed then (s.setClaim { s.claim with removal := none }).sendWithdraw t r.number
      else s.setClaim { s.claim with removal := none } := by
  simp only [State.removalSent, h]

theorem State.removalSent_offeredTo (s : State) (t : Nat) : OfferedTo s (s.removalSent t) := by
  unfold State.removalSent
  split
  · exact .of_line rfl
  · simp only
    split
    · exact OfferedTo.trans (.of_line rfl) (State.sendWithdraw_offeredTo _ t _)
    · exact .of_line rfl

/-- Of the line only the queue and the count of dropped frames depend on what was sent. -/
theorem State.sent_offeredTo (s : State) (t : Nat) (e : TxEntry) : OfferedTo (s.setLine s.line.sent) (s.sent t e) := by
  unfold State.sent
  simp only
  split
  · split
    · exact State.removalSent_offeredTo _ t
    · obtain ⟨c, hc⟩ := State.roundSent_of_setClaim (s.setLine s.line.sent)
      exact .of_line (by rw [hc]; rfl)
  · exact .of_line rfl

theorem State.removalSent_frame (s : State) (t : Nat) :
    (s.removalSent t).control = s.control ∧ (s.removalSent t).motion = s.motion ∧ (s.removalSent t).pos = s.pos
      ∧ (s.removalSent t).orders = s.orders ∧ (s.removalSent t).cache = s.cache := by
  simp only [State.removalSent]
  (repeat' split) <;> simp

theorem State.sent_frame (s : State) (t : Nat) (e : TxEntry) :
    (s.sent t e).control = s.control ∧ (s.sent t e).motion = s.motion ∧ (s.sent t e).pos = s.pos
      ∧ (s.sent t e).orders = s.orders ∧ (s.sent t e).cache = s.cache := by
  unfold State.sent
  simp only
  split
  · split
    · exact State.removalSent_frame _ t
    · obtain ⟨c, hc⟩ := State.roundSent_of_setClaim (s.setLine s.line.sent)
      simp [hc]
  · simp

/-- Without a removal to answer no WITHDRAW is offered: the queue loses the entry in flight and no notice is raised. -/
theorem State.sent_of_no_removal {s : State} {e : TxEntry} (t : Nat)
    (h : e.kind ≠ 2 ∨ e.removed = false ∨ s.claim.removal = none) :
    (s.sent t e).line = s.line.sent ∧ (s.sent t e).notice = s.notice := by
  by_cases hkind : e.kind = 2
  · cases hremoved : e.removed with
    | true =>
      have hnone : s.claim.removal = none := by simpa [hkind, hremoved] using h
      rw [State.sent_of_removed t hkind hremoved, State.removalSent_of_none t (by simpa using hnone)]
      exact ⟨rfl, rfl⟩
    | false =>
      obtain ⟨c, hc⟩ := State.roundSent_of_setClaim (s.setLine s.line.sent)
      rw [State.sent_of_claim t hkind hremoved, hc]
      exact ⟨rfl, rfl⟩
  · rw [State.sent_of_other t hkind]
    exact ⟨rfl, rfl⟩

/-- A sent CLAIM starts the window of its round (R69, R70). -/
theorem State.roundSent_claim (s : State) :
    (s.claim.record.state = .queuedR1 → s.roundSent.claim
      = { s.claim with record := { s.claim.record with state := .windowR1, windowTimer := some s.params.window } })
    ∧ (s.claim.record.state = .queuedR2 → s.roundSent.claim
      = { s.claim with record := { s.claim.record with state := .windowR2, windowTimer := some s.params.window } })
    ∧ (s.claim.record.state ≠ .queuedR1 → s.claim.record.state ≠ .queuedR2 → s.roundSent.claim = s.claim) := by
  refine ⟨fun h => ?_, fun h => ?_, fun h1 h2 => ?_⟩
  · simp [State.roundSent, h, State.setRecord]
  · simp [State.roundSent, h, State.setRecord]
  · unfold State.roundSent
    split <;> simp_all

/-- A removed CLAIM that was sent ends the removal and queues the WITHDRAW owed (R48, R72). -/
theorem State.removalSent_of_room {s : State} (t : Nat) {r : Removal} (h : s.claim.removal = some r)
    (hroom : s.line.tx.length < 24) :
    (s.removalSent t).claim = { s.claim with removal := none }
      ∧ (s.removalSent t).line.tx
        = s.line.tx ++ (if r.owed then [⟨255, .fixed (.withdraw r.number), 0, false, false⟩] else []) := by
  rw [State.removalSent_of_some t h]
  cases r.owed with
  | true =>
    have hsend := State.sendWithdraw_of_room (s := s.setClaim { s.claim with removal := none }) t r.number hroom
    rw [if_pos rfl, if_pos rfl, hsend]
    exact ⟨rfl, rfl⟩
  | false => exact ⟨rfl, (List.append_nil _).symm⟩

/-! ## A collision -/

theorem State.collide_of_zero {s : State} {bit : Nat} {f : Frame} {bits : List Bool}
    (hsending : s.line.transmitter = .sending f bits) (hbit : bits[bit]? ≠ some true) : s.collide bit = s := by
  simp only [State.collide, hsending]
  split
  next hbits _ => cases hbits; rw [if_neg hbit]
  next => rfl

theorem State.collide_of_one {s : State} {bit : Nat} {f : Frame} {bits : List Bool} {e : TxEntry}
    (hsending : s.line.transmitter = .sending f bits) (he : s.line.tx.find? TxEntry.inFlight = some e)
    (hbit : bits[bit]? = some true) : s.collide bit = s.afterCollision s.now bit (e.attempts + 1) bits e := by
  simp only [State.collide, hsending, inFlightEntry, he, hbit, if_true]

/-- Dropped before the collision's marks are set, the entry in flight leaves the other entries as they are. -/
theorem LaneLine.dropInFlight_collided_tx (l : LaneLine) (own bit attempts : Nat) (bits : List Bool) :
    (l.dropInFlight.collided own bit attempts bits).tx = l.tx.filter (fun e => !e.inFlight) := by
  refine (List.map_congr_left fun e he => ?_).trans (List.map_id _)
  have hlanded : e.inFlight = false := by simpa using (List.mem_filter.1 he).2
  simp [hlanded]

/-- The line after the tenth collision of the frame in flight. -/
def State.lineDiscarded (s : State) (bit attempts : Nat) (bits : List Bool) : LaneLine :=
  (s.line.dropInFlight.collided s.control.number bit attempts bits).discarded

/-- The state once the owner of the discarded frame has been told. -/
def State.discardTold (s : State) (t bit attempts : Nat) (bits : List Bool) (e : TxEntry) : State :=
  (s.setLine (s.lineDiscarded bit attempts bits)).tellOwner t e

theorem State.afterCollision_of_ten {s : State} {attempts : Nat} (t bit : Nat) (bits : List Bool) (e : TxEntry)
    (h : 10 ≤ attempts) : s.afterCollision t bit attempts bits e
      = (s.discardTold t bit attempts bits e).degradeCheck t := by
  rw [State.afterCollision, if_pos h]; rfl

theorem State.afterCollision_of_removed {s : State} {attempts : Nat} (t bit : Nat) (bits : List Bool) {e : TxEntry}
    (h : ¬10 ≤ attempts) (hremoved : e.removed = true) : s.afterCollision t bit attempts bits e
      = (s.setLine (s.line.dropInFlight.collided s.control.number bit attempts bits)).removalNotSent := by
  rw [State.afterCollision, if_neg h, if_pos hremoved]

theorem State.afterCollision_of_kept {s : State} {attempts : Nat} (t bit : Nat) (bits : List Bool) {e : TxEntry}
    (h : ¬10 ≤ attempts) (hremoved : e.removed = false) : s.afterCollision t bit attempts bits e
      = s.setLine (s.line.collided s.control.number bit attempts bits) := by
  rw [State.afterCollision, if_neg h, if_neg (by simp [hremoved])]

/-! ## The owner of a discarded frame is told (R51, R74) -/

theorem State.tellOwner_of_removed (s : State) (t : Nat) {e : TxEntry} (h : e.removed = true) :
    s.tellOwner t e = s.removalNotSent := by
  rw [State.tellOwner, if_pos h]

theorem State.tellOwner_of_claim (s : State) (t : Nat) {e : TxEntry} (h : e.removed = false) (hkind : e.kind = 2) :
    s.tellOwner t e = s.claimUndelivered t := by
  rw [State.tellOwner, if_neg (by simp [h]), if_pos hkind]

theorem State.tellOwner_of_relay (s : State) (t : Nat) {e : TxEntry} (h : e.removed = false) (hkind : e.kind = 7) :
    s.tellOwner t e = s.relayDiscarded t e.dest := by
  rw [State.tellOwner, if_neg (by simp [h]), if_neg (by omega), if_pos hkind]

theorem State.tellOwner_of_other (s : State) (t : Nat) {e : TxEntry} (h : e.removed = false) (hclaim : e.kind ≠ 2)
    (hrelay : e.kind ≠ 7) : s.tellOwner t e = s := by
  rw [State.tellOwner, if_neg (by simp [h]), if_neg hclaim, if_neg hrelay]

theorem State.claimUndelivered_of_not_queued {s : State} (t : Nat) (h1 : s.claim.record.state ≠ .queuedR1)
    (h2 : s.claim.record.state ≠ .queuedR2) : s.claimUndelivered t = s := by
  unfold State.claimUndelivered
  split <;> simp_all

theorem State.claimUndelivered_of_queuedR1 {s : State} (t : Nat) (h : s.claim.record.state = .queuedR1) :
    s.claimUndelivered t = s.toIdle := by
  simp [State.claimUndelivered, h]

theorem State.claimUndelivered_of_queuedR2 {s : State} (t : Nat) (h : s.claim.record.state = .queuedR2) :
    s.claimUndelivered t = s.toIdle.sendWithdraw t s.claim.record.number := by
  simp [State.claimUndelivered, h]

theorem State.claimUndelivered_claim {s : State} (t : Nat)
    (h : s.claim.record.state = .queuedR1 ∨ s.claim.record.state = .queuedR2) :
    (s.claimUndelivered t).claim = s.toIdle.claim := by
  rcases h with h | h
  · rw [State.claimUndelivered_of_queuedR1 t h]
  · rw [State.claimUndelivered_of_queuedR2 t h]; simp

theorem State.claimUndelivered_cases (s : State) (t : Nat) :
    s.claimUndelivered t = s ∨ s.claimUndelivered t = s.toIdle
      ∨ s.claimUndelivered t = s.toIdle.sendWithdraw t s.claim.record.number := by
  unfold State.claimUndelivered
  split <;> simp

theorem State.claimUndelivered_offeredTo (s : State) (t : Nat) : OfferedTo s (s.claimUndelivered t) := by
  have hidle : OfferedTo s s.toIdle := .of_line (by simp)
  rcases s.claimUndelivered_cases t with h | h | h <;> rw [h]
  · exact .of_line rfl
  · exact hidle
  · exact hidle.trans (State.sendWithdraw_offeredTo _ t _)

/-- Only a CLAIM of round 2 makes its owner offer a frame. -/
theorem State.tellOwner_line {s : State} (t : Nat) {e : TxEntry}
    (h : ¬(e.kind = 2 ∧ e.removed = false ∧ s.claim.record.state = .queuedR2)) : (s.tellOwner t e).line = s.line := by
  cases hremoved : e.removed with
  | true => rw [State.tellOwner_of_removed s t hremoved]; rfl
  | false =>
    by_cases hkind : e.kind = 2
    · have h2 : s.claim.record.state ≠ .queuedR2 := fun h2 => h ⟨hkind, hremoved, h2⟩
      rw [State.tellOwner_of_claim s t hremoved hkind]
      by_cases h1 : s.claim.record.state = .queuedR1
      · simp [State.claimUndelivered_of_queuedR1 t h1]
      · rw [State.claimUndelivered_of_not_queued t h1 h2]
    · by_cases hrelay : e.kind = 7
      · simp [State.tellOwner_of_relay s t hremoved hrelay]
      · rw [State.tellOwner_of_other s t hremoved hkind hrelay]

theorem State.tellOwner_offeredTo (s : State) (t : Nat) (e : TxEntry) : OfferedTo s (s.tellOwner t e) := by
  by_cases h : e.kind = 2 ∧ e.removed = false ∧ s.claim.record.state = .queuedR2
  · obtain ⟨hkind, hremoved, -⟩ := h
    rw [State.tellOwner_of_claim s t hremoved hkind]
    exact s.claimUndelivered_offeredTo t
  · exact .of_line (State.tellOwner_line t h)

/-- The owner of a CLAIM of round 2 with room for a WITHDRAW queues it. -/
theorem State.tellOwner_line_of_queuedR2 {s : State} (t : Nat) {e : TxEntry} (hkind : e.kind = 2)
    (hremoved : e.removed = false) (hstate : s.claim.record.state = .queuedR2) (hroom : s.line.tx.length < 24) :
    (s.tellOwner t e).line
      = { s.line with tx := s.line.tx ++ [⟨255, .fixed (.withdraw s.claim.record.number), 0, false, false⟩] } := by
  rw [State.tellOwner_of_claim s t hremoved hkind, State.claimUndelivered_of_queuedR2 t hstate,
    State.sendWithdraw_of_room t _ (by simpa using hroom)]
  simp [State.enqueue]

/-- With room in the queue only a discarded RELAY raises a notice. -/
theorem State.tellOwner_notice {s : State} (t : Nat) (e : TxEntry) (hroom : s.line.tx.length < 24) :
    (s.tellOwner t e).notice
      = if e.kind = 7 ∧ e.removed = false then
          s.notice.raise { Notice.plain .relayDiscarded t with station := some e.dest }
        else s.notice := by
  cases hremoved : e.removed with
  | true => rw [State.tellOwner_of_removed s t hremoved]; simp [State.removalNotSent]
  | false =>
    by_cases hkind : e.kind = 2
    · rw [State.tellOwner_of_claim s t hremoved hkind, if_neg (by omega)]
      rcases s.claimUndelivered_cases t with h | h | h <;> rw [h]
      · simp
      · rw [State.sendWithdraw_of_room t _ (by simpa using hroom)]; simp
    · by_cases hrelay : e.kind = 7
      · rw [State.tellOwner_of_relay s t hremoved hrelay, if_pos ⟨hrelay, rfl⟩]; rfl
      · rw [State.tellOwner_of_other s t hremoved hkind hrelay, if_neg (by simp [hrelay])]

/-- What the owner learns of its claim: a removal is answered, a CLAIM of either round ends the claim. -/
theorem State.tellOwner_claim (s : State) (t : Nat) (e : TxEntry) :
    (e.removed = true → (s.tellOwner t e).claim = { s.claim with removal := none })
    ∧ (e.removed = false →
        e.kind ≠ 2 ∨ (s.claim.record.state ≠ .queuedR1 ∧ s.claim.record.state ≠ .queuedR2) →
        (s.tellOwner t e).claim = s.claim)
    ∧ (e.kind = 2 → e.removed = false → s.claim.record.state = .queuedR1 ∨ s.claim.record.state = .queuedR2 →
        (s.tellOwner t e).claim = s.toIdle.claim) := by
  refine ⟨fun hremoved => ?_, fun hremoved hother => ?_, fun hkind hremoved hqueued => ?_⟩
  · rw [State.tellOwner_of_removed s t hremoved]; rfl
  · by_cases hkind : e.kind = 2
    · obtain ⟨h1, h2⟩ := hother.resolve_left (not_not_intro hkind)
      rw [State.tellOwner_of_claim s t hremoved hkind, State.claimUndelivered_of_not_queued t h1 h2]
    · by_cases hrelay : e.kind = 7
      · simp [State.tellOwner_of_relay s t hremoved hrelay]
      · rw [State.tellOwner_of_other s t hremoved hkind hrelay]
  · rw [State.tellOwner_of_claim s t hremoved hkind, State.claimUndelivered_claim t hqueued]

theorem State.tellOwner_frame (s : State) (t : Nat) (e : TxEntry) :
    (s.tellOwner t e).control = s.control ∧ (s.tellOwner t e).pos = s.pos ∧ (s.tellOwner t e).orders = s.orders
      ∧ (s.tellOwner t e).cache = s.cache := by
  unfold State.tellOwner
  (repeat' split) <;> simp [State.removalNotSent]

/-! ## The third discard of a run (R51) -/

theorem State.degradeCheck_frame (s : State) (t : Nat) :
    (s.degradeCheck t).claim = s.claim ∧ (s.degradeCheck t).control = s.control ∧ (s.degradeCheck t).pos = s.pos
      ∧ (s.degradeCheck t).orders = s.orders ∧ (s.degradeCheck t).cache = s.cache := by
  unfold State.degradeCheck
  split <;> simp

theorem State.degradeCheck_line (s : State) (t : Nat) :
    (s.degradeCheck t).line = { s.line with degraded := s.line.degraded || decide (3 ≤ s.line.discards) } := by
  unfold State.degradeCheck
  split
  next h => simp [h]
  next h =>
    have hsame : (s.line.degraded || decide (3 ≤ s.line.discards)) = s.line.degraded := by
      cases hd : s.line.degraded <;> simp_all
    rw [hsame]

theorem State.degradeCheck_queue {s : State} (t : Nat) (h : RoomFor s.notice .lineDegraded 1) :
    (s.degradeCheck t).notice.queue
      = s.notice.queue ++ (if s.line.degraded = false ∧ 3 ≤ s.line.discards then
          [{ Notice.plain .lineDegraded t with detail := some s.line.counters.lineFail }] else []) := by
  unfold State.degradeCheck
  by_cases hd : 3 ≤ s.line.discards ∧ s.line.degraded = false
  · rw [if_pos hd, if_pos hd.symm]
    exact State.raise_queue (s := s.setLine _) h
  · rw [if_neg hd, if_neg (fun h => hd h.symm), List.append_nil]

/-! ## The frame discarded after its tenth collision -/

theorem State.lineDiscarded_tx (s : State) (bit attempts : Nat) (bits : List Bool) :
    (s.lineDiscarded bit attempts bits).tx = s.line.tx.filter (fun x => !x.inFlight) :=
  s.line.dropInFlight_collided_tx s.control.number bit attempts bits

/-- Of the discarding line only the queue, the mark and the count of dropped frames depend on the owner. -/
theorem State.discarded_line (s : State) (t bit attempts : Nat) (bits : List Bool) (e : TxEntry) :
    ∃ q n, ((s.discardTold t bit attempts bits e).degradeCheck t).line
      = { s.lineDiscarded bit attempts bits with
          tx := q, counters := { (s.lineDiscarded bit attempts bits).counters with txDropped := n }
          degraded := s.line.degraded || decide (3 ≤ min 255 (s.line.discards + 1)) } := by
  obtain ⟨q, n, hline⟩ := State.tellOwner_offeredTo (s.setLine (s.lineDiscarded bit attempts bits)) t e
  exact ⟨q, n, by rw [State.degradeCheck_line, State.discardTold, hline]; rfl⟩

/-- The other entries stay as they were. -/
theorem State.discarded_tx (s : State) (t bit attempts : Nat) (bits : List Bool) {e : TxEntry}
    (h : ¬(e.kind = 2 ∧ e.removed = false ∧ s.claim.record.state = .queuedR2)) :
    ((s.discardTold t bit attempts bits e).degradeCheck t).line.tx = s.line.tx.filter (fun x => !x.inFlight) := by
  rw [State.degradeCheck_line, State.discardTold, State.tellOwner_line t (by simpa using h)]
  exact s.lineDiscarded_tx bit attempts bits

/-- A CLAIM of round 2 is followed by its WITHDRAW at the queue's tail (R74). -/
theorem State.discarded_tx_of_queuedR2 {s : State} (t bit attempts : Nat) (bits : List Bool) {e : TxEntry}
    (hkind : e.kind = 2) (hremoved : e.removed = false) (hstate : s.claim.record.state = .queuedR2)
    (hroom : (s.line.tx.filter (fun x => !x.inFlight)).length < 24) :
    ((s.discardTold t bit attempts bits e).degradeCheck t).line.tx
      = s.line.tx.filter (fun x => !x.inFlight)
        ++ [⟨255, .fixed (.withdraw s.claim.record.number), 0, false, false⟩] := by
  have htx := s.lineDiscarded_tx bit attempts bits
  rw [State.degradeCheck_line, State.discardTold,
    State.tellOwner_line_of_queuedR2 (s := s.setLine (s.lineDiscarded bit attempts bits)) t hkind hremoved hstate
      (by simpa [htx] using hroom)]
  simp [htx]

theorem State.discarded_queue {s : State} (t bit attempts : Nat) (bits : List Bool) (e : TxEntry)
    (hroom : (s.line.tx.filter (fun x => !x.inFlight)).length < 24) (hrelay : RoomFor s.notice .relayDiscarded 2)
    (hdegraded : RoomFor s.notice .lineDegraded 2) :
    ((s.discardTold t bit attempts bits e).degradeCheck t).notice.queue
      = s.notice.queue
        ++ (if e.kind = 7 ∧ e.removed = false then
              [{ Notice.plain .relayDiscarded t with station := some e.dest }] else [])
        ++ (if s.line.degraded = false ∧ 2 ≤ s.line.discards then
              [{ Notice.plain .lineDegraded t with detail := some (min 65535 (s.line.counters.lineFail + 1)) }]
            else []) := by
  obtain ⟨hrelay, hlen⟩ := hrelay
  obtain ⟨hdegraded, -⟩ := hdegraded
  have htold : (s.discardTold t bit attempts bits e).notice = if e.kind = 7 ∧ e.removed = false then
      s.notice.raise { Notice.plain .relayDiscarded t with station := some e.dest } else s.notice :=
    State.tellOwner_notice t e (by simpa [s.lineDiscarded_tx bit attempts bits] using hroom)
  have hqueue : (s.discardTold t bit attempts bits e).notice.queue = s.notice.queue
      ++ (if e.kind = 7 ∧ e.removed = false then
            [{ Notice.plain .relayDiscarded t with station := some e.dest }] else []) := by
    rw [htold]
    split
    · exact NoticeUnit.raise_queue ⟨hrelay, by omega⟩
    · exact (List.append_nil _).symm
  have hdisabled : (s.discardTold t bit attempts bits e).notice.disabled = s.notice.disabled := by
    rw [htold]
    split
    · exact (s.raise_noticeFields _).1
    · rfl
  have hroom' : RoomFor (s.discardTold t bit attempts bits e).notice .lineDegraded 1 := by
    refine ⟨by rw [hdisabled]; exact hdegraded, ?_⟩
    rw [hqueue, List.length_append]
    split <;> simp <;> omega
  obtain ⟨q, n, hline⟩ := State.tellOwner_offeredTo (s.setLine (s.lineDiscarded bit attempts bits)) t e
  have hdiscards : 3 ≤ min 255 (s.line.discards + 1) ↔ 2 ≤ s.line.discards := by omega
  rw [State.degradeCheck_queue t hroom', hqueue, State.discardTold, hline]
  simp only [State.setLine_line, ← hdiscards]
  rfl

end Sys2Proof.Machine

namespace Sys2Proof.Proofs

open Sys2Proof.Machine Sys2Proof.Safety

/-- Settles O60: what was sent by the kind and the removal of its entry, a collision by its attempt, the discarded frame
by what its owner is told and what the third discard of a run adds. -/
theorem transmissionsCompleteOrCollide : Obligations.TransmissionsCompleteOrCollide := by
  refine ⟨fun s f bits e hsending he => ?completed,
    fun s bit f bits e hsending he => ⟨fun hbit => ?zero, fun hbit => ?one⟩, fun s n hbackoff => ?backoffEnd⟩
  case completed =>
    obtain ⟨q, n, hline⟩ := s.sent_offeredTo s.now e
    refine ⟨_, congrArg Host.Outcome.next (State.completeSending_of_flying hsending he), by rw [hline]; rfl,
      by rw [hline]; rfl,
      by rw [hline]; rfl, by rw [hline]; rfl, fun h => ?_, fun hkind => ?_, fun hkind hremoved => ?_,
      fun hkind hremoved hnone => ?_, fun r hkind hremoved hsome hlen => ?_, s.sent_frame s.now e⟩
    · obtain ⟨hsent, hnotice⟩ := State.sent_of_no_removal s.now h
      exact ⟨by rw [hsent]; rfl, hnotice⟩
    · rw [State.sent_of_other s.now hkind]; rfl
    · rw [State.sent_of_claim s.now hkind hremoved]
      exact State.roundSent_claim (s.setLine s.line.sent)
    · rw [State.sent_of_removed s.now hkind hremoved, State.removalSent_of_none (s := s.setLine s.line.sent) s.now hnone]
      rfl
    · rw [State.sent_of_removed s.now hkind hremoved]
      exact State.removalSent_of_room (s := s.setLine s.line.sent) s.now hsome (length_landed_lt he hlen)
  case zero => exact congrArg Host.Outcome.next (State.collide_of_zero hsending hbit)
  case one =>
    refine ⟨_, congrArg Host.Outcome.next (State.collide_of_one hsending he hbit), ?_⟩
    by_cases hten : 10 ≤ e.attempts + 1
    · rw [State.afterCollision_of_ten s.now bit bits e hten]
      obtain ⟨q, n, hline⟩ := s.discarded_line s.now bit (e.attempts + 1) bits e
      obtain ⟨hclaim, hcontrol, hpos, horders, hcache⟩ :=
        (s.discardTold s.now bit (e.attempts + 1) bits e).degradeCheck_frame s.now
      obtain ⟨hremoval, hother, hended⟩ :=
        (s.setLine (s.lineDiscarded bit (e.attempts + 1) bits)).tellOwner_claim s.now e
      obtain ⟨hcontrol', hpos', horders', hcache'⟩ :=
        (s.setLine (s.lineDiscarded bit (e.attempts + 1) bits)).tellOwner_frame s.now e
      have hthird : decide (3 ≤ min 255 (s.line.discards + 1)) = decide (2 ≤ s.line.discards) :=
        decide_eq_decide.2 (by omega)
      refine ⟨by rw [hline]; rfl, by rw [hline]; rfl, by rw [hline]; rfl, fun h => absurd hten (by omega),
        fun h => absurd hten (by omega), by rw [hline]; rfl, fun _ => ⟨s.discarded_tx s.now bit _ bits,
          fun hkind hremoved hstate hlen =>
            State.discarded_tx_of_queuedR2 s.now bit _ bits hkind hremoved hstate (length_landed_lt he hlen),
          by rw [hline]; rfl, by rw [hline]; rfl, fun hremoved => hclaim.trans (hremoval hremoved),
          fun hremoved h => hclaim.trans (hother hremoved h), fun hkind hremoved hqueued => ?_,
          by rw [hline, hthird],
          fun hlen => State.discarded_queue s.now bit _ bits e (length_landed_lt he hlen)⟩,
        hcontrol.trans hcontrol', hpos.trans hpos', horders.trans horders', hcache.trans hcache'⟩
      rw [hclaim, State.discardTold, hended hkind hremoved hqueued, State.toIdle_claim]
      exact ⟨rfl, rfl, rfl, rfl, rfl, rfl, rfl⟩
    · cases hremoved : e.removed with
      | true =>
        rw [State.afterCollision_of_removed s.now bit bits hten hremoved]
        exact ⟨rfl, rfl, rfl, fun _ h => absurd h (by decide),
          fun _ _ => ⟨s.line.dropInFlight_collided_tx _ bit _ bits, rfl⟩, rfl, fun h => absurd h hten,
          rfl, rfl, rfl, rfl⟩
      | false =>
        rw [State.afterCollision_of_kept s.now bit bits hten hremoved]
        exact ⟨rfl, rfl, rfl, fun _ _ => ⟨rfl, rfl, rfl, rfl⟩, fun _ h => absurd h (by decide), rfl,
          fun h => absurd h hten, rfl, rfl, rfl, rfl⟩
  case backoffEnd => simp only [exec, execBackoffEnd, State.endBackoff, hbackoff]

end Sys2Proof.Proofs
end

section
/-! PROOFS. SEND_RELAY (R46) and LINE_RESET (R35, R54, R72). -/

-- One declaration at a time: side by side they need more threads than the check's memory holds.
set_option Elab.async false

namespace Sys2Proof.Machine

open Sys2Proof.Safety

/-! ## SEND_RELAY -/

theorem exec_sendRelay {s u : State} {d n : Byte} {payload : List Byte} (h : s.executing 21 (d :: n :: payload) = some u)
    (hs : u.control.state ≠ .setup) (hlen : payload.length = n.toNat) :
    exec (.sendRelay (d :: n :: payload)) s
      = .next ((u.sendRelay (d.toNat, payload)).state.placeReply
          ⟨21, (u.sendRelay (d.toNat, payload)).status, (u.sendRelay (d.toNat, payload)).results⟩) :=
  congrArg _ (State.hostCommand_taken State.sendRelay h (by simp [notSetup, hs]) (by simp [readRelayArgs, hlen]))

theorem State.sendRelay_of_bad_length (s : State) {d : Nat} {payload : List Byte}
    (h : payload.length = 0 ∨ 32 < payload.length) : s.sendRelay (d, payload) = ⟨s, .refusedArgument, []⟩ := by
  rw [State.sendRelay, if_pos h]; rfl

theorem State.sendRelay_of_full {s : State} {d : Nat} {payload : List Byte} (hlo : 1 ≤ payload.length)
    (hhi : payload.length ≤ 32) (hfull : 6 ≤ countKind s.line.tx 7 ∨ 24 ≤ s.line.tx.length) :
    s.sendRelay (d, payload) = ⟨s, .refusedFull, []⟩ := by
  rw [State.sendRelay, if_neg (by dsimp only; omega), if_pos hfull]; rfl

/-- A RELAY merges with nothing: with room it joins the queue at its tail. -/
theorem State.send_relay {s : State} (t dest : Nat) (payload : List Byte) (h : s.line.tx.length < 24) :
    s.send t dest (.relay payload) = s.enqueue dest (.fixed (.relay payload)) := by
  have hmerge : s.line.tx.any (mergesWith dest (.fixed (.relay payload))) = false := by
    simp [mergesWith]
  simp [State.send, State.offer, hmerge, TxContent.kind, Body.kind, h]

theorem State.sendRelay_of_room {s : State} {d : Nat} {payload : List Byte} (hlo : 1 ≤ payload.length)
    (hhi : payload.length ≤ 32) (hrelays : countKind s.line.tx 7 < 6) (hroom : s.line.tx.length < 24) :
    s.sendRelay (d, payload) = ⟨s.enqueue d (.fixed (.relay payload)), .done, []⟩ := by
  rw [State.sendRelay, if_neg (by dsimp only; omega), if_neg (by omega), State.send_relay s.now d payload hroom]

/-! ## A claim that ends with an empty queue -/

/-- The WITHDRAW owed by a pending claim whose round 1 was sent (R72). -/
def ClaimRecord.withdrawal (r : ClaimRecord) : List TxEntry :=
  match r.state with
  | .windowR1 | .queuedR2 | .windowR2 => [⟨255, .fixed (.withdraw r.number), 0, false, false⟩]
  | .idle | .queuedR1 | .blocked | .contested | .holdoff => []

theorem ClaimRecord.withdrawal_length (r : ClaimRecord) : r.withdrawal.length < 24 := by
  unfold ClaimRecord.withdrawal
  split <;> simp

theorem ClaimRecord.withdrawal_no_beacon (r : ClaimRecord) : countKind r.withdrawal 1 = 0 := by
  unfold ClaimRecord.withdrawal
  split <;> rfl

theorem State.askRemoval_of_empty {s : State} (owed : Bool) (h : s.line.tx = []) : s.askRemoval owed = s := by
  have hline : ({ s.line with tx := removeClaim s.line.tx } : LaneLine) = s.line := by
    rw [show removeClaim s.line.tx = s.line.tx by rw [h]; rfl]
  rw [State.askRemoval, hline, h]
  rfl

theorem State.endClaim_of_queuedR1 {s : State} (t : Nat) (h : s.line.tx = []) (hstate : s.claim.record.state = .queuedR1) :
    s.endClaim t = s.toIdle := by
  simp only [State.endClaim, hstate, State.askRemoval_of_empty _ h]

theorem State.endClaim_of_sent {s : State} (t : Nat) (h : s.line.tx = [])
    (hstate : s.claim.record.state = .queuedR2 ∨ s.claim.record.state = .windowR1 ∨ s.claim.record.state = .windowR2) :
    s.endClaim t = (s.enqueue 255 (.fixed (.withdraw s.claim.record.number))).toIdle := by
  have hsend := State.sendWithdraw_of_room (s := s) t s.claim.record.number (by simp [h])
  rcases hstate with hs | hs | hs <;> simp only [State.endClaim, hs, State.askRemoval_of_empty _ h, hsend]

theorem State.endClaim_of_not_pending {s : State} (t : Nat) (h : s.claim.record.state.isPending = false) :
    s.endClaim t = s := by
  unfold State.endClaim
  cases hs : s.claim.record.state <;> simp_all [ClaimState.isPending]

/-- With an empty queue the end of a claim leaves there what it owes, and raises nothing. -/
theorem State.endClaim_of_empty {s : State} (t : Nat) (h : s.line.tx = []) :
    (s.endClaim t).line = { s.line with tx := s.claim.record.withdrawal } ∧ (s.endClaim t).notice = s.notice
      ∧ (s.claim.record.state.isPending = true → (s.endClaim t).claim = s.toIdle.claim) := by
  have hline : s.line = { s.line with tx := [] } := by rw [← h]
  cases hs : s.claim.record.state with
  | queuedR1 =>
    rw [State.endClaim_of_queuedR1 t h hs]
    simpa [ClaimRecord.withdrawal, hs] using hline
  | queuedR2 | windowR1 | windowR2 =>
    rw [State.endClaim_of_sent t h (by simp [hs])]
    simp [ClaimRecord.withdrawal, hs, State.enqueue, h, State.toIdle_claim]
  | idle | blocked | contested | holdoff =>
    rw [State.endClaim_of_not_pending t (by simp [hs, ClaimState.isPending])]
    simpa [ClaimRecord.withdrawal, hs, ClaimState.isPending] using hline

/-! ## LINE_RESET -/

theorem exec_lineReset {s u : State} (h : s.executing 22 [] = some u) (hs : u.control.state ≠ .setup) :
    exec (.lineReset []) s = .next ((u.lineReset u.now).placeReply ⟨22, .done, []⟩) :=
  congrArg _ (State.hostCommand_taken (fun s _ => ⟨s.lineReset s.now, .done, []⟩) h (by simp [notSetup, hs]) rfl)

theorem State.relaysLost_eq (s : State) (t n : Nat) :
    s.relaysLost t n = s.setNotice (if n = 0 then s.notice
      else s.notice.raise { Notice.plain .relayDiscarded t with detail := some n }) := by
  unfold State.relaysLost
  split
  · rfl
  · rfl

/-- The state in which LINE_RESET ends the pending claim: the line cleared, its lost RELAY frames reported and no removal
outstanding. -/
def State.lineCleared (s : State) (t : Nat) : State :=
  ((s.setLine s.line.lineReset).relaysLost t (countKind s.line.tx 7)).setClaim { s.claim with removal := none }

theorem State.lineCleared_frame (s : State) (t : Nat) :
    (s.lineCleared t).control = s.control ∧ (s.lineCleared t).pos = s.pos ∧ (s.lineCleared t).orders = s.orders
      ∧ (s.lineCleared t).cache = s.cache ∧ (s.lineCleared t).line = s.line.lineReset
      ∧ (s.lineCleared t).claim = { s.claim with removal := none } := by
  simp [State.lineCleared, State.relaysLost_eq]

theorem State.lineCleared_notice (s : State) (t : Nat) :
    (s.lineCleared t).notice = if countKind s.line.tx 7 = 0 then s.notice
      else s.notice.raise { Notice.plain .relayDiscarded t with detail := some (countKind s.line.tx 7) } := by
  simp [State.lineCleared, State.relaysLost_eq]

/-- The BEACON joins what the ended claim left in the queue. -/
theorem State.lineReset_eq (s : State) (t : Nat) :
    s.lineReset t = ((s.lineCleared t).endClaim t).enqueue 255 .beacon := by
  obtain ⟨-, -, -, -, hline, hclaim⟩ := s.lineCleared_frame t
  obtain ⟨hended, -, -⟩ := State.endClaim_of_empty (s := s.lineCleared t) t (by rw [hline]; rfl)
  have hreset : s.lineReset t = ((s.lineCleared t).endClaim t).offerBeacon t := by
    simp [State.lineReset, State.lineCleared, State.relaysLost_eq]
  rw [hreset]
  refine State.offerBeacon_enqueued t ?_ ?_ <;> rw [hended]
  · exact ClaimRecord.withdrawal_length _
  · exact ClaimRecord.withdrawal_no_beacon _

theorem State.lineReset_line (s : State) (t : Nat) :
    (s.lineReset t).line
      = { s.line.lineReset with tx := s.claim.record.withdrawal ++ [⟨255, .beacon, 0, false, false⟩] } := by
  obtain ⟨-, -, -, -, hline, hclaim⟩ := s.lineCleared_frame t
  obtain ⟨hended, -, -⟩ := State.endClaim_of_empty (s := s.lineCleared t) t (by rw [hline]; rfl)
  rw [State.lineReset_eq, State.enqueue, State.setLine_line, hended, hline, hclaim]

theorem State.lineReset_notice (s : State) (t : Nat) :
    (s.lineReset t).notice = if countKind s.line.tx 7 = 0 then s.notice
      else s.notice.raise { Notice.plain .relayDiscarded t with detail := some (countKind s.line.tx 7) } := by
  obtain ⟨-, -, -, -, hline, -⟩ := s.lineCleared_frame t
  obtain ⟨-, hnotice, -⟩ := State.endClaim_of_empty (s := s.lineCleared t) t (by rw [hline]; rfl)
  rw [State.lineReset_eq, State.enqueue, State.setLine_notice, hnotice, State.lineCleared_notice]

/-- A pending claim ends; a wait or an idle record stays. No removal is left outstanding. -/
theorem State.lineReset_claim (s : State) (t : Nat) :
    (s.lineReset t).claim = if s.claim.record.state.isPending then
        { s.claim with
          record := s.claim.record.toIdle, peerWait := none, waitLimitYield := false, removal := none }
      else { s.claim with removal := none } := by
  obtain ⟨-, -, -, -, hline, hclaim⟩ := s.lineCleared_frame t
  obtain ⟨-, -, hended⟩ := State.endClaim_of_empty (s := s.lineCleared t) t (by rw [hline]; rfl)
  rw [State.lineReset_eq, State.enqueue, State.setLine_claim]
  split
  next h => rw [hended (by rw [hclaim]; exact h), State.toIdle_claim, hclaim]
  next h =>
    have hnot : (s.lineCleared t).claim.record.state.isPending = false := by rw [hclaim]; simpa using h
    rw [State.endClaim_of_not_pending t hnot, hclaim]

theorem State.lineReset_frame (s : State) (t : Nat) :
    (s.lineReset t).control = s.control ∧ (s.lineReset t).pos = s.pos ∧ (s.lineReset t).orders = s.orders
      ∧ (s.lineReset t).cache = s.cache := by
  obtain ⟨hcontrol, hpos, horders, hcache, -, -⟩ := s.lineCleared_frame t
  simp [State.lineReset_eq, hcontrol, hpos, horders, hcache]

theorem LaneLine.stopBits_of_sending {l : LaneLine} {f : Frame} {bits : List Bool} (h : l.transmitter = .sending f bits) :
    l.stopBits = List.replicate 8 true := by
  simp [LaneLine.stopBits, h, Transmitter.isSending, abortPattern]

end Sys2Proof.Machine

namespace Sys2Proof.Proofs

open Sys2Proof.Machine Sys2Proof.Safety

/-- Settles O29: SEND_RELAY by the branch its payload and the queue take; LINE_RESET block by block. -/
theorem relaysQueueAndLineResetClears : Obligations.RelaysQueueAndLineResetClears := by
  refine ⟨fun s u d n payload h hs hlen => ⟨fun hbad => ?_, fun hlo hhi => ⟨fun hfull => ?_, fun hrelays hroom => ?_⟩⟩,
    fun s u h hs => ?_⟩
  · rw [exec_sendRelay h hs hlen, State.sendRelay_of_bad_length u hbad]
  · rw [exec_sendRelay h hs hlen, State.sendRelay_of_full hlo hhi hfull]
  · rw [exec_sendRelay h hs hlen, State.sendRelay_of_room hlo hhi hrelays hroom]; rfl
  · have hline : ((u.lineReset u.now).placeReply ⟨22, .done, []⟩).line = _ := u.lineReset_line u.now
    have hnotice : ((u.lineReset u.now).placeReply ⟨22, .done, []⟩).notice = _ := u.lineReset_notice u.now
    have hclaim : ((u.lineReset u.now).placeReply ⟨22, .done, []⟩).claim = _ := u.lineReset_claim u.now
    obtain ⟨hcontrol, hpos, horders, hcache⟩ := u.lineReset_frame u.now
    refine ⟨_, exec_lineReset h hs, hcontrol, by rw [hline]; rfl, by rw [hline]; rfl, by rw [hline]; rfl,
      by rw [hline]; rfl, by rw [hline]; rfl, by rw [hline]; rfl, by rw [hline]; rfl,
      fun f bits hsending => by rw [hline]; exact LaneLine.stopBits_of_sending hsending, by rw [hline]; rfl,
      fun hpending => ?_, fun hnot => ?_, ?_, ?_, ?_, hcache, horders, hpos, rfl, fun hroom hlost => ?_, fun hnone => ?_⟩
    · rw [hclaim, if_pos hpending]; rfl
    · rw [hclaim, if_neg (by simp [hnot])]
    · rw [hclaim]; split <;> rfl
    · rw [hclaim]; split <;> rfl
    · rw [hclaim]; split <;> rfl
    · rw [hnotice, if_neg hlost]; exact NoticeUnit.raise_queue hroom
    · rw [hnotice, if_pos hnone]

end Sys2Proof.Proofs
end

section
/-! PROOFS. The selectors (R41), which destinations they and the own number recognise (R40), and which commands set the
selectors. -/

-- One declaration at a time: side by side they need more threads than the check's memory holds.
set_option Elab.async false

namespace Sys2Proof.Machine

open Sys2Proof.Safety

/-! ## The selectors (R41) -/

/-- The mask clears the bits that do not count; the rest agree bit by bit. -/
theorem Selector.matches_iff (g : Selector) (code : Byte) :
    g.matches code = true ↔ ∀ i < 8, g.mask.getLsbD i = false → code.getLsbD i = g.value.getLsbD i := by
  rw [Selector.matches, beq_iff_eq]
  constructor
  · intro h i hi hmask
    have hbit := congrArg (fun b : Byte => b.getLsbD i) h
    simpa only [BitVec.getLsbD_and, BitVec.getLsbD_not, hi, hmask, decide_true, Bool.not_false, Bool.and_true] using hbit
  · intro h
    refine BitVec.eq_of_getLsbD_eq fun i hi => ?_
    cases hmask : g.mask.getLsbD i with
    | true => simp [hmask]
    | false => simp [hmask, h i hi hmask]

/-- With no bit masked only the value itself matches. -/
theorem Selector.matches_of_mask_zero (v code : Byte) : (Selector.mk v 0).matches code = true ↔ code = v := by
  rw [Selector.matches, beq_iff_eq, show ~~~(0 : Byte) = BitVec.allOnes 8 from rfl, BitVec.and_allOnes, BitVec.and_allOnes]

/-- With the low half masked the sixteen codes of a row match. -/
theorem Selector.matches_row (code : Byte) :
    (Selector.mk 160 15).matches code = true ↔ 160 ≤ code.toNat ∧ code.toNat ≤ 175 := by
  decide +revert

/-! ## Address recognition (R40) -/

theorem Control.recognises_group (k : Control) {d : Nat} (hlo : 128 ≤ d) (hhi : d ≤ 254) :
    k.recognises d = true ↔
      k.group1.matches (BitVec.ofNat 8 d) = true ∨ k.group2.matches (BitVec.ofNat 8 d) = true := by
  rw [Control.recognises, if_neg (by omega), if_pos ⟨hlo, hhi⟩, Bool.or_eq_true]

theorem Control.recognises_broadcast (k : Control) : k.recognises 255 = true := rfl

theorem Control.recognises_station (k : Control) {d : Nat} (hlo : 1 ≤ d) (hhi : d ≤ 60) :
    k.recognises d = true ↔ d = k.number := by
  rw [Control.recognises, if_neg (by omega), if_neg (by omega), if_pos ⟨hlo, hhi⟩, beq_iff_eq]

theorem Control.recognises_none (k : Control) {d : Nat} (h : d = 0 ∨ (61 ≤ d ∧ d ≤ 127)) : k.recognises d = false := by
  rw [Control.recognises, if_neg (by omega), if_neg (by omega), if_neg (by omega)]

/-! ## Which commands leave the selectors as they are -/

/-- Both selectors are as they were. -/
def SelectorsKept (s t : State) : Prop := t.control.group1 = s.control.group1 ∧ t.control.group2 = s.control.group2

theorem SelectorsKept.of_configuration {s t : State} (h : ConfigurationKept s t) : SelectorsKept s t := by
  obtain ⟨-, -, -, -, -, hgroups⟩ := h
  exact hgroups

theorem SelectorsKept.refl (s : State) : SelectorsKept s s := ⟨rfl, rfl⟩

theorem SelectorsKept.of_control {s t : State} (h : t.control = s.control) : SelectorsKept s t := by
  rw [SelectorsKept, h]
  exact ⟨rfl, rfl⟩

theorem SelectorsKept.trans {s t u : State} (h : SelectorsKept s t) (h' : SelectorsKept t u) : SelectorsKept s u := by
  obtain ⟨h1, h2⟩ := h
  obtain ⟨h1', h2'⟩ := h'
  exact ⟨h1'.trans h1, h2'.trans h2⟩

/-- A host command leaves the selectors as its own rule does. -/
theorem State.hostCommand_selectorsKept {s : State} {kind : Nat} {args : List Byte} {run : State → Answer}
    (h : ∀ u, SelectorsKept u (run u).state) : SelectorsKept s (s.hostCommand kind args run) := by
  cases he : s.executing kind args with
  | none => rw [State.hostCommand_of_other s kind args run he]; exact .refl s
  | some u =>
    rw [State.hostCommand_of_executing s u kind args run he]
    exact (SelectorsKept.of_configuration (State.executing_setupKept he).1).trans ((h u).trans (.of_control (by simp)))

/-- A command refused by its checks changes nothing; past them its own rule decides. -/
theorem State.hostChecked_selectorsKept {α : Type} {s : State} {kind : Nat} {args : List Byte} {read : Option α}
    {taken : StationState → Bool} {run : State → α → Answer} (h : ∀ u a, SelectorsKept u (run u a).state) :
    SelectorsKept s (s.hostCommand kind args (fun u => u.checked read taken run)) := by
  refine State.hostCommand_selectorsKept fun u => ?_
  unfold State.checked
  split
  · exact .refl u
  split
  · exact h u _
  · exact .refl u

theorem State.setParameter_selectorsKept (s : State) (a : Nat × Nat) : SelectorsKept s (s.setParameter a).state := by
  simp only [State.setParameter]
  (repeat' split) <;> exact .of_control rfl

theorem State.loadSegment_selectorsKept (s : State) (a : SegmentArgs) : SelectorsKept s (s.loadSegment a).state := by
  simp only [State.loadSegment]
  (repeat' split) <;> exact .of_control rfl

theorem State.loadTagWindow_selectorsKept (s : State) (a : Nat × TagWindow) :
    SelectorsKept s (s.loadTagWindow a).state := by
  simp only [State.loadTagWindow]
  (repeat' split) <;> exact .of_control rfl

/-- START is refused, or has its effects (R23, R24). -/
theorem State.start_cases (s : State) (a : StartArgs) :
    (s.start a).state = s ∨ ∃ c run, (s.start a).state = s.started c run := by
  unfold State.start
  split
  · exact .inl rfl
  split
  · exact .inl rfl
  split
  · split
    · exact .inl rfl
    split
    · exact .inl rfl
    · exact .inr ⟨_, _, rfl⟩
  · exact .inl rfl

theorem State.start_selectorsKept (s : State) (a : StartArgs) : SelectorsKept s (s.start a).state := by
  obtain h | ⟨c, run, h⟩ := s.start_cases a
  · rw [h]; exact .refl s
  · simp [h, SelectorsKept, State.started]

/-- In SETUP too every command but SET_STATION and power-on reset leaves the selectors as they are. -/
theorem exec_selectorsKept (c : Instr) (s t : State) (hreset : c ≠ .powerOnReset) (hstation : ∀ args, c ≠ .setStation args)
    (h : exec c s = .next t) : SelectorsKept s t := by
  cases c with
  | powerOnReset => exact absurd rfl hreset
  | setStation args => exact absurd rfl (hstation args)
  | setParameter args => cases h; exact State.hostChecked_selectorsKept State.setParameter_selectorsKept
  | loadSegment args => cases h; exact State.hostChecked_selectorsKept State.loadSegment_selectorsKept
  | loadTagWindow args => cases h; exact State.hostChecked_selectorsKept State.loadTagWindow_selectorsKept
  | setEdition args => cases h; exact State.hostChecked_selectorsKept (fun u _ => .of_control rfl)
  | start args => cases h; exact State.hostChecked_selectorsKept State.start_selectorsKept
  | submitOrder args =>
    cases h
    exact State.hostChecked_selectorsKept (fun u a => .of_configuration (u.submitOrder_configurationKept a))
  | cancelOrder args =>
    cases h
    exact State.hostChecked_selectorsKept (fun u a => .of_configuration (u.cancelOrder_configurationKept a))
  | stop args =>
    cases h
    exact State.hostChecked_selectorsKept (fun u _ => .of_configuration (u.halt_setupKept _ _).1)
  | resume args =>
    cases h
    exact State.hostChecked_selectorsKept (fun u _ => .of_configuration u.resume_configurationKept)
  | restart args =>
    cases h
    exact State.hostChecked_selectorsKept (fun u _ => .of_configuration u.restart_configurationKept)
  | sendRelay args =>
    cases h
    exact State.hostChecked_selectorsKept (fun u a => .of_configuration (u.sendRelay_configurationKept a))
  | lineReset args =>
    cases h
    exact State.hostChecked_selectorsKept (fun u _ => .of_configuration (u.lineReset_setupKept _).1)
  | clearLift args =>
    cases h
    exact State.hostChecked_selectorsKept (fun u _ => .of_configuration u.clearLift_configurationKept)
  | forgetStation args =>
    cases h
    exact State.hostChecked_selectorsKept (fun u n => .of_configuration (u.forgetStation_configurationKept n))
  | readCacheEntry args =>
    cases h
    exact State.hostChecked_selectorsKept (fun u a => .of_configuration (u.readCacheEntry_configurationKept a))
  | invalidateCacheEntry args =>
    cases h
    exact State.hostChecked_selectorsKept (fun u a => .of_configuration (u.invalidateEntry_configurationKept a))
  | invalidateCacheSegment args =>
    cases h
    exact State.hostChecked_selectorsKept (fun u n => .of_configuration (u.invalidateSegment_configurationKept n))
  | invalidateCacheSet args =>
    cases h
    exact State.hostChecked_selectorsKept (fun u n => .of_configuration (u.invalidateSet_configurationKept n))
  | enableNotices args =>
    cases h
    exact State.hostChecked_selectorsKept (fun u codes => .of_configuration (u.enableNotices_configurationKept codes))
  | disableNotices args =>
    cases h
    exact State.hostChecked_selectorsKept (fun u codes => .of_configuration (u.disableNotices_configurationKept codes))
  | queryStatus args | queryOrders args | queryCounters args | readNotices args | setAttention args
  | readFaultRecord args | clearFaultRecord args =>
    cases h
    exact State.hostChecked_selectorsKept (fun u _ => .of_control rfl)
  | unknownCommand kind args =>
    change execUnknownCommand kind args s = .next t at h
    unfold execUnknownCommand at h
    split at h <;> cases h
    · exact .refl s
    · exact State.hostCommand_selectorsKept (fun u => .refl u)
  | commandTransaction hdi began | readTransaction hdi began =>
    cases h
    exact .of_configuration (s.transaction_configurationKept hdi began)
  | encoderPulse => cases h; exact .of_configuration (State.outsideSetup_configurationKept (configurationKept_refl s))
  | tagRead code =>
    cases h
    exact .of_configuration (State.outsideSetup_configurationKept (s.tagRead_setupKept _ _).1)
  | obstDeasserted => cases h; exact .of_configuration (s.bringObst_configurationKept false)
  | controlStep obst loadc => cases h; exact .of_configuration (s.stepped_configurationKept obst loadc)
  | joinTimerExpiry => cases h; exact .of_configuration s.joinDue_configurationKept
  | serviceStopComplete => cases h; exact .of_configuration s.serviceStopDue_setupKept.1
  | emergencyStopComplete => cases h; exact .of_configuration s.emergencyStopDue_setupKept.1
  | driveStall => cases h; exact .of_configuration s.stallDue_setupKept.1
  | waitExpired => cases h; exact .of_configuration s.waitDue_setupKept.1
  | beaconTimerExpiry => cases h; exact .of_configuration s.beaconDue_setupKept.1
  | windowR1Expiry => cases h; exact .of_configuration s.windowR1Due_setupKept.1
  | grant => cases h; exact .of_configuration s.windowR2Due_setupKept.1
  | contestTimerExpiry => cases h; exact .of_configuration s.contestDue_setupKept.1
  | editionRetryExpiry => cases h; exact .of_control rfl
  | holdoffTimerExpiry => cases h; exact .of_configuration s.holdoffDue_setupKept.1
  | entryStale set way => cases h; exact .of_configuration (s.staleDue_setupKept _).1
  | liftSensorChange sup sdn loadc =>
    cases h
    exact .of_configuration ((s.bringSensors sup sdn loadc).judgeSensors_setupKept _).1
  | liftTimeout => cases h; exact .of_configuration s.liftDue_setupKept.1
  | frameClosed bits => cases h; exact .of_configuration (s.receive_setupKept _ bits).1
  | beaconReceived | claimReceived | enquireReceived | objectReceived | releaseReceived | withdrawReceived
  | relayReceived =>
    cases h
    exact .of_configuration (s.takeKind_setupKept _).1
  | transmissionStart => cases h; exact .of_configuration s.beginSending_setupKept.1
  | transmissionComplete => cases h; exact .of_configuration s.completeSending_setupKept.1
  | collision bit => cases h; exact .of_configuration (s.collide_setupKept bit).1
  | backoffEnd => cases h; exact .of_configuration s.endBackoff_setupKept.1

/-! ## A GOOD frame of another station, by its destination -/

/-- The destinations a sent frame may carry, given that this station recognises the one it carries. -/
theorem FrameFits.dest_of_recognised {f : Frame} {k : Control} (h : FrameFits f) (hours : k.recognises f.dest = true) :
    (f.body.kind ≠ 3 → f.body.kind ≠ 7 → f.dest = 255) ∧ (f.body.kind = 3 → f.dest = k.number) := by
  obtain ⟨-, -, -, hobject, hbroadcast, -⟩ := h
  refine ⟨hbroadcast, fun hkind => ?_⟩
  obtain ⟨hlo, hhi⟩ := hobject hkind
  exact (k.recognises_station hlo hhi).1 hours

theorem exec_frameClosed_of_other {s : State} {f : Frame} (hhunt : s.line.receiver = .hunt 7) (hfits : FrameFits f)
    (hother : f.source ≠ s.control.number)
    (hquiet : s.line.transmitter = .idle ∨ ∃ n, s.line.transmitter = .backoff n) :
    exec (.frameClosed f.line) s = .next
      (if f.dest = 0 then s.afterFlag.countLine (fun k => { k with noStation := inc16 k.noStation })
        else if s.control.recognises f.dest then s.afterFlag.bufferFrame s.notice.now f else s.afterFlag) := by
  have hidle (g : Frame) (sent : List Bool) : s.line.transmitter ≠ .sending g sent := by
    obtain h | ⟨n, h⟩ := hquiet <;> simp [h]
  rw [exec_frameClosed_good hfits hidle (.inl ⟨hhunt, rfl⟩), State.goodFrame_of_other (s := s.afterFlag) _ hother]
  rfl

end Sys2Proof.Machine

namespace Sys2Proof.Proofs

open Sys2Proof.Machine Sys2Proof.Safety

/-- Settles O58: matching bit by bit, recognition by the range of the destination, the selectors through every command, and
a frame of another station by what recognises its destination. -/
theorem selectorMatchesWhereTheMaskIsClear : Obligations.SelectorMatchesWhereTheMaskIsClear := by
  refine ⟨Selector.matches_iff, Selector.matches_of_mask_zero 0, Selector.matches_row, Selector.matches_of_mask_zero 200,
    fun k d => k.recognises_group, Control.recognises_broadcast, fun k => k.recognises_none (.inl rfl),
    fun k d => k.recognises_station, fun k d hlo hhi => k.recognises_none (.inr ⟨hlo, hhi⟩), fun s t h => ?_,
    exec_selectorsKept, fun s u n v1 m1 v2 m2 h hs hlo hhi => ?_, fun s f hhunt hfits hother hquiet => ?_⟩
  · cases h; exact ⟨rfl, rfl⟩
  · refine ⟨_, exec_setStation_inSetup h hs rfl, ?_⟩
    rw [State.setStation_of_ok u _ ⟨hlo, hhi⟩]
    exact ⟨rfl, rfl⟩
  · have hclosed := exec_frameClosed_of_other hhunt hfits hother hquiet
    refine ⟨fun hdest => ?_, fun hdest hnot => ?_, fun hours => ⟨?_, FrameFits.dest_of_recognised hfits hours⟩⟩
    · rw [hclosed, if_pos hdest]; rfl
    · rw [hclosed, if_neg hdest, if_neg (by simp [hnot])]; rfl
    · have hdest : f.dest ≠ 0 := fun h0 => by simp [h0, Control.recognises_none s.control (.inl rfl)] at hours
      rw [hclosed, if_neg hdest, if_pos hours]; rfl

end Sys2Proof.Proofs
end

section
/-! PROOFS. What the receiver makes of the bits between flags (R35, R37): a frame in HUNT, a last run of five 1s before the
closing flag, seven 1s, 392 content bits. -/

-- One declaration at a time: side by side they need more threads than the check's memory holds.
set_option Elab.async false

namespace Sys2Proof.Machine

open Sys2Proof.Safety

/-! ## A flag in HUNT -/

/-- The flag's own 0 ends a run of 1s that is not six, and the flag is then read whole. -/
theorem Receiver.takeAll_flag_in_hunt {n : Nat} (h : n ≠ 6) : (Receiver.hunt n).takeAll flagBits = (.frame 0 [], []) := by
  have hzero : (Receiver.hunt n).take false = (.hunt 0, none) := by simp [Receiver.take, h]
  rw [show flagBits = false :: [true, true, true, true, true, true, false] from rfl, Receiver.takeAll_cons, hzero]
  decide

theorem Frame.takeAll_line_in_hunt {f : Frame} {n : Nat} (hfits : FrameFits f) (h : n ≠ 6) :
    (Receiver.hunt n).takeAll f.line = (.frame 0 [], [.flag (bitsOf f.content)]) := by
  rw [Frame.line, Receiver.takeAll_append, Receiver.takeAll_flag_in_hunt h, Frame.takeAll_after_flag hfits]
  rfl

/-! ## The last bit taken -/

/-- Where a 0 leaves content gathered, the run of 1s is over, and the 0 was inserted or is the last content bit. -/
theorem Receiver.take_false_gathers {r : Receiver} {k : Nat} {content : List Bool}
    (h : r.take false = (.frame k content, none)) :
    k = 0 ∧ (r = .frame 5 content ∨ content = [] ∨ content.getLast? = some false) := by
  cases r with
  | off => simp [Receiver.take] at h
  | hunt ones =>
    simp only [Receiver.take] at h
    split at h
    · injection h with h; injection h with hk hcontent
      exact ⟨hk.symm, .inr (.inl hcontent.symm)⟩
    · simp at h
  | frame ones gathered =>
    simp only [Receiver.take] at h
    split at h
    · simp at h
    split at h
    next hfive =>
      injection h with h; injection h with hk hcontent
      exact ⟨hk.symm, .inl (by rw [hfive, hcontent])⟩
    · simp only [gatherBit] at h
      split at h
      · simp at h
      · injection h with h; injection h with hk hcontent
        exact ⟨hk.symm, .inr (.inr (by simp [← hcontent]))⟩

/-- Bits that end in a 0 and close no frame were gathered up to a last 0. -/
theorem Receiver.takeAll_concat_false {r : Receiver} {l : List Bool} {k : Nat} {content : List Bool}
    (h : r.takeAll (l ++ [false]) = (.frame k content, [])) :
    (r.takeAll l).2 = [] ∧ (r.takeAll l).1.take false = (.frame k content, none) := by
  rw [Receiver.takeAll_append, Receiver.takeAll_cons, Prod.mk.injEq, List.append_eq_nil_iff] at h
  obtain ⟨hstate, hbefore, hlast⟩ := h
  rw [List.append_eq_nil_iff] at hlast
  exact ⟨hbefore, Prod.ext hstate (by simpa [Option.toList_eq_nil_iff] using hlast.1)⟩

/-- The run of 1s is over after stuffed content that does not end in a 1. -/
theorem Receiver.takeAll_stuff_of_last {content : List Bool} (hlen : content.length < 392)
    (hlast : (stuff 0 content).getLast? ≠ some true) :
    (Receiver.frame 0 []).takeAll (stuff 0 content) = (.frame 0 content, []) := by
  obtain ⟨k, -, hall⟩ := Receiver.takeAll_stuff content 0 [] (by omega) (by simpa using hlen)
  rw [List.nil_append] at hall
  obtain hnil | ⟨l, b, hl⟩ := List.eq_nil_or_concat (stuff 0 content)
  · rw [hnil] at hall ⊢
    injection hall with hall _
    injection hall with _ hcontent
    rw [← hcontent]; rfl
  · rw [List.concat_eq_append] at hl
    have hb : b = false := by simpa [hl] using hlast
    have hend : (Receiver.frame 0 []).takeAll (l ++ [false]) = (.frame k content, []) := by rw [← hb, ← hl]; exact hall
    obtain ⟨hk, -⟩ := Receiver.take_false_gathers (Receiver.takeAll_concat_false hend).2
    rw [hall, hk]

/-! ## A last run of five 1s -/

/-- Without the zero inserted after it, a last run of five 1s is still open. -/
theorem Receiver.takeAll_dropLast_stuff {content : List Bool} (hlen : content.length < 392)
    (hone : content.getLast? = some true) (hzero : (stuff 0 content).getLast? = some false) :
    (Receiver.frame 0 []).takeAll (stuff 0 content).dropLast = (.frame 5 content, []) := by
  obtain ⟨k, -, hall⟩ := Receiver.takeAll_stuff content 0 [] (by omega) (by simpa using hlen)
  obtain ⟨l, hl⟩ := List.getLast?_eq_some_iff.1 hzero
  rw [hl, List.nil_append] at hall
  obtain ⟨hclosed, htake⟩ := Receiver.takeAll_concat_false hall
  obtain ⟨-, hopen | hnil | hfalse⟩ := Receiver.take_false_gathers htake
  · rw [hl, List.dropLast_concat]
    exact Prod.ext hopen hclosed
  · simp [hnil] at hone
  · simp [hfalse] at hone

/-- The closing flag's 0 stands in place of the zero inserted after a last run of five 1s. -/
theorem Receiver.takeAll_flag_after_five {content : List Bool} (hone : content.getLast? = some true)
    (hlen : content.length ≤ 385) : (Receiver.frame 5 content).takeAll flagBits = (.frame 0 [], [.flag content]) := by
  obtain ⟨init, rfl⟩ := List.getLast?_eq_some_iff.1 hone
  have hzero : (Receiver.frame 5 (init ++ [true])).takeAll [false] = (.frame 0 (init ++ [true]), []) := rfl
  have hgathered := Receiver.takeAll_ones 5 0 (init ++ [true]) (by omega) (by omega)
  rw [List.append_assoc, List.singleton_append] at hgathered
  rw [show flagBits = [false] ++ (List.replicate 5 true ++ [true, false]) from rfl, Receiver.takeAll_append, hzero,
    Receiver.takeAll_append, hgathered]
  simp only [Receiver.takeAll, Receiver.take, Nat.zero_add, Nat.lt_irrefl, if_false, if_true, withoutFlag_after_ones,
    Option.toList, List.nil_append, List.append_nil]

/-! ## Seven 1s -/

/-- Five 1s are gathered, the sixth may be a flag's, the seventh ends the frame (R37). -/
theorem Receiver.takeAll_seven_ones {content : List Bool} (hlen : content.length ≤ 386) :
    (Receiver.frame 0 content).takeAll (List.replicate 7 true)
      = (.hunt 7, if 3 ≤ content.length then [.abort] else []) := by
  have hgathered := Receiver.takeAll_ones 5 0 content (by omega) (by omega)
  have hsixth : (Receiver.frame 5 (content ++ List.replicate 5 true)).take true
      = (.frame 6 (content ++ List.replicate 5 true), none) := rfl
  have hseventh : (Receiver.frame 6 (content ++ List.replicate 5 true)).take true
      = (.hunt 7, if 3 ≤ content.length then some .abort else none) := by simp [Receiver.take]
  rw [show List.replicate 7 true = List.replicate 5 true ++ [true, true] from rfl, Receiver.takeAll_append, hgathered]
  simp only [Receiver.takeAll, Nat.zero_add, hsixth, hseventh]
  split <;> rfl

/-! ## The 392nd content bit -/

/-- Stuffing goes on after a part of the content with the run that part ends in. -/
theorem stuff_append (l m : List Bool) (ones : Nat) : ∃ k, stuff ones (l ++ m) = stuff ones l ++ stuff k m := by
  induction l generalizing ones with
  | nil => exact ⟨ones, rfl⟩
  | cons b l ih =>
    cases b with
    | false =>
      obtain ⟨k, hk⟩ := ih 0
      exact ⟨k, by simp [stuff, hk]⟩
    | true =>
      by_cases hfour : ones = 4
      · obtain ⟨k, hk⟩ := ih 0
        exact ⟨k, by simp [stuff, hfour, hk]⟩
      · obtain ⟨k, hk⟩ := ih (ones + 1)
        exact ⟨k, by simp [stuff, hfour, hk]⟩

theorem gatherBit_of_full {ones : Nat} {content : List Bool} (h : 392 ≤ content.length) :
    gatherBit ones content = (.hunt ones, some .excess) := by
  simp [gatherBit, h]

/-- The content bit that makes 49 bytes ends the reception; a zero inserted after it changes nothing more (R37). -/
theorem Receiver.takeAll_last_bit {k : Nat} {content : List Bool} (hk : k ≤ 4) (hlen : content.length = 391) (j : Nat)
    (b : Bool) : ∃ ones, (Receiver.frame k content).takeAll (stuff j [b]) = (.hunt ones, [.excess]) := by
  have hfull (ones : Nat) : gatherBit ones (content ++ [b]) = (.hunt ones, some .excess) :=
    gatherBit_of_full (by simp [hlen])
  cases b with
  | false =>
    refine ⟨0, ?_⟩
    simp [stuff, Receiver.takeAll, Receiver.take, hfull, show k ≠ 6 by omega, show k ≠ 5 by omega]
  | true =>
    have htake : (Receiver.frame k content).take true = (.hunt (k + 1), some .excess) := by
      simp [Receiver.take, hfull, show k < 5 by omega]
    by_cases hj : j = 4
    · have hzero : (Receiver.hunt (k + 1)).take false = (.hunt 0, none) := by
        simp [Receiver.take, show k ≠ 5 by omega]
      refine ⟨0, ?_⟩
      simp [stuff, hj, htake, hzero, Receiver.takeAll]
    · refine ⟨k + 1, ?_⟩
      simp [stuff, hj, htake, Receiver.takeAll]

theorem Receiver.takeAll_excess {content : List Bool} (hlen : content.length = 392) :
    ∃ ones, (Receiver.frame 0 []).takeAll (stuff 0 content) = (.hunt ones, [.excess]) := by
  obtain hnil | ⟨init, b, hcontent⟩ := List.eq_nil_or_concat content
  · simp [hnil] at hlen
  · rw [List.concat_eq_append] at hcontent
    have hinit : init.length = 391 := by simpa [hcontent] using hlen
    obtain ⟨j, hstuff⟩ := stuff_append init [b] 0
    obtain ⟨k, hk, hall⟩ := Receiver.takeAll_stuff init 0 [] (by omega) (by simp [hinit])
    obtain ⟨ones, hlast⟩ := Receiver.takeAll_last_bit hk hinit j b
    rw [List.nil_append] at hall
    exact ⟨ones, by rw [hcontent, hstuff, Receiver.takeAll_append, hall, hlast]; rfl⟩

end Sys2Proof.Machine

namespace Sys2Proof.Proofs

open Sys2Proof.Machine Sys2Proof.Safety

/-- Settles O52: the opening flag, the stuffed content and the closing flag taken one after the other; the other endings by
the bits the receiver holds when they come. -/
theorem sentFrameIsTakenAsItWas : Obligations.SentFrameIsTakenAsItWas := by
  refine ⟨fun f n hfits hn => ⟨_, Frame.takeAll_line_in_hunt hfits (by omega), judge_frame hfits⟩, fun content =>
    ⟨fun hlen => ⟨Receiver.takeAll_stuffed hlen, fun hone hzero => ?_⟩, fun hlen hlast => ?_, Receiver.takeAll_excess⟩⟩
  · rw [Receiver.takeAll_append, Receiver.takeAll_dropLast_stuff (by omega) hone hzero,
      Receiver.takeAll_flag_after_five hone hlen]
    rfl
  · rw [Receiver.takeAll_append, Receiver.takeAll_stuff_of_last (by omega) hlast, Receiver.takeAll_seven_ones hlen]
    rfl

end Sys2Proof.Proofs
end

section
/-! PROOFS. What narrows: the held list and the claim's segments, the paths of the orders, and the segments the cache names
as held by another station (R59, R63, R122, R153). Nearly every operation of the model only narrows them. -/

-- One declaration at a time: side by side they need more threads than the check's memory holds.
set_option Elab.async false

namespace Sys2Proof.Machine

open Sys2Proof.Safety

/-! ## The segments that the cache names -/

/-- Some entry names another station as the holder of `seg`. -/
def NamedIn (ways : Table CacheEntry) (seg : Nat) : Prop := ∃ w ∈ ways, w.2.holder ≠ 0 ∧ w.2.seg = seg

theorem ownTrackUncached_iff (s : State) :
    OwnTrackUncached s ↔ ∀ n, NamedIn s.cache.ways n → n ∉ heldSegs s.claim.held :=
  ⟨fun h _ ⟨w, hw, hx, hn⟩ => hn ▸ h w hw hx, fun h w hw hx => h w.2.seg ⟨w, hw, hx, rfl⟩⟩

/-- The entries stay sorted by their ways and come to name no further segment. -/
structure NamesWithin (ways new : Table CacheEntry) : Prop where
  sorted : Table.wf ways = true → Table.wf new = true
  named : ∀ n, NamedIn new n → NamedIn ways n

theorem Table.mem_of_find {α : Type} {t : Table α} {k : Nat} {v : α} (h : Table.find t k = some v) : (k, v) ∈ t := by
  fun_induction Table.find t k with
  | case1 => cases h
  | case2 j w rest hj =>
    cases h
    simp [beq_iff_eq.1 hj]
  | case3 j w rest hj ih => exact List.mem_cons_of_mem _ (ih h)

namespace NamesWithin

variable {ways new : Table CacheEntry}

theorem refl (ways : Table CacheEntry) : NamesWithin ways ways := ⟨id, fun _ => id⟩

theorem trans {mid : Table CacheEntry} (h : NamesWithin ways mid) (g : NamesWithin mid new) : NamesWithin ways new :=
  ⟨g.sorted ∘ h.sorted, fun n hn => h.named n (g.named n hn)⟩

theorem nil (ways : Table CacheEntry) : NamesWithin ways [] := ⟨fun _ => rfl, fun _ ⟨_, hw, _⟩ => nomatch hw⟩

theorem erase (ways : Table CacheEntry) (k : Nat) : NamesWithin ways (Table.erase ways k) :=
  ⟨Table.wf_erase ways k, fun _ ⟨w, hw, hname⟩ => ⟨w, List.mem_of_mem_filter hw, hname⟩⟩

/-- An entry that names nothing new goes into a way. -/
theorem insert (ways : Table CacheEntry) (k : Nat) {e : CacheEntry} (he : e.holder ≠ 0 → NamedIn ways e.seg) :
    NamesWithin ways (Table.insert ways k e) := by
  refine ⟨Table.wf_insert ways k e, fun n ⟨w, hw, hx, hn⟩ => ?_⟩
  obtain rfl | hold := Table.mem_insert ways k e w hw
  · exact hn ▸ he hx
  · exact ⟨w, hold, hx, hn⟩

/-- An entry of the table is put back with its segment and its holder. -/
theorem rewrite {k j : Nat} {e f : CacheEntry} (he : (j, e) ∈ ways) (hseg : f.seg = e.seg) (hholder : f.holder = e.holder) :
    NamesWithin ways (Table.insert ways k f) :=
  insert ways k (fun hx => ⟨_, he, hholder ▸ hx, hseg.symm⟩)

theorem filterMap {f : Nat × CacheEntry → Option (Nat × CacheEntry)}
    (hf : ∀ w v, f w = some v → v.1 = w.1 ∧ v.2.seg = w.2.seg ∧ v.2.holder = w.2.holder) :
    NamesWithin ways (ways.filterMap f) := by
  refine ⟨fun h => ?_, fun n ⟨v, hv, hx, hn⟩ => ?_⟩
  · rw [Table.wf_iff] at h ⊢
    refine List.Pairwise.filterMap f (fun v w hvw v' hv' w' hw' => ?_) h
    rw [(hf _ _ hv').1, (hf _ _ hw').1]
    exact hvw
  · obtain ⟨w, hw, hfw⟩ := List.mem_filterMap.1 hv
    obtain ⟨-, hseg, hholder⟩ := hf _ _ hfw
    exact ⟨w, hw, hholder ▸ hx, hseg ▸ hn⟩

theorem unpin (c : PeerCache) (tag : Nat) (p : Nat → Bool) : NamesWithin c.ways (c.unpin tag p).ways := by
  refine filterMap (fun w v hv => ?_)
  simp only [unpinEntry] at hv
  split at hv
  · split at hv <;> cases hv
    exact ⟨rfl, rfl, rfl⟩
  · cases hv; exact ⟨rfl, rfl, rfl⟩

theorem pin (c : PeerCache) (tag seg : Nat) : NamesWithin c.ways (c.pin tag seg).ways := by
  unfold PeerCache.pin
  split
  next k e he =>
    split
    · exact refl _
    split
    · exact refl _
    · exact rewrite (List.mem_of_find?_eq_some he) rfl rfl
  · split
    · exact refl _
    split
    · exact insert _ _ (fun hx => absurd rfl hx)
    · exact refl _

theorem pinPath (c : PeerCache) (tag : Nat) (path : List Nat) : NamesWithin c.ways (c.pinPath tag path).ways := by
  have hpins (l : List Nat) (d : PeerCache) (hd : NamesWithin c.ways d.ways) :
      NamesWithin c.ways (l.foldl (fun d seg => d.pin tag seg) d).ways := by
    induction l generalizing d with
    | nil => exact hd
    | cons seg l ih => exact ih _ (hd.trans (pin d tag seg))
  exact hpins path _ (unpin c tag _)

theorem tick (c : PeerCache) (limit : Nat) : NamesWithin c.ways (c.tick limit).ways := by
  have hentry (e : CacheEntry) : (e.tick limit).seg = e.seg ∧ (e.tick limit).holder = e.holder := by
    unfold CacheEntry.tick
    split <;> exact ⟨rfl, rfl⟩
  refine ⟨fun h => ?_, fun n ⟨v, hv, hx, hn⟩ => ?_⟩
  · rw [Table.wf_iff] at h ⊢
    exact List.pairwise_map.2 h
  · obtain ⟨w, hw, rfl⟩ := List.mem_map.1 hv
    exact ⟨w, hw, (hentry w.2).2 ▸ hx, (hentry w.2).1 ▸ hn⟩

end NamesWithin

/-! ## The relation -/

/-- From `s` to `t` the held list, the claim's segments, the orders with their paths and the cache's names only narrow. -/
structure Narrows (s t : State) : Prop where
  held : t.claim.held.Sublist s.claim.held
  segs : t.claim.record.segs.Sublist s.claim.record.segs
  paths : ∀ o ∈ t.orders.list, ∃ p ∈ s.orders.list, o.tag = p.tag ∧ o.path.Sublist p.path
  cache : NamesWithin s.cache.ways t.cache.ways

namespace Narrows

variable {s₀ s t : State}

theorem refl (s : State) : Narrows s s := ⟨.refl _, .refl _, fun o ho => ⟨o, ho, rfl, .refl _⟩, .refl _⟩

theorem trans (h : Narrows s₀ s) (g : Narrows s t) : Narrows s₀ t where
  held := g.held.trans h.held
  segs := g.segs.trans h.segs
  paths := fun o ho => by
    obtain ⟨p, hp, htag, hop⟩ := g.paths o ho
    obtain ⟨q, hq, htag', hpq⟩ := h.paths p hp
    exact ⟨q, hq, htag.trans htag', hop.trans hpq⟩
  cache := h.cache.trans g.cache

/-- An operation that leaves the Claim Engine, the orders and the cache as they are. -/
theorem unchanged (h : Narrows s₀ s) (hclaim : t.claim = s.claim := by simp) (horders : t.orders = s.orders := by simp)
    (hcache : t.cache = s.cache := by simp) : Narrows s₀ t := by
  obtain ⟨hheld, hsegs, hpaths, hcached⟩ := h
  exact ⟨hclaim ▸ hheld, hclaim ▸ hsegs, horders ▸ hpaths, hcache ▸ hcached⟩

theorem setClaim {c : ClaimEngine} (h : Narrows s₀ s) (hheld : c.held.Sublist s.claim.held := by exact .refl _)
    (hsegs : c.record.segs.Sublist s.claim.record.segs := by exact .refl _) : Narrows s₀ (s.setClaim c) :=
  { h with held := hheld.trans h.held, segs := hsegs.trans h.segs }

theorem setOrders {q : OrderQueue} (h : Narrows s₀ s)
    (hpaths : ∀ o ∈ q.list, ∃ p ∈ s.orders.list, o.tag = p.tag ∧ o.path.Sublist p.path := by
      exact fun o ho => ⟨o, ho, rfl, .refl _⟩) :
    Narrows s₀ (s.setOrders q) :=
  { h with
    paths := fun o ho => by
      obtain ⟨p, hp, htag, hop⟩ := hpaths o ho
      obtain ⟨r, hr, htag', hpr⟩ := h.paths p hp
      exact ⟨r, hr, htag.trans htag', hop.trans hpr⟩ }

theorem setCache {c : PeerCache} (h : Narrows s₀ s) (hc : NamesWithin s.cache.ways c.ways := by exact .refl _) :
    Narrows s₀ (s.setCache c) :=
  { h with cache := h.cache.trans hc }

theorem setControl (h : Narrows s₀ s) (c : Control) : Narrows s₀ (s.setControl c) := { h with }
theorem setMotion (h : Narrows s₀ s) (m : Motion) : Narrows s₀ (s.setMotion m) := { h with }
theorem setPos (h : Narrows s₀ s) (p : PositionUnit) : Narrows s₀ (s.setPos p) := { h with }
theorem setLine (h : Narrows s₀ s) (l : LaneLine) : Narrows s₀ (s.setLine l) := { h with }
theorem setResp (h : Narrows s₀ s) (u : LaneResponder) : Narrows s₀ (s.setResp u) := { h with }
theorem setLift (h : Narrows s₀ s) (u : LiftUnit) : Narrows s₀ (s.setLift u) := { h with }
theorem setPort (h : Narrows s₀ s) (p : HostPort) : Narrows s₀ (s.setPort p) := { h with }
theorem setNotice (h : Narrows s₀ s) (u : NoticeUnit) : Narrows s₀ (s.setNotice u) := { h with }
theorem setPins (h : Narrows s₀ s) (p : Pins) : Narrows s₀ (s.setPins p) := { h with }
theorem setParams (h : Narrows s₀ s) (p : Params) : Narrows s₀ (s.setParams p) := { h with }
theorem setPhase (h : Narrows s₀ s) (n : Nat) : Narrows s₀ (s.setPhase n) := { h with }
theorem setPending (h : Narrows s₀ s) (q : List Instr) : Narrows s₀ (s.setPending q) := { h with }

theorem foldl {α : Type} {f : State → α → State} (h : Narrows s₀ s) (hf : ∀ u x, Narrows s₀ u → Narrows s₀ (f u x))
    (l : List α) : Narrows s₀ (l.foldl f s) := by
  induction l generalizing s with
  | nil => exact h
  | cons x l ih => exact ih (hf s x h)

/-! ## Notices, the line and the reckoning run -/

theorem raise (h : Narrows s₀ s) (n : Notice) : Narrows s₀ (s.raise n) := h.unchanged

theorem offerFault (h : Narrows s₀ s) (f : FaultOffer) : Narrows s₀ (s.offerFault f) := h.unchanged

theorem placeReply (h : Narrows s₀ s) (r : Reply) : Narrows s₀ (s.placeReply r) := h.unchanged

theorem chooseExpected (h : Narrows s₀ s) : Narrows s₀ s.chooseExpected := h.unchanged

theorem runChanged (h : Narrows s₀ s) (before : List Nat) : Narrows s₀ (s.runChanged before) := h.unchanged

theorem askStop (h : Narrows s₀ s) (m : StopMember) : Narrows s₀ (s.askStop m) := h.setMotion _

theorem withdrawStop (h : Narrows s₀ s) (m : StopMember) : Narrows s₀ (s.withdrawStop m) := h.setMotion _

theorem offer (h : Narrows s₀ s) (t dest : Nat) (content : TxContent) : Narrows s₀ (s.offer t dest content).1 :=
  h.unchanged

theorem send (h : Narrows s₀ s) (t dest : Nat) (body : Body) : Narrows s₀ (s.send t dest body) := h.unchanged

theorem offerBeacon (h : Narrows s₀ s) (t : Nat) : Narrows s₀ (s.offerBeacon t) := h.unchanged

/-! ## The claim record -/

theorem toIdle (h : Narrows s₀ s) : Narrows s₀ s.toIdle := by
  have hidle : Narrows s₀ (s.setClaim
      { s.claim with record := s.claim.record.toIdle, peerWait := none, waitLimitYield := false }) :=
    h.setClaim (hsegs := List.nil_sublist _)
  simp only [State.toIdle]
  split
  · exact hidle.withdrawStop _
  · exact hidle

theorem enterBlocked (h : Narrows s₀ s) (seg holder : Nat) : Narrows s₀ (s.enterBlocked seg holder) := by
  refine h.setClaim ?_ (List.nil_sublist _)
  unfold ClaimEngine.countFor
  split <;> exact .refl _

theorem enterContested (h : Narrows s₀ s) (seg : Nat) (rival : Rival) : Narrows s₀ (s.enterContested seg rival) := by
  refine h.setClaim ?_ (List.nil_sublist _)
  unfold ClaimEngine.countFor
  split <;> exact .refl _

theorem askRemoval (h : Narrows s₀ s) (owed : Bool) : Narrows s₀ (s.askRemoval owed) := by
  simp only [State.askRemoval]
  split
  · exact (h.setLine _).setClaim
  · exact h.setLine _

theorem sendWithdraw (h : Narrows s₀ s) (t number : Nat) : Narrows s₀ (s.sendWithdraw t number) := h.unchanged

theorem endClaim (h : Narrows s₀ s) (t : Nat) : Narrows s₀ (s.endClaim t) := by
  unfold State.endClaim
  split
  · exact (h.askRemoval true).toIdle
  · exact ((h.askRemoval false).sendWithdraw t _).toIdle
  · exact (h.sendWithdraw t _).toIdle
  · exact (h.sendWithdraw t _).toIdle
  all_goals exact h

theorem abandonClaim (h : Narrows s₀ s) (t : Nat) : Narrows s₀ (s.abandonClaim t) := (h.endClaim t).toIdle

theorem claimUndelivered (h : Narrows s₀ s) (t : Nat) : Narrows s₀ (s.claimUndelivered t) := by
  unfold State.claimUndelivered
  split
  · exact h.toIdle
  · exact h.toIdle.sendWithdraw t _
  all_goals exact h

theorem offerClaim (h : Narrows s₀ s) (t : Nat) : Narrows s₀ (s.offerClaim t) := by
  simp only [State.offerClaim]
  split
  · exact h.offer t _ _
  · exact (h.offer t _ _).claimUndelivered t

theorem fileReport (h : Narrows s₀ s) (x : Nat) (r : PeerReport) : Narrows s₀ (s.fileReport x r) := h.setClaim

theorem cacheReport (h : Narrows s₀ s) (seg holder : Nat) : Narrows s₀ (s.cacheReport seg holder) := by
  unfold State.cacheReport
  split
  · exact h.toIdle
  · exact h

theorem cacheReportAny (h : Narrows s₀ s) (seg : Nat) : Narrows s₀ (s.cacheReportAny seg) := by
  unfold State.cacheReportAny
  split
  · exact h.toIdle
  · exact h

theorem giveBack (h : Narrows s₀ s) (t : Nat) (segs : List Nat) : Narrows s₀ (s.giveBack t segs) := by
  unfold State.giveBack
  split
  · exact h
  · exact send (h.setClaim List.filter_sublist) t _ _

theorem releaseReserved (h : Narrows s₀ s) (t : Nat) : Narrows s₀ (s.releaseReserved t) := by
  unfold State.releaseReserved
  split
  · exact h
  · exact (h.giveBack t _).chooseExpected

/-! ## Ways of the cache freed -/

theorem setWays {w : Table CacheEntry} (h : Narrows s₀ s) (hw : NamesWithin s.cache.ways w) : Narrows s₀ (s.setWays w) :=
  h.setCache hw

theorem freeWay (h : Narrows s₀ s) (source : Option Source) (k : Nat) : Narrows s₀ (s.freeWay source k) := by
  simp only [State.freeWay]
  split
  · exact h
  · refine cacheReport (h.setWays ?_) _ _
    split
    · exact .erase _ k
    · exact .insert _ k (fun hx => absurd rfl hx)

theorem invalidateWay (h : Narrows s₀ s) (k : Nat) : Narrows s₀ (s.invalidateWay k) := by
  unfold State.invalidateWay
  split
  · exact h
  · exact cacheReportAny (h.setWays (.erase _ k)) _

theorem sweep (h : Narrows s₀ s) (x : Nat) (listed : List Nat) : Narrows s₀ (s.sweep x listed) :=
  h.foldl (fun _ k hu => hu.freeWay (some .beacon) k) _

theorem cacheRelease (h : Narrows s₀ s) (x : Nat) (segs : List Nat) : Narrows s₀ (s.cacheRelease x segs) :=
  h.foldl (fun _ k hu => hu.freeWay (some .release) k) _

theorem cacheJoin (h : Narrows s₀ s) (segs : List Nat) : Narrows s₀ (s.cacheJoin segs) :=
  h.foldl (fun _ k hu => hu.freeWay none k) _

/-! ## Orders (R160, R165) -/

theorem setOrder (h : Narrows s₀ s) (tag : Nat) {f : Order → Order}
    (hf : ∀ o, (f o).tag = o.tag ∧ (f o).path = o.path := by exact fun _ => ⟨rfl, rfl⟩) :
    Narrows s₀ (s.setOrder tag f) := by
  refine h.setOrders (fun o ho => ?_)
  obtain ⟨x, hx, rfl⟩ := List.mem_map.1 ho
  obtain ⟨htag, hpath⟩ := hf x
  refine ⟨x, hx, ?_⟩
  split
  · exact ⟨htag, hpath ▸ .refl _⟩
  · exact ⟨rfl, .refl _⟩

theorem removeOrder (h : Narrows s₀ s) (tag : Nat) : Narrows s₀ (s.removeOrder tag) :=
  ((h.setOrders (q := { s.orders with list := s.orders.list.filter (fun o => o.tag != tag) })
    (fun o ho => ⟨o, List.mem_of_mem_filter ho, rfl, .refl _⟩)).setCache (.unpin _ tag _)).runChanged _

theorem orderDone (h : Narrows s₀ s) (t : Nat) (o : Order) : Narrows s₀ (s.orderDone t o) := (h.removeOrder _).raise _

theorem orderCancelled (h : Narrows s₀ s) (t : Nat) (o : Order) : Narrows s₀ (s.orderCancelled t o) :=
  (h.removeOrder _).raise _

theorem orderFailed (h : Narrows s₀ s) (t : Nat) (o : Order) (why : FailReason) (seg : Option Nat) :
    Narrows s₀ (s.orderFailed t o why seg) := (h.removeOrder _).raise _

theorem suspend (h : Narrows s₀ s) (tag : Nat) (why : SuspendReason) : Narrows s₀ (s.suspend tag why) :=
  runChanged (h.setOrder tag) _

theorem cancelMarked (h : Narrows s₀ s) (t : Nat) (o : Order) : Narrows s₀ (s.cancelMarked t o) :=
  (h.orderCancelled t o).setOrders

theorem setEffective (h : Narrows s₀ s) (c : LoadClass) : Narrows s₀ (s.setEffective c) := h.setOrders

/-! ## Halts (R26, R27, R34) -/

theorem haltOrders (h : Narrows s₀ s) (t : Nat) : Narrows s₀ (s.haltOrders t) := by
  unfold State.haltOrders
  split
  · exact h
  split
  · exact h.cancelMarked t _
  · exact h.suspend _ _

theorem changeState (h : Narrows s₀ s) (t : Nat) (x : StationState) : Narrows s₀ (s.changeState t x) :=
  (h.setControl _).raise _

theorem dropCause (h : Narrows s₀ s) (c : Cause) : Narrows s₀ (s.dropCause c) := h.setControl _

theorem halt (h : Narrows s₀ s) (t : Nat) (c : Cause) : Narrows s₀ (s.halt t c) := by
  have hcause : Narrows s₀ (s.addCause c) := h.setControl _
  have hentered : Narrows s₀ ((s.addCause c).enterHalted t) :=
    (((changeState (hcause.setControl _) t .halted).setMotion _).abandonClaim t).haltOrders t
  unfold State.halt
  split
  · exact h
  · exact hcause
  · exact hentered
  · exact hentered

theorem haltWith (h : Narrows s₀ s) (t : Nat) (r : HaltReport) : Narrows s₀ (s.haltWith t r) :=
  ((h.raise _).offerFault _).halt t r.cause

theorem overrunCheck (h : Narrows s₀ s) (t : Nat) : Narrows s₀ (s.overrunCheck t) := by
  have hmark (b : Bool) : Narrows s₀ (s.setOverrunMark b) := h.setMotion _
  unfold State.overrunCheck
  split
  case h_3 => exact h
  all_goals
    split
    · exact hmark false
    split
    · exact h
    · exact (hmark true).haltWith t _

theorem newAuthority (h : Narrows s₀ s) (t : Nat) : Narrows s₀ (s.newAuthority t) := (h.setMotion _).overrunCheck t

theorem stopRelease (h : Narrows s₀ s) (t : Nat) : Narrows s₀ (s.stopRelease t) :=
  (h.releaseReserved t).newAuthority t

theorem settleConflicts (h : Narrows s₀ s) : Narrows s₀ s.settleConflicts := by
  unfold State.settleConflicts
  split
  · exact h.dropCause _
  · exact h

end Narrows

end Sys2Proof.Machine
end

section
/-! PROOFS. What the items of a control step narrow (R130), and the frames from the buffer, the line, the clocks and the host
commands that add no track. -/

-- One declaration at a time: side by side they need more threads than the check's memory holds.
set_option Elab.async false

namespace Sys2Proof.Machine

open Sys2Proof.Safety

/-- What revalidation passes is the order's path or a rear part cut off it (R157). -/
theorem State.revalidate_passed {s : State} {c : Centre} {o : Order} {path : List Nat}
    (h : s.revalidate c o = .passed path) : path.Sublist o.path := by
  have hchecked {l : List Nat} (hl : s.heldRunCheck c l = .passed path) : path = l := by
    unfold State.heldRunCheck at hl
    split at hl
    · cases hl; rfl
    · split at hl <;> cases hl
      rfl
  unfold State.revalidate at h
  split at h
  · split at h
    · rw [hchecked h]
    · cases h
  · split at h
    · rw [hchecked h]
      exact List.dropWhile_sublist _
    · cases h

namespace Narrows

variable {s₀ s t : State}

/-! ## Position (R11 to R20) -/

theorem exitEvents (h : Narrows s₀ s) (t : Nat) : Narrows s₀ (s.exitEvents t) := h.giveBack t _

theorem capEntry (h : Narrows s₀ s) (t : Nat) (before : List Nat) : Narrows s₀ (s.capEntry t before) := by
  unfold State.capEntry
  split
  · split
    · exact h
    · exact raise (h.setMotion _) _
  · exact h

theorem positionLost (h : Narrows s₀ s) (t seg : Nat) : Narrows s₀ (s.positionLost t seg) := (h.setPos _).haltWith t _

theorem reckon (h : Narrows s₀ s) (t um : Nat) : Narrows s₀ (s.reckon t um) := by
  simp only [State.reckon]
  split
  · exact h
  split
  · exact ((h.setPos _).setPos _).positionLost t _
  · exact h.setPos _

theorem missCheck (h : Narrows s₀ s) (t : Nat) : Narrows s₀ (s.missCheck t) := by
  unfold State.missCheck
  split
  · exact h
  split
  · exact h
  split
  · exact h
  split
  · exact (h.setPos _).chooseExpected.raise _
  split
  · exact h.positionLost t _
  · exact h

theorem unmappedRead (h : Narrows s₀ s) (t code : Nat) : Narrows s₀ (s.unmappedRead t code) := by
  unfold State.unmappedRead
  split
  · exact h
  · exact (h.setPos _).raise _

theorem drift (h : Narrows s₀ s) (t seg : Nat) (e : Int) : Narrows s₀ (s.drift t seg e) := by
  unfold State.drift
  split
  · exact h
  · exact h.raise _

/-! ## The lift (R164, R168 to R172) -/

theorem loadCheck (h : Narrows s₀ s) (t : Nat) (tag : Option Nat) : Narrows s₀ (s.loadCheck t tag) := by
  simp only [State.loadCheck]
  split
  · exact ((h.setLift _).setEffective _).raise _
  · exact h.setLift _

theorem liftDownReset (h : Narrows s₀ s) : Narrows s₀ s.liftDownReset := (h.setEffective .empty).setLift _

theorem liftSuccess (h : Narrows s₀ s) (t : Nat) : Narrows s₀ (s.liftSuccess t) := by
  simp only [State.liftSuccess]
  split
  · exact h.setLift _
  split
  · exact h.setLift _
  · exact (h.setLift _).orderDone t _

theorem judgeSensors (h : Narrows s₀ s) (t : Nat) : Narrows s₀ (s.judgeSensors t) := by
  have hreached : Narrows s₀ (s.liftReached t) := by
    simp only [State.liftReached]
    split
    · exact ((h.setLift _).loadCheck t _).liftSuccess t
    · exact (h.setLift _).liftDownReset.liftSuccess t
    all_goals exact h
  unfold State.judgeSensors
  split
  · exact hreached
  · exact hreached
  · exact h

theorem beginLift (h : Narrows s₀ s) (t tag : Nat) (action : EndAction) : Narrows s₀ (s.beginLift t tag action) := by
  simp only [State.beginLift]
  split
  · exact ((h.setLift _).setLift _).judgeSensors t
  · exact ((h.setLift _).setLift _).judgeSensors t
  · exact ((h.setLift _).loadCheck t _).liftSuccess t
  · exact (h.setLift _).liftDownReset.liftSuccess t
  · exact h

theorem liftTimeout (h : Narrows s₀ s) (t : Nat) : Narrows s₀ (s.liftTimeout t) := by
  simp only [State.liftTimeout]
  split
  · exact h.setLift _
  split
  · exact ((h.setLift _).raise _).offerFault _
  · exact (((h.setLift _).raise _).offerFault _).orderFailed t _ _ _

/-! ## The items of a control step (R130) -/

theorem figuresStep (h : Narrows s₀ s) (t : Nat) : Narrows s₀ (s.figuresStep t) := (h.setMotion _).overrunCheck t

theorem obstacleCheck (h : Narrows s₀ s) (t : Nat) : Narrows s₀ (s.obstacleCheck t) := by
  unfold State.obstacleCheck
  split
  · exact h.haltWith t _
  · exact h

theorem driveStep (h : Narrows s₀ s) (reversal : Bool) : Narrows s₀ (s.driveStep reversal) := h.unchanged

theorem raiseStall (h : Narrows s₀ s) (t : Nat) : Narrows s₀ (s.raiseStall t) := (h.setMotion _).haltWith t _

theorem stallStep (h : Narrows s₀ s) (t : Nat) : Narrows s₀ (s.stallStep t) := by
  unfold State.stallStep
  split
  · split
    · split
      · exact h.raiseStall t
      · exact h.setMotion _
    · exact h.setMotion _
  · exact h

theorem emergencyComplete (h : Narrows s₀ s) (t : Nat) : Narrows s₀ (s.emergencyComplete t) := by
  simp only [State.emergencyComplete]
  split
  · exact h.setMotion _
  · exact (h.setMotion _).stopRelease t

theorem latchStep (h : Narrows s₀ s) (t : Nat) : Narrows s₀ (s.latchStep t) := by
  unfold State.latchStep
  split
  · exact h
  · split
    · split
      · exact h.emergencyComplete t
      · exact h.setMotion _
    · exact h.setMotion _
  · split
    · exact h
    · exact h.setMotion _

theorem yieldStopped (h : Narrows s₀ s) (t : Nat) : Narrows s₀ (s.yieldStopped t) := by
  unfold State.yieldStopped
  split
  · exact h
  split
  · split
    · split
      · exact h.toIdle
      · exact ((h.suspend _ .yield).raise _).toIdle
    · split
      · exact h.setClaim
      · exact h.toIdle
  · exact h

theorem cancelStopped (h : Narrows s₀ s) (t : Nat) : Narrows s₀ (s.cancelStopped t) := by
  unfold State.cancelStopped
  split
  · exact h
  split
  · exact h.cancelMarked t _
  · exact h

theorem serviceComplete (h : Narrows s₀ s) (t : Nat) : Narrows s₀ (s.serviceComplete t) := by
  have hreleased : Narrows s₀ (((s.setMotion { s.motion with requests := [], stopZero := 0 }).setClaim
      { s.claim with waitLimitYield := false }).releaseReserved t) := releaseReserved (setClaim (h.setMotion _)) t
  simp only [State.serviceComplete]
  refine newAuthority ?_ t
  split
  · split
    · exact (hreleased.yieldStopped t).cancelStopped t
    · exact hreleased.cancelStopped t
  · split
    · exact hreleased.yieldStopped t
    · exact hreleased

theorem serviceStep (h : Narrows s₀ s) (t : Nat) : Narrows s₀ (s.serviceStep t) := by
  unfold State.serviceStep
  split
  · split
    · split
      · exact h.serviceComplete t
      · exact h.setMotion _
    · exact h.setMotion _
  · exact h

theorem endAction (h : Narrows s₀ s) (t : Nat) (o : Order) : Narrows s₀ (s.endAction t o) := by
  unfold State.endAction
  split
  · exact h.orderDone t o
  all_goals
    split
    · exact h.orderFailed t o _ _
    · exact (h.setOrder o.tag).beginLift t _ _

theorem arrivalStep (h : Narrows s₀ s) (t : Nat) (reversal : Bool) : Narrows s₀ (s.arrivalStep t reversal) := by
  unfold State.arrivalStep
  split
  · split
    · exact h
    · exact (h.abandonClaim t).endAction t _
  · exact h

theorem enquiryStep (h : Narrows s₀ s) (t : Nat) : Narrows s₀ (s.enquiryStep t) := by
  have henquire (seg : Nat) : Narrows s₀ (s.enquire t seg) := by
    unfold State.enquire
    split
    · exact h.setClaim.send t _ _
    · exact h
  unfold State.enquiryStep
  split
  · split
    · exact henquire _
    all_goals exact h.setClaim
  · exact h

theorem waitedStep (h : Narrows s₀ s) : Narrows s₀ s.waitedStep := by
  unfold State.waitedStep
  split
  · exact h.setClaim
  · exact h

theorem expireWait (h : Narrows s₀ s) (t : Nat) : Narrows s₀ (s.expireWait t) := by
  have hexpired (n : Notice) : Narrows s₀ ((s.setClaim { s.claim with expired := true }).raise n) := h.setClaim.raise n
  simp only [State.expireWait]
  split
  · exact askStop (hexpired _).setClaim _
  · exact askStop (hexpired _).setClaim _
  all_goals exact hexpired _

theorem waitLimitStep (h : Narrows s₀ s) (t : Nat) : Narrows s₀ (s.waitLimitStep t) := by
  unfold State.waitLimitStep
  split
  · exact h.expireWait t
  · exact h

theorem cycleStep (h : Narrows s₀ s) : Narrows s₀ s.cycleStep := by
  have hyield (x w : Nat) : Narrows s₀ (s.beginYield x w) := by
    simp only [State.beginYield]
    split
    · exact (h.setClaim.askStop .yield).withdrawStop .waitLimit
    · exact h.setClaim.askStop .yield
  unfold State.cycleStep
  split
  · split
    · exact hyield _ _
    · exact h
  · exact h

/-! ## Activation (R156 to R158) -/

theorem activate (h : Narrows s₀ s) (t : Nat) {o : Order} {path : List Nat} (ho : o ∈ s.orders.list)
    (hpath : path.Sublist o.path) : Narrows s₀ (s.activate t o path) := by
  have hactive : Narrows s₀ (s.setOrder o.tag (fun x =>
      { x with state := .active, reason := none, path := path, activations := satAdd 255 x.activations 1 })) := by
    refine h.setOrders (fun y hy => ?_)
    obtain ⟨x, hx, rfl⟩ := List.mem_map.1 hy
    split
    next htag => exact ⟨o, ho, beq_iff_eq.1 htag, hpath⟩
    · exact ⟨x, hx, rfl, .refl _⟩
  refine ((setEffective (setClaim (hactive.setCache (.pinPath _ _ _)) ?_ ?_) _).runChanged _).raise _
  all_goals
    unfold ClaimEngine.followTag
    split <;> exact .refl _

theorem judgeActivation (h : Narrows s₀ s) (t fuel : Nat) : Narrows s₀ (s.judgeActivation t fuel) := by
  induction fuel generalizing s with
  | zero => exact h
  | succ fuel ih =>
    unfold State.judgeActivation
    split
    next o c ho _ =>
      split
      · split
        next path hpassed => exact h.activate t (List.mem_of_head? ho) (State.revalidate_passed hpassed)
        · exact ih (h.orderFailed t _ _ _)
      · exact h
    · exact h

theorem activationStep (h : Narrows s₀ s) (t : Nat) : Narrows s₀ (s.activationStep t) := by
  unfold State.activationStep
  split
  · exact h.judgeActivation t 9
  · exact h

/-! ## Frames from the buffer (R43) -/

theorem editionMismatch (h : Narrows s₀ s) (t x edition : Nat) : Narrows s₀ (s.editionMismatch t x edition) := by
  unfold State.editionMismatch
  split
  · exact h
  · exact raise (h.setResp _) _

theorem holdConflict (h : Narrows s₀ s) (t x seg : Nat) (detail : Option Nat) :
    Narrows s₀ (s.holdConflict t x seg detail) := by
  unfold State.holdConflict
  split
  · exact h
  · exact (h.setResp _).haltWith t _

theorem responderBeacon (h : Narrows s₀ s) (t x edition : Nat) (listed : List HeldEntry) :
    Narrows s₀ (s.responderBeacon t x edition listed) := by
  have hcheck (u : State) (e : HeldEntry) (hu : Narrows s₀ u) : Narrows s₀ (u.conflictCheck t x s.claim.held e) := by
    unfold State.conflictCheck
    split
    · exact hu
    · exact hu.holdConflict t x _ _
  have homitted : Narrows s₀ ((listed.foldl (fun u e => u.conflictCheck t x s.claim.held e) s).omissionCheck x
      (heldSegs listed)) := ((h.foldl hcheck listed).setResp _).settleConflicts
  simp only [State.responderBeacon]
  split
  · exact homitted
  · exact homitted.editionMismatch t x edition

theorem claimBeacon (h : Narrows s₀ s) (t x : Nat) (b : BeaconBody) : Narrows s₀ (s.claimBeacon t x b) := by
  have hfiled := h.fileReport x ⟨b.waitingFor, b.urgency⟩
  simp only [State.claimBeacon]
  split
  · unfold State.beaconBlocked
    split
    · split
      · exact hfiled
      · exact hfiled.toIdle
    · split
      · exact hfiled.toIdle
      · exact hfiled
  · split
    · exact hfiled.enterBlocked _ x
    · exact hfiled
  · unfold State.beaconHoldoff
    split
    · exact hfiled
    split
    · exact hfiled.toIdle
    · exact hfiled
  · split
    · exact hfiled
    · unfold State.beaconEndsClaim
      split
      · exact (hfiled.endClaim t).enterBlocked _ x
      · exact hfiled.endClaim t

theorem object (h : Narrows s₀ s) (t x number seg : Nat) (why : Reason) : Narrows s₀ (s.object t x number seg why) :=
  h.send t x _

theorem answerClaim (h : Narrows s₀ s) (t x edition number urgency waited : Nat) (segs : List Nat) :
    Narrows s₀ (s.answerClaim t x edition number urgency waited segs) := by
  unfold State.answerClaim
  split
  · exact (h.object t x number _ _).editionMismatch t x edition
  split
  · exact h.object t x number _ _
  split
  · unfold State.crossing
    split
    · split
      · exact h.object t x number _ _
      · exact (h.endClaim t).enterContested _ _
    · exact h
  · exact h

theorem takeClaim (h : Narrows s₀ s) (t x edition number urgency waited : Nat) (segs : List Nat) :
    Narrows s₀ (s.takeClaim t x edition number urgency waited segs) := by
  refine answerClaim ?_ t x edition number urgency waited segs
  unfold State.supplyRival
  split
  · exact h.setClaim
  · exact h

theorem takeRelease (h : Narrows s₀ s) (x : Nat) (segs : List Nat) : Narrows s₀ (s.takeRelease x segs) := by
  have hfreed := h.cacheRelease x segs
  simp only [State.takeRelease, State.claimRelease]
  split
  · split
    · exact hfreed.toIdle
    · exact hfreed
  · exact hfreed

theorem takeWithdraw (h : Narrows s₀ s) (x number : Nat) : Narrows s₀ (s.takeWithdraw x number) := by
  unfold State.takeWithdraw
  split
  · split
    · exact h.toIdle
    · exact h
  · exact h

theorem takeEnquire (h : Narrows s₀ s) (t : Nat) (segs : List Nat) : Narrows s₀ (s.takeEnquire t segs) := h.unchanged

theorem popFrame (h : Narrows s₀ s) : Narrows s₀ s.popFrame := (h.setLine _).setPort _

/-! ## The line (R33, R37 to R51) -/

theorem closeFrame (h : Narrows s₀ s) (t : Nat) (c : Closing) : Narrows s₀ (s.closeFrame t c) := by
  have hcount (f : LineCounters → LineCounters) : Narrows s₀ (s.countLine f) := h.setLine _
  have hgood (f : Frame) : Narrows s₀ (s.goodFrame t f) := by
    unfold State.goodFrame
    split
    · unfold State.duplicateFrame
      split
      · exact h
      · exact (h.setResp _).haltWith t _
    split
    · exact hcount _
    split
    · unfold State.bufferFrame
      split
      · exact (h.setLine _).setLine _
      · exact (hcount _).offerFault _
    · exact h
  unfold State.closeFrame
  split
  · exact hcount _
  · exact hcount _
  · split
    · exact h
    · exact hcount _
    · exact hcount _
    · exact hcount _
    · exact hgood _

theorem receive (h : Narrows s₀ s) (t : Nat) (bits : List Bool) : Narrows s₀ (s.receive t bits) := by
  simp only [State.receive]
  split
  · exact h
  · exact foldl (h.setLine _) (fun _ c hu => hu.closeFrame t c) _

theorem beginSending (h : Narrows s₀ s) : Narrows s₀ s.beginSending := by
  unfold State.beginSending
  split
  · split
    · exact h
    · exact h.setLine _
  · exact h

theorem removalNotSent (h : Narrows s₀ s) : Narrows s₀ s.removalNotSent := h.setClaim

theorem completeSending (h : Narrows s₀ s) : Narrows s₀ s.completeSending := by
  have hsent : Narrows s₀ (s.setLine s.line.sent) := h.setLine _
  unfold State.completeSending
  split
  · simp only [State.sent]
    split
    · split
      · simp only [State.removalSent]
        split
        · exact hsent
        split
        · exact hsent.setClaim.sendWithdraw _ _
        · exact hsent.setClaim
      · unfold State.roundSent
        split
        case h_1 => exact hsent.setClaim
        case h_2 => exact hsent.setClaim
        all_goals exact hsent
    · exact hsent
  · exact h

theorem tellOwner (h : Narrows s₀ s) (t : Nat) (e : TxEntry) : Narrows s₀ (s.tellOwner t e) := by
  unfold State.tellOwner
  split
  · exact h.removalNotSent
  split
  · exact h.claimUndelivered t
  split
  · exact h.raise _
  · exact h

theorem collide (h : Narrows s₀ s) (bit : Nat) : Narrows s₀ (s.collide bit) := by
  have hdegrade {u : State} (hu : Narrows s₀ u) (t : Nat) : Narrows s₀ (u.degradeCheck t) := by
    unfold State.degradeCheck
    split
    · exact raise (hu.setLine _) _
    · exact hu
  unfold State.collide
  split
  · split
    · simp only [State.afterCollision]
      split
      · exact hdegrade ((h.setLine _).tellOwner _ _) _
      split
      · exact (h.setLine _).removalNotSent
      · exact h.setLine _
    · exact h
  · exact h

theorem endBackoff (h : Narrows s₀ s) : Narrows s₀ s.endBackoff := by
  unfold State.endBackoff
  split
  · exact h.setLine _
  all_goals exact h

/-! ## The clocks -/

theorem joinDue (h : Narrows s₀ s) : Narrows s₀ s.joinDue := by
  unfold State.joinDue
  split
  · exact ((h.setControl _).setMotion _).changeState _ _
  · exact h

theorem beaconDue (h : Narrows s₀ s) : Narrows s₀ s.beaconDue := by
  unfold State.beaconDue
  split
  · exact h
  · exact offerBeacon (h.setLine _) _

theorem windowR1Due (h : Narrows s₀ s) : Narrows s₀ s.windowR1Due := by
  unfold State.windowR1Due
  split
  · exact h.setClaim.offerClaim _
  · exact h

theorem staleDue (h : Narrows s₀ s) (k : Nat) : Narrows s₀ (s.staleDue k) := by
  unfold State.staleDue
  split
  · exact h
  next e he =>
    split
    · exact h.setWays (.rewrite (Table.mem_of_find he) rfl rfl)
    · exact h

theorem outsideSetup {f : State → State} (h : Narrows s₀ s) (hf : Narrows s₀ (f s)) : Narrows s₀ (s.outsideSetup f) := by
  unfold State.outsideSetup
  split
  · exact h
  · exact hf

theorem idle (h : Narrows s₀ s) : Narrows s₀ s.idle := by
  have hticked : Narrows s₀ ((s.setNotice s.notice.tick).setPhase ((s.phase + 1) % 10)) := (h.setNotice _).setPhase _
  exact (hticked.outsideSetup
    ((setCache (setClaim ((hticked.setControl _).setLine _)) (.tick _ _)).setLift _)).setPending _

theorem bringObst (h : Narrows s₀ s) (obst : Bool) : Narrows s₀ (s.bringObst obst) := by
  simp only [State.bringObst]
  split
  · exact h.setPins _
  · exact (h.setPins _).dropCause _

/-! ## The host commands -/

theorem cancelOrder (h : Narrows s₀ s) (tag : Nat) : Narrows s₀ (s.cancelOrder tag).state := by
  unfold State.cancelOrder
  split
  · exact h
  split
  · exact h.orderCancelled _ _
  · exact h.orderCancelled _ _
  · split
    · exact h
    · exact (h.setOrders.askStop _).abandonClaim _
  · exact h

theorem resume (h : Narrows s₀ s) : Narrows s₀ s.resume.state := by
  unfold State.resume
  split
  · exact h
  split
  · exact ((h.setControl _).setMotion _).changeState _ _
  · exact h

theorem restart (h : Narrows s₀ s) : Narrows s₀ s.restart.state := by
  unfold State.restart
  split
  · have hclaim : Narrows s₀ ((((s.setControl { s.control with causes := [], joinTimer := none }).setPos
        s.pos.restart).setLine s.line.off).setClaim s.claim.restart) :=
      setClaim (((h.setControl _).setPos _).setLine _) (List.nil_sublist _) (List.nil_sublist _)
    have hcache : Narrows s₀ _ := setCache (c := ⟨[], 0, 0⟩) (hclaim.setResp ⟨[], false, [], false⟩) (.nil _)
    exact ((setOrders (q := ⟨[], .heavy, none⟩) (hcache.setMotion _) (fun _ ho => nomatch ho)).setLift _).changeState _ _
  · exact h

theorem powerOn (s : State) : Narrows s s.powerOn where
  held := List.nil_sublist _
  segs := List.nil_sublist _
  paths := fun _ ho => nomatch ho
  cache := .nil _

theorem lineReset (h : Narrows s₀ s) (t : Nat) : Narrows s₀ (s.lineReset t) := by
  have hlost : Narrows s₀ ((s.setLine s.line.lineReset).relaysLost t (countKind s.line.tx 7)) := by
    unfold State.relaysLost
    split
    · exact h.setLine _
    · exact raise (h.setLine _) _
  exact (hlost.setClaim.endClaim t).offerBeacon t

theorem clearLift (h : Narrows s₀ s) : Narrows s₀ s.clearLift.state := by
  unfold State.clearLift
  split
  · simp only [State.clearJam]
    split
    · exact (h.setLift _).loadCheck _ none
    · exact (h.setLift _).liftDownReset
    · exact h.setLift _
  · exact h

theorem forgetStation (h : Narrows s₀ s) (n : Nat) : Narrows s₀ (s.forgetStation n).state := by
  have hfreed : Narrows s₀ (s.forgetHoldings (waysOf s.cache.ways n (fun _ => true))) :=
    h.foldl (fun _ k hu => hu.freeWay none k) _
  have hforgot := settleConflicts (hfreed.setResp
    ((s.forgetHoldings (waysOf s.cache.ways n (fun _ => true))).resp.forget n))
  unfold State.forgetStation
  split
  · simp only [State.forget, State.forgetWait]
    split
    · exact hforgot.setClaim.toIdle
    · exact hforgot.setClaim
  · exact h

theorem sendRelay (h : Narrows s₀ s) (a : Nat × List Byte) : Narrows s₀ (s.sendRelay a).state := by
  unfold State.sendRelay
  split
  · exact h
  split
  · exact h
  · exact h.send _ _ _

/-- The commands of SETUP replace blocks that hold no track (R1, R3, R22, R184). -/
theorem setup (h : Narrows s₀ s) :
    (∀ a, Narrows s₀ (s.setStation a).state) ∧ (∀ a, Narrows s₀ (s.setParameter a).state)
      ∧ (∀ a, Narrows s₀ (s.loadSegment a).state) ∧ (∀ a, Narrows s₀ (s.loadTagWindow a).state)
      ∧ ∀ n, Narrows s₀ (s.setEdition n).state := by
  refine ⟨fun a => ?_, fun a => ?_, fun a => ?_, fun a => ?_, fun n => ?_⟩
  · unfold State.setStation; split
    · exact h.setControl _
    · exact h
  · unfold State.setParameter; dsimp only; split
    · exact h
    split
    · exact h.setParams _
    · exact h.setParams _
  · unfold State.loadSegment; dsimp only; split
    · exact h
    split
    · exact h.setPos _
    · exact h.setPos _
  · unfold State.loadTagWindow; split
    · split
      · exact h.setPos _
      · exact h
    · exact h
  · exact h.setPos _

theorem readCacheEntry (h : Narrows s₀ s) (a : Nat × Nat) : Narrows s₀ (s.readCacheEntry a).state := by
  unfold State.readCacheEntry
  split
  · exact h
  · exact h

theorem invalidateEntry (h : Narrows s₀ s) (a : Nat × Nat) : Narrows s₀ (s.invalidateEntry a).state := by
  unfold State.invalidateEntry
  split
  · exact h.invalidateWay _
  · exact h

theorem invalidateSegment (h : Narrows s₀ s) (seg : Nat) : Narrows s₀ (s.invalidateSegment seg).state := by
  unfold State.invalidateSegment
  split
  · simp only [State.invalidated, State.invalidateFound]
    split
    · exact h
    · exact h.invalidateWay _
  · exact h

theorem invalidateSet (h : Narrows s₀ s) (set : Nat) : Narrows s₀ (s.invalidateSet set).state := by
  unfold State.invalidateSet
  split
  · exact h.foldl (fun _ w hu => hu.invalidateWay (4 * set + w)) _
  · exact h

theorem enableNotices (h : Narrows s₀ s) (codes : List Nat) : Narrows s₀ (s.enableNotices codes).state := by
  unfold State.enableNotices
  split
  · exact h
  · exact h.setNotice _

theorem disableNotices (h : Narrows s₀ s) (codes : List Nat) : Narrows s₀ (s.disableNotices codes).state := by
  unfold State.disableNotices
  split
  · exact h
  · exact h.setNotice _

theorem transaction (h : Narrows s₀ s) (hdi : List Bool) (began : Bool) : Narrows s₀ (s.transaction hdi began) := by
  have hjudged {u : State} (hu : Narrows s₀ u) (first : Byte) (rest : List Byte) :
      Narrows s₀ (u.judgeCommand first rest) := by
    unfold State.judgeCommand
    split
    · exact hu.setPort _
    all_goals
      split
      · exact placeReply (hu.setPort _) _
      split
      · exact placeReply (hu.setPort _) _
      · exact hu.setPort _
  unfold State.transaction
  split
  · exact h
  split
  · exact h.setPort _
  · exact hjudged (h.setPort _) _ _

end Narrows

end Sys2Proof.Machine
end

section
/-! PROOFS. The held list, the claim and the cache through every command: no segment twice, none that the cache names, the
OCCUPIED entries at the rear (R59, R63, R122, R153). -/

-- One declaration at a time: side by side they need more threads than the check's memory holds.
set_option Elab.async false

namespace Sys2Proof.Machine

open Sys2Proof.Safety

/-! ## What the operations that add a name or free one do to the cache -/

theorem Table.find_of_mem {α : Type} {t : Table α} (ht : Table.wf t = true) {k : Nat} {v : α} (h : (k, v) ∈ t) :
    Table.find t k = some v := by
  rw [Table.wf_iff] at ht
  induction t with
  | nil => cases h
  | cons e rest ih =>
    obtain ⟨hfirst, hrest⟩ := List.pairwise_cons.1 ht
    obtain rfl | h := List.mem_cons.1 h
    · simp [Table.find]
    · have hlt : e.1 < k := hfirst _ h
      simpa [Table.find, hlt.ne] using ih hrest h

/-- What a way holds after it has been freed (R118). -/
def freedWays (ways : Table CacheEntry) (source : Option Source) (k : Nat) : Table CacheEntry :=
  match Table.find ways k with
  | none => ways
  | some e => if e.pins.isEmpty then Table.erase ways k else Table.insert ways k (e.placeholder source)

theorem State.freeWay_ways (s : State) (source : Option Source) (k : Nat) :
    (s.freeWay source k).cache.ways = freedWays s.cache.ways source k := by
  unfold State.freeWay freedWays
  split <;> simp [State.setWays, *]

/-- The freed way names no holder any more, and every entry that names one is an old one. -/
theorem named_of_mem_freedWays {ways : Table CacheEntry} (hw : Table.wf ways = true) (source : Option Source) (k : Nat)
    {w : Nat × CacheEntry} (h : w ∈ freedWays ways source k) (hx : w.2.holder ≠ 0) : w ∈ ways ∧ w.1 ≠ k := by
  obtain ⟨j, e⟩ := w
  unfold freedWays at h
  split at h
  next hnone =>
    refine ⟨h, ?_⟩
    rintro rfl
    simp [Table.find_of_mem hw h] at hnone
  next old hold =>
    split at h
    · simpa [Table.erase] using h
    · have hfound := Table.find_of_mem (Table.wf_insert ways k _ hw) h
      obtain heq | hmem := Table.mem_insert ways k _ _ h
      · cases heq; exact absurd rfl hx
      · refine ⟨hmem, ?_⟩
        rintro rfl
        rw [Table.find_insert_self] at hfound
        cases hfound
        exact absurd rfl hx

/-- Freeing ways one after another frees all of them. -/
theorem named_of_mem_freed {source : Option Source} {l : List Nat} {s : State} (hw : Table.wf s.cache.ways = true)
    {w : Nat × CacheEntry} (h : w ∈ (l.foldl (fun s k => s.freeWay source k) s).cache.ways) (hx : w.2.holder ≠ 0) :
    w ∈ s.cache.ways ∧ w.1 ∉ l := by
  induction l generalizing s with
  | nil => exact ⟨h, List.not_mem_nil⟩
  | cons k l ih =>
    obtain ⟨hmem, hrest⟩ := ih (s := s.freeWay source k) (((Narrows.refl s).freeWay source k).cache.sorted hw) h
    rw [State.freeWay_ways] at hmem
    obtain ⟨hold, hne⟩ := named_of_mem_freedWays hw source k hmem hx
    exact ⟨hold, by simp [hne, hrest]⟩

/-- The cache names no segment that joined the held list (R122). -/
theorem namedIn_cacheJoin {s : State} (hw : Table.wf s.cache.ways = true) {segs : List Nat} {n : Nat}
    (h : NamedIn (s.cacheJoin segs).cache.ways n) : NamedIn s.cache.ways n ∧ n ∉ segs := by
  obtain ⟨w, hmem, hx, rfl⟩ := h
  obtain ⟨hold, hfree⟩ := named_of_mem_freed hw hmem hx
  refine ⟨⟨w, hold, hx, rfl⟩, fun hseg => hfree ?_⟩
  exact List.mem_map.2 ⟨w, List.mem_filter.2 ⟨hold, by simpa [hx] using hseg⟩, rfl⟩

@[simp] theorem State.cacheReport_held (s : State) (seg x : Nat) : (s.cacheReport seg x).claim.held = s.claim.held := by
  unfold State.cacheReport
  split <;> simp

@[simp] theorem State.enterBlocked_held (s : State) (seg x : Nat) :
    (s.enterBlocked seg x).claim.held = s.claim.held := by
  simp only [State.enterBlocked, ClaimEngine.countFor, State.setClaim_claim]
  split <;> rfl

@[simp] theorem State.freeWay_held (s : State) (source : Option Source) (k : Nat) :
    (s.freeWay source k).claim.held = s.claim.held := by
  unfold State.freeWay
  split <;> simp

@[simp] theorem State.cacheJoin_held (s : State) (segs : List Nat) : (s.cacheJoin segs).claim.held = s.claim.held :=
  foldl_keeps (fun u : State => u.claim.held) _ (fun _ _ => by simp) _ _

@[simp] theorem State.writeHolding_held (s : State) (seg x : Nat) (m : Mark) (source : Source) (barred : List Nat) :
    (s.writeHolding seg x m source barred).claim.held = s.claim.held := by
  unfold State.writeHolding
  (repeat' split) <;> simp

@[simp] theorem State.refresh_held (s : State) (x : Nat) (e : HeldEntry) : (s.refresh x e).claim.held = s.claim.held := by
  unfold State.refresh
  split <;> simp

@[simp] theorem State.fill_held (s : State) (x : Nat) (barred : List Nat) (e : HeldEntry) :
    (s.fill x barred e).claim.held = s.claim.held := by
  unfold State.fill
  split <;> simp

/-! ## The relation -/

/-- The cache's table is sorted and names no segment of the own held list (R115, R122). -/
structure TrackClear (s : State) : Prop where
  sorted : Table.wf s.cache.ways = true
  clear : ∀ n, NamedIn s.cache.ways n → n ∉ heldSegs s.claim.held

/-- From `s` to `t` the held list stays sound, the cache stays clear of it and, where the body does not move, the OCCUPIED
entries stay its rear part. -/
structure TrackKept (moves : Prop) (s t : State) : Prop where
  sound : HeldListSound s → HeldListSound t
  clear : HeldListSound s → TrackClear s → TrackClear t
  rearFirst : ¬moves → OccupiedFirst s.claim.held → OccupiedFirst t.claim.held

theorem Narrows.trackKept {moves : Prop} {s t : State} (h : Narrows s t) : TrackKept moves s t where
  sound := fun ⟨hnodup, hlength, hpaths⟩ => by
    have hsub := (h.held.map HeldEntry.seg).append h.segs
    refine ⟨hnodup.sublist hsub, hsub.length_le.trans hlength, fun o ho => ?_⟩
    obtain ⟨p, hp, -, hop⟩ := h.paths o ho
    exact (hpaths p hp).sublist hop
  clear := fun _ ⟨hsorted, hclear⟩ => ⟨h.cache.sorted hsorted, fun n hn hheld =>
    hclear n (h.cache.named n hn) ((h.held.map HeldEntry.seg).subset hheld)⟩
  rearFirst := fun _ hrear => hrear.sublist h.held

namespace TrackKept

variable {moves : Prop} {s t u : State}

theorem refl (s : State) : TrackKept moves s s := (Narrows.refl s).trackKept

theorem trans (h : TrackKept moves s t) (g : TrackKept moves t u) : TrackKept moves s u where
  sound := g.sound ∘ h.sound
  clear := fun hs hc => g.clear (h.sound hs) (h.clear hs hc)
  rearFirst := fun hm hr => g.rearFirst hm (h.rearFirst hm hr)

/-- An operation that only narrows follows. -/
theorem before (h : TrackKept moves s t) (g : Narrows t u) : TrackKept moves s u := h.trans g.trackKept

/-- An operation that only narrows goes first. -/
theorem after (h : TrackKept moves t u) (g : Narrows s t) : TrackKept moves s u := g.trackKept.trans h

/-- What needs the soundness of the first state needs it for the OCCUPIED entries too, unless they are seen otherwise. -/
theorem of_sound (hrear : OccupiedFirst s.claim.held → OccupiedFirst t.claim.held)
    (h : HeldListSound s → TrackKept moves s t) : TrackKept moves s t :=
  ⟨fun hs => (h hs).sound hs, fun hs => (h hs).clear hs, fun _ => hrear⟩

/-! ## Entries written (R117) -/

theorem setWays {w : Table CacheEntry} (hsorted : Table.wf s.cache.ways = true → Table.wf w = true)
    (hnamed : ∀ n, NamedIn w n → NamedIn s.cache.ways n ∨ n ∉ heldSegs s.claim.held) :
    TrackKept moves s (s.setWays w) where
  sound := id
  clear := fun _ ⟨hs, hc⟩ => ⟨hsorted hs, fun n hn => (hnamed n hn).elim (hc n) id⟩
  rearFirst := fun _ => id

/-- Only a segment off the held list is written as held by another station (R117, R122). -/
theorem writeHolding (x : Nat) (m : Mark) (source : Source) (barred : List Nat) {seg : Nat}
    (hfree : seg ∉ heldSegs s.claim.held) : TrackKept moves s (s.writeHolding seg x m source barred) := by
  have hwritten (k : Nat) {e : CacheEntry} (he : e.seg = seg) :
      TrackKept moves s (s.setWays (Table.insert s.cache.ways k e)) := by
    refine setWays (Table.wf_insert _ k e) (fun n ⟨w, hw, hx, hn⟩ => ?_)
    obtain rfl | hold := Table.mem_insert _ k e w hw
    · subst hn he; exact .inr hfree
    · exact .inl ⟨w, hold, hx, hn⟩
  simp only [State.writeHolding]
  split
  next k e he =>
    have hseg : e.seg = seg := (by simpa using List.find?_some he : _ ∧ e.seg = seg).2
    have hover := hwritten k
      (e := { e with holder := x, mark := some m, status := .held, age := 0, source := some source }) hseg
    split
    · exact hover.before ((Narrows.refl _).cacheReport _ _)
    · exact hover
  · split
    · exact hwritten _ rfl
    · exact ((Narrows.refl s).setCache).trackKept

theorem foldl {α : Type} {f : State → α → State} {l : List α} (s : State)
    (hf : ∀ u, ∀ x ∈ l, u.claim.held.Sublist s.claim.held → TrackKept moves u (f u x))
    (hheld : ∀ u x, (f u x).claim.held.Sublist u.claim.held) : TrackKept moves s (l.foldl f s) := by
  have hfold (k : List α) (u : State) (hk : ∀ x ∈ k, x ∈ l) (hu : TrackKept moves s u)
      (hsub : u.claim.held.Sublist s.claim.held) : TrackKept moves s (k.foldl f u) := by
    induction k generalizing u with
    | nil => exact hu
    | cons x k ih =>
      obtain ⟨hx, hk⟩ := List.forall_mem_cons.1 hk
      exact ih _ hk (hu.trans (hf u x hx hsub)) ((hheld u x).trans hsub)
  exact hfold l s (fun _ => id) (refl s) (.refl _)

/-- A beacon's own segments are skipped (R119), so that it writes none that is held. -/
theorem cacheBeacon (x : Nat) {listed : List HeldEntry} {skip : List Nat}
    (hskip : ∀ e ∈ listed, e.seg ∈ heldSegs s.claim.held → e.seg ∈ skip) :
    TrackKept moves s (s.cacheBeacon x listed skip) := by
  have hswept := (Narrows.refl s).sweep x (heldSegs listed)
  have hfree {u : State} (hu : u.claim.held.Sublist s.claim.held) :
      ∀ e ∈ listed.filter (fun e => !skip.contains e.seg), e.seg ∉ heldSegs u.claim.held := by
    intro e he hheld
    obtain ⟨hlisted, hout⟩ := List.mem_filter.1 he
    exact absurd (hskip e hlisted ((hu.map HeldEntry.seg).subset hheld)) (by simpa using hout)
  have hrefresh (u : State) (hu : u.claim.held.Sublist s.claim.held) (e : HeldEntry)
      (he : e ∈ listed.filter (fun e => !skip.contains e.seg)) : TrackKept moves u (u.refresh x e) := by
    unfold State.refresh
    split
    · exact writeHolding x _ _ _ (hfree hu e he)
    · exact refl u
  have hfill (u : State) (hu : u.claim.held.Sublist s.claim.held) (barred : List Nat) (e : HeldEntry)
      (he : e ∈ listed.filter (fun e => !skip.contains e.seg)) : TrackKept moves u (u.fill x barred e) := by
    unfold State.fill
    split
    · exact writeHolding x _ _ _ (hfree hu e he)
    · exact refl u
  have hheld : ((listed.filter (fun e => !skip.contains e.seg)).foldl (fun s e => s.refresh x e)
      (s.sweep x (heldSegs listed))).claim.held.Sublist s.claim.held := by
    rw [foldl_keeps (fun u : State => u.claim.held) _ (fun _ _ => by simp)]
    exact hswept.held
  exact (hswept.trackKept.trans (foldl _ (fun u e he hu => hrefresh u (hu.trans hswept.held) e he)
    (fun _ _ => by simp))).trans (foldl _ (fun u e he hu => hfill u (hu.trans hheld) _ e he) (fun _ _ => by simp))

/-! ## The body moves (R13, R19, R20) -/

/-- The held list keeps its segments, in another order or with other marks. -/
theorem rearranged {c : ClaimEngine} (hheld : (heldSegs c.held).Perm (heldSegs s.claim.held))
    (hrecord : c.record = s.claim.record) : TrackKept True s (s.setClaim c) where
  sound := fun ⟨hnodup, hlength, hpaths⟩ => by
    have hperm : (heldSegs c.held ++ c.record.segs).Perm (heldSegs s.claim.held ++ s.claim.record.segs) := by
      rw [hrecord]
      exact hheld.append_right _
    exact ⟨hperm.nodup_iff.2 hnodup, hperm.length_eq.trans_le hlength, hpaths⟩
  clear := fun _ ⟨hsorted, hclear⟩ => ⟨hsorted, fun n hn hin => hclear n hn (hheld.mem_iff.1 hin)⟩
  rearFirst := fun h => absurd trivial h

theorem entryEvents (s : State) : TrackKept True s s.entryEvents :=
  rearranged (.of_eq s.entryEvents_heldSegs) rfl

theorem bodyMoved (s : State) (t : Nat) (before : List Nat) : TrackKept True s (s.bodyMoved t before) :=
  ((entryEvents _).after ((Narrows.refl s).capEntry t before)).before ((Narrows.refl _).exitEvents t)

theorem positionStep (s : State) (t pulses : Nat) : TrackKept True s (s.positionStep t pulses) :=
  (bodyMoved _ t _).after ((((Narrows.refl s).setPos _).reckon t _).missCheck t)

theorem takeReversal (s : State) (t : Nat) : TrackKept True s (s.takeReversal t) := by
  have hturned (u : State) : TrackKept True u (u.setClaim { u.claim with held := u.claim.held.reverse }) :=
    rearranged ((List.reverse_perm u.claim.held).map HeldEntry.seg) rfl
  exact ((((hturned _).after ((Narrows.refl s).setPos _)).before ((Narrows.refl _).setMotion _).chooseExpected).trans
    (bodyMoved _ t _)).before ((Narrows.refl _).newAuthority t)

theorem reversalStep (s : State) (t : Nat) : TrackKept True s (s.reversalStep t) := by
  have hjudged := (Narrows.refl s).setMotion { s.motion with reversalPending := s.wantsReversal }
  simp only [State.reversalStep]
  split
  · split
    · exact (takeReversal _ t).after hjudged
    · exact hjudged.trackKept
  · exact refl s

theorem tagRead (s : State) (t code : Nat) : TrackKept True s (s.tagRead t code) := by
  have hunmapped := ((Narrows.refl s).unmappedRead t code).trackKept (moves := True)
  have hmapped (m : Marker) : TrackKept True s (s.mappedRead t m) := by
    simp only [State.mappedRead]
    split
    · exact refl s
    split
    · exact ((Narrows.refl s).haltWith t _).trackKept
    split
    · exact ((Narrows.refl s).haltWith t _).trackKept
    split
    · exact ((Narrows.refl s).haltWith t _).trackKept
    · exact (bodyMoved _ t _).after (((Narrows.refl s).drift t _ _).setPos _).chooseExpected
  unfold State.tagRead
  split
  · exact hunmapped
  split
  · exact hmapped _
  · exact hunmapped

end TrackKept

end Sys2Proof.Machine
end

section
/-! PROOFS. The held list, the claim and the cache through a claim formed and granted (R65 to R67, R71), START and SUBMIT_ORDER
(R24, R153), the frames from the buffer (R75 to R79, R99), and so through every command. -/

-- One declaration at a time: side by side they need more threads than the check's memory holds.
set_option Elab.async false

namespace Sys2Proof.Machine

open Sys2Proof.Safety

/-! ## The segments of a claim (R65 to R67) -/

theorem afterSeg_sublist (l : List Nat) (n : Nat) : (afterSeg l n).Sublist l :=
  (List.drop_sublist _ _).trans (List.dropWhile_sublist _)

/-- The candidates are the rear part of a queued path. -/
theorem State.candidates_sublist (s : State) (h : s.candidates ≠ []) :
    ∃ o ∈ s.orders.list, s.candidates.Sublist o.path := by
  unfold State.candidates at h ⊢
  split at h
  next o f ho _ =>
    split at h
    · exact absurd rfl h
    next hmark =>
      rw [if_neg hmark]
      exact ⟨o, List.mem_of_find?_eq_some ho, afterSeg_sublist _ _⟩
  · exact absurd rfl h

/-- The later segments of a claim: the first of the candidates, while there is room, no stop and reach still missing. -/
theorem State.takeMore_spec (s : State) (hCap room : Nat) (reach : Int) (l : List Nat) :
    s.takeMore hCap room reach l <+: l ∧ (s.takeMore hCap room reach l).length ≤ room
      ∧ (∀ i m, (s.takeMore hCap room reach l)[i]? = some m → s.stopsClaim m = false
          ∧ reach + ((((s.takeMore hCap room reach l).take i).map (lengthOf s.pos.map)).sum : Nat) < (hCap : Int))
      ∧ ∀ m, l[(s.takeMore hCap room reach l).length]? = some m →
          (s.takeMore hCap room reach l).length = room ∨ s.stopsClaim m = true
            ∨ (hCap : Int) ≤ reach + (((s.takeMore hCap room reach l).map (lengthOf s.pos.map)).sum : Nat) := by
  induction room generalizing reach l with
  | zero => simp [State.takeMore]
  | succ room ih =>
    cases l with
    | nil => simp [State.takeMore]
    | cons n rest =>
      unfold State.takeMore
      split
      next hstops =>
        refine ⟨List.nil_prefix, Nat.zero_le _, by simp, fun m hm => .inr ?_⟩
        obtain rfl : n = m := by simpa using hm
        simpa using hstops
      next hgoes =>
        obtain ⟨hprefix, hlength, htaken, hnext⟩ := ih (reach + (lengthOf s.pos.map n : Int)) rest
        simp only [Bool.or_eq_true, decide_eq_true_eq, not_or, Bool.not_eq_true, not_le] at hgoes
        refine ⟨List.cons_prefix_cons.2 ⟨rfl, hprefix⟩, by simpa using hlength, fun i m hm => ?_, fun m hm => ?_⟩
        · cases i with
          | zero =>
            obtain rfl : n = m := by simpa using hm
            simpa using hgoes
          | succ i =>
            obtain ⟨hfree, hreach⟩ := htaken i m hm
            refine ⟨hfree, ?_⟩
            simp only [List.take_succ_cons, List.map_cons, List.sum_cons]
            omega
        · simp only [List.map_cons, List.sum_cons, List.length_cons]
          obtain hfull | hstop | hfar := hnext m hm
          · exact .inl (by omega)
          · exact .inr (.inl hstop)
          · exact .inr (.inr (by omega))

/-- A claim stops before what is held, by the station itself or by another one (R66). -/
theorem State.stopsClaim_iff (s : State) (n : Nat) : s.stopsClaim n = true ↔
    n ∈ heldSegs s.claim.held ∨ ∃ x, lookup s.cache n = .held x ∨ lookup s.cache n = .stale x := by
  unfold State.stopsClaim
  rw [Bool.or_eq_true, List.contains_iff_mem]
  refine or_congr_right ?_
  split <;> simp [*]

/-- A claim joins the held list without a segment twice and within the twelve (R67). -/
theorem State.sizeClaim_sound {s : State} (hs : HeldListSound s) {first : Nat} {rest : List Nat}
    (hcandidates : s.candidates = first :: rest) (hroom : s.claim.held.length < 12)
    (hfirst : first ∉ heldSegs s.claim.held) (d : Int) (hCap : Nat) :
    (heldSegs s.claim.held ++ s.sizeClaim d hCap first rest).Nodup
      ∧ (heldSegs s.claim.held ++ s.sizeClaim d hCap first rest).length ≤ 12 := by
  obtain ⟨hnodup, -, hpaths⟩ := hs
  obtain ⟨o, ho, hsub⟩ := s.candidates_sublist (by simp [hcandidates])
  obtain ⟨hmore, hlength, htaken, -⟩ := s.takeMore_spec hCap (min 8 (12 - s.claim.held.length) - 1)
    (d + (lengthOf s.pos.map first : Int)) rest
  have hclaim : (s.sizeClaim d hCap first rest).Nodup :=
    (hpaths o ho).sublist (((hmore.sublist.cons_cons first).trans (hcandidates ▸ .refl _)).trans hsub)
  refine ⟨List.nodup_append'.2 ⟨(List.nodup_append'.1 hnodup).1, hclaim, ?_⟩, ?_⟩
  · intro n hheld hn
    obtain rfl | hn := List.mem_cons.1 hn
    · exact hfirst hheld
    · obtain ⟨i, hi⟩ := List.mem_iff_getElem?.1 hn
      have hstops := (s.stopsClaim_iff n).2 (.inl hheld)
      rw [(htaken i n hi).1] at hstops
      cases hstops
  · simp only [State.sizeClaim, heldSegs, List.length_append, List.length_map, List.length_cons]
    omega

/-- A path without fault names no segment twice (R153). -/
theorem nodup_of_pathFault {map : Table Segment} {seen path : List Nat} {i : Nat} (h : pathFault map seen i path = none) :
    path.Nodup ∧ ∀ n ∈ path, n ∉ seen := by
  induction path generalizing seen i with
  | nil => simp
  | cons n rest ih =>
    unfold pathFault at h
    split at h
    · cases h
    next hseen =>
      have hrest : pathFault map (n :: seen) (i + 1) rest = none := by
        split at h
        · exact h
        · split at h
          · cases h
          split at h
          · cases h
          · exact h
      obtain ⟨hnodup, hfree⟩ := ih hrest
      refine ⟨List.nodup_cons.2 ⟨fun hn => hfree n hn (by simp), hnodup⟩, List.forall_mem_cons.2 ⟨by simpa using hseen, ?_⟩⟩
      exact fun m hm hin => hfree m hm (by simp [hin])

theorem heldSegs_marked (segs : List Nat) (m : Mark) : heldSegs (segs.map (fun n => ⟨n, m⟩)) = segs := by
  simp [heldSegs, Function.comp_def]

theorem heldSegs_append (l r : List HeldEntry) : heldSegs (l ++ r) = heldSegs l ++ heldSegs r := by simp [heldSegs]

theorem State.toIdle_segs (s : State) : s.toIdle.claim.record.segs = [] := by
  simp only [State.toIdle]
  split <;> rfl

namespace TrackKept

variable {moves : Prop} {s : State}

/-- Segments are claimed that make a sound list with the held ones. -/
theorem claimed {c : ClaimEngine} (hheld : c.held = s.claim.held)
    (hsegs : HeldListSound s → (heldSegs s.claim.held ++ c.record.segs).Nodup
      ∧ (heldSegs s.claim.held ++ c.record.segs).length ≤ 12) : TrackKept moves s (s.setClaim c) where
  sound := fun hs => by
    obtain ⟨hnodup, hlength⟩ := hsegs hs
    refine ⟨?_, ?_, hs.2.2⟩
    · rwa [State.setClaim_claim, hheld]
    · rwa [State.setClaim_claim, hheld]
  clear := fun _ ⟨hsorted, hclear⟩ => ⟨hsorted, fun n hn => by rw [State.setClaim_claim, hheld]; exact hclear n hn⟩
  rearFirst := fun _ hr => by rwa [State.setClaim_claim, hheld]

theorem formClaim (s : State) (t : Nat) : TrackKept moves s (s.formClaim t) := by
  unfold State.formClaim
  split
  next htrigger =>
    have hroom : s.claim.held.length < 12 := by
      simp only [State.claimTrigger, Bool.and_eq_true, decide_eq_true_eq] at htrigger
      exact htrigger.1.2
    split
    next first rest o d f hcandidates _ _ _ =>
      split
      · exact refl s
      next hfirst =>
        have hattempt : TrackKept moves s (s.newAttempt t (s.sizeClaim d f.hCap first rest) o.urgency) := by
          refine before (claimed ?_ ?_) ((Narrows.refl _).offerClaim t)
          · rfl
          · exact fun hs => State.sizeClaim_sound hs hcandidates hroom (by simpa using hfirst) d f.hCap
        split
        · exact ((Narrows.refl s).enterBlocked _ _).trackKept
        · exact ((Narrows.refl s).enterBlocked _ _).setClaim.trackKept
        · exact hattempt
        · exact hattempt
    · exact refl s
  · exact refl s

theorem claimStep (s : State) (t : Nat) (mayForm : Bool) : TrackKept moves s (s.claimStep t mayForm) := by
  have hformed : TrackKept moves s (if mayForm then s.formClaim t else s) := by
    split
    · exact formClaim s t
    · exact refl s
  exact hformed.before (((((Narrows.refl _).enquiryStep t).waitedStep).waitLimitStep t).cycleStep)

/-- The claim's segments join the held list, RESERVED, and leave the cache (R71, R122). -/
theorem windowR2Due (s : State) : TrackKept moves s s.windowR2Due := by
  have hheld : (((s.setClaim s.claim.granted).cacheJoin s.claim.record.segs).toIdle).claim.held
      = s.claim.held ++ s.claim.record.segs.map (fun n => ⟨n, .reserved⟩) := by
    simp [ClaimEngine.granted]
  have hnames : heldSegs (s.claim.held ++ s.claim.record.segs.map (fun n => ⟨n, .reserved⟩))
      = heldSegs s.claim.held ++ s.claim.record.segs := by
    rw [heldSegs_append, heldSegs_marked]
  have hjoined : TrackKept moves s (((s.setClaim s.claim.granted).cacheJoin s.claim.record.segs).toIdle) :=
    { sound := fun ⟨hnodup, hlength, hpaths⟩ => by
        refine ⟨?_, ?_, by simpa using hpaths⟩
        · rw [hheld, hnames, State.toIdle_segs, List.append_nil]; exact hnodup
        · rw [hheld, hnames, State.toIdle_segs, List.append_nil]; exact hlength
      clear := fun _ ⟨hsorted, hclear⟩ => by
        have hcache := (Narrows.refl (s.setClaim s.claim.granted)).cacheJoin s.claim.record.segs
        refine ⟨by simpa using hcache.cache.sorted hsorted, fun n hn => ?_⟩
        obtain ⟨hold, hfree⟩ :=
          namedIn_cacheJoin (s := s.setClaim s.claim.granted) hsorted (segs := s.claim.record.segs) (by simpa using hn)
        rw [hheld, hnames, List.mem_append, not_or]
        exact ⟨hclear n hold, hfree⟩
      rearFirst := fun _ hr => by
        rw [hheld, OccupiedFirst, List.pairwise_append]
        refine ⟨hr, ?_, ?_⟩
        · exact List.pairwise_map.2 (List.pairwise_of_forall (fun _ _ h => nomatch h))
        · intro e _ f hf hocc
          obtain ⟨n, -, rfl⟩ := List.mem_map.1 hf
          cases hocc }
  unfold State.windowR2Due
  split
  · exact hjoined.before ((Narrows.refl _).chooseExpected.newAuthority _)
  · exact refl s

/-- START makes the occupied run the held list and frees what the cache names on it (R18, R24, R122). -/
theorem start (s : State) (a : StartArgs) : TrackKept moves s (s.start a).state := by
  have hstarted (c : Centre) (run : List Nat) (hrun : run.Nodup) (hlength : run.length ≤ 12) :
      TrackKept moves s (s.started c run) := by
    have hbegun : TrackKept moves ((s.setPos (s.pos.begin c)).setMotion (Motion.still (emergencyRate s.orders.effective)))
        ((((s.setPos (s.pos.begin c)).setMotion (Motion.still (emergencyRate s.orders.effective))).setClaim
          (s.claim.begin run)).cacheJoin run) := by
      have hnarrow := (Narrows.refl (((s.setPos (s.pos.begin c)).setMotion
        (Motion.still (emergencyRate s.orders.effective))).setClaim (s.claim.begin run))).cacheJoin run
      have hheld : heldSegs (s.claim.begin run).held = run := heldSegs_marked run .occupied
      have hsegs : (s.claim.begin run).record.segs = [] := rfl
      refine
        { sound := fun ⟨_, _, hpaths⟩ => ?_
          clear := fun _ ⟨hsorted, _⟩ => ⟨hnarrow.cache.sorted hsorted, fun n hn => ?_⟩
          rearFirst := fun _ _ => ?_ }
      · refine hnarrow.trackKept.sound (moves := True) ⟨?_, ?_, hpaths⟩
        · simpa [hheld, hsegs] using hrun
        · simpa [hheld, hsegs] using hlength
      · simpa [hheld] using (namedIn_cacheJoin (by exact hsorted) hn).2
      · simp only [State.cacheJoin_held, State.setClaim_claim]
        exact List.pairwise_map.2 (List.pairwise_of_forall (fun _ _ _ => rfl))
    exact ((hbegun.after (((Narrows.refl s).setPos _).setMotion _)).before ((((((Narrows.refl _).chooseExpected.setNotice
      _).setLine _).offerBeacon _).setControl _).changeState _ _))
  unfold State.start
  split
  · exact refl s
  split
  · exact refl s
  split
  next g dir hseg _ =>
    split
    · exact refl s
    next hoffset =>
      split
      · exact refl s
      next run hrun =>
        have hle : a.offset ≤ lengthOf s.pos.map a.seg := by
          simp only [lengthOf, hseg, Option.map_some, Option.getD_some]
          omega
        obtain ⟨-, -, -, hnodup, hlength, -⟩ := (Proofs.occupiedRun_is_exact _ _ _ _ _ _ hle).1 hrun
        exact hstarted _ _ hnodup hlength
  · exact refl s

/-! ## Orders (R155) -/

/-- The queue is replaced by one whose paths name no segment twice. -/
theorem setList {l : List Order}
    (hl : (∀ o ∈ s.orders.list, o.path.Nodup) → ∀ o ∈ l, o.path.Nodup) : TrackKept moves s (s.setList l) where
  sound := fun ⟨hnodup, hlength, hpaths⟩ => ⟨hnodup, hlength, hl hpaths⟩
  clear := fun _ ⟨hsorted, hclear⟩ => ⟨hsorted, hclear⟩
  rearFirst := fun _ => id

theorem placeOrder (s : State) (t : Nat) {o : Order} (ho : o.path.Nodup) : TrackKept moves s (s.placeOrder t o) := by
  have hpush (u : State) : TrackKept moves u (u.setList (o :: u.orders.list)) :=
    setList (fun hs => List.forall_mem_cons.2 ⟨ho, hs⟩)
  unfold State.placeOrder
  split
  · unfold State.placeFront
    split
    · exact setList (fun _ => by simpa using ho)
    next head rest hl =>
      split
      · exact setList (fun hs => by simpa [ho, hl] using hs)
      · exact setList (fun hs => by simpa [ho, hl] using hs)
      · dsimp only
        split
        · exact (hpush _).after ((Narrows.refl s).cancelMarked t head)
        · exact (hpush _).after ((((Narrows.refl s).suspend _ .front).askStop .front).abandonClaim t)
      · exact setList (fun hs => by simpa [ho, hl] using hs)
  · exact setList (fun hs => List.forall_mem_append.2 ⟨hs, by simpa using ho⟩)

theorem submitOrder (s : State) (a : OrderArgs) : TrackKept moves s (s.submitOrder a).state := by
  simp only [State.submitOrder]
  split
  · exact refl s
  split
  · exact refl s
  split
  · exact refl s
  split
  · exact refl s
  · exact refl s
  next hfault =>
    have hplaced : TrackKept moves s (s.placeOrder s.now (a.order (s.endBounds a.path))) :=
      placeOrder s s.now (nodup_of_pathFault hfault).1
    split
    · exact refl s
    split
    · exact hplaced
    · exact hplaced

/-! ## Frames from the buffer (R43) -/

theorem takeBeacon (s : State) (t x edition : Nat) (b : BeaconBody) : TrackKept moves s (s.takeBeacon t x edition b) := by
  have hresponder := (Narrows.refl s).responderBeacon t x edition b.held
  have hskip : ∀ e ∈ b.held, e.seg ∈ heldSegs (s.responderBeacon t x edition b.held).claim.held →
      e.seg ∈ (heldSegs b.held).filter (fun n => (heldSegs s.claim.held).contains n) := fun e he hheld =>
    List.mem_filter.2 ⟨List.mem_map_of_mem he, List.contains_iff_mem.2 ((hresponder.held.map HeldEntry.seg).subset hheld)⟩
  exact ((cacheBeacon x hskip).after hresponder).before ((Narrows.refl _).claimBeacon t x b)

/-- An objection that names a segment of the claim names none of the held list (R75). -/
theorem objectHeld (s : State) (t x : Nat) {seg : Nat} (m : Mark) (hseg : seg ∈ s.claim.record.segs) :
    TrackKept moves s (s.objectHeld t x seg m) := by
  refine of_sound ?_ (fun hs => ?_)
  · simp only [State.objectHeld]
    split <;> simp
  have hended := (Narrows.refl s).endClaim t
  have hfree : seg ∉ heldSegs (s.endClaim t).claim.held := fun hheld =>
    (List.nodup_append'.1 hs.1).2.2 ((hended.held.map HeldEntry.seg).subset hheld) hseg
  have hwritten : TrackKept moves s ((s.endClaim t).writeHolding seg x m .object []) :=
    (writeHolding x m .object [] hfree).after hended
  simp only [State.objectHeld]
  split
  · exact hwritten.before ((Narrows.refl _).enterBlocked _ _)
  · exact hwritten

/-- The objected segment is given back before it is written as held by another station (R78). -/
theorem lateReserved (s : State) (t x seg : Nat) (m : Mark) : TrackKept moves s (s.lateReserved t x seg m) := by
  have hgiven := (Narrows.refl s).giveBack t (seg :: afterSeg (heldSegs s.claim.held) seg)
  have hfree : seg ∉ heldSegs (s.giveBack t (seg :: afterSeg (heldSegs s.claim.held) seg)).claim.held := by
    rw [State.giveBack_of_ne_nil _ _ (by simp)]
    simp only [State.send_frame, State.setClaim_claim, heldSegs, List.mem_map, List.mem_filter, not_exists, not_and]
    rintro e ⟨-, hout⟩ rfl
    simp at hout
  exact ((writeHolding x m .object [] hfree).after hgiven).before
    (((Narrows.refl _).endClaim t).chooseExpected.newAuthority t)

theorem not_held_of_markOf {held : List HeldEntry} {seg : Nat} (h : markOf held seg = none) : seg ∉ heldSegs held := by
  intro hseg
  obtain ⟨e, he, rfl⟩ := List.mem_map.1 hseg
  simp only [markOf, Option.map_eq_none_iff, List.find?_eq_none, beq_iff_eq] at h
  exact h e he rfl

theorem lateObjection (s : State) (t x edition seg : Nat) (why : Reason) :
    TrackKept moves s (s.lateObjection t x edition seg why) := by
  unfold State.lateObjection
  split
  next m _ =>
    split
    · exact lateReserved s t x seg m
    · exact ((Narrows.refl s).holdConflict t x seg none).trackKept
    next hmark =>
      have hwritten : TrackKept moves s (s.writeHolding seg x m .object []) :=
        writeHolding x m .object [] (not_held_of_markOf hmark)
      simp only [State.lateOther]
      split
      · exact hwritten.before ((Narrows.refl _).enterBlocked _ _)
      · exact hwritten
  · split
    · exact ((Narrows.refl s).editionMismatch t x edition).trackKept
    · exact refl s

end TrackKept

end Sys2Proof.Machine
end

section
/-! PROOFS. The held list, the claim and the cache through the frames taken and the control step, and so through every command
(R59, R63, R122, R153); the entry events of a run that holds the held list in its order (R19, R59). -/

-- One declaration at a time: side by side they need more threads than the check's memory holds.
set_option Elab.async false

namespace Sys2Proof.Machine

open Sys2Proof.Safety

namespace TrackKept

variable {moves : Prop} {s t : State}

theorem takeObject (s : State) (t x edition number seg : Nat) (why : Reason) (r : PeerReport) :
    TrackKept moves s (s.takeObject t x edition number seg why r) := by
  have hfiled := (Narrows.refl s).fileReport x r
  simp only [State.takeObject]
  split
  next hmatched =>
    have hseg : seg ∈ (s.fileReport x r).claim.record.segs := by
      simp only [ClaimRecord.matched, Bool.and_eq_true] at hmatched
      exact List.contains_iff_mem.1 hmatched.2
    split
    · exact (objectHeld _ t x _ hseg).after hfiled
    · exact (objectHeld _ t x _ hseg).after hfiled
    · exact ((hfiled.endClaim t).enterContested seg _).trackKept
    · exact ((hfiled.endClaim t).editionMismatch t x edition).setClaim.trackKept
  · exact (lateObjection _ t x edition seg why).after hfiled

theorem process (s : State) (r : Received) : TrackKept moves s (s.process r) := by
  have h := Narrows.refl s
  simp only [State.process]
  split
  · exact takeBeacon s _ _ _ _
  · exact (h.takeClaim _ _ _ _ _ _ _).trackKept
  · exact takeObject s _ _ _ _ _ _ _
  · exact (h.takeWithdraw _ _).trackKept
  · exact (h.takeRelease _ _).trackKept
  · exact (h.takeEnquire _ _).trackKept
  · exact (h.raise _).trackKept

theorem takeHead (s : State) : TrackKept moves s s.takeHead := by
  unfold State.takeHead
  split
  · exact refl s
  · exact (process _ _).after (Narrows.refl s).popFrame

theorem takeKind (s : State) (kind : Nat) : TrackKept moves s (s.takeKind kind) := by
  unfold State.takeKind
  split
  · split
    · exact takeHead s
    · exact refl s
  · exact refl s

theorem takeFrames (s : State) (n : Nat) : TrackKept moves s (State.takeFrames n s) := by
  induction n generalizing s with
  | zero => exact refl s
  | succ n ih => exact (takeHead s).trans (ih _)

theorem hostCommand (s : State) (kind : Nat) (args : List Byte) {run : State → Answer}
    (hrun : ∀ u, TrackKept moves u (run u).state) : TrackKept moves s (s.hostCommand kind args run) := by
  cases he : s.executing kind args with
  | none => rw [State.hostCommand_of_other s kind args run he]; exact refl s
  | some u =>
    rw [State.hostCommand_of_executing s u kind args run he]
    refine before (trans ?_ (hrun u)) ((Narrows.refl _).placeReply _)
    simp only [State.executing, State.hostReady, Option.map_eq_some_iff] at he
    obtain ⟨v, hv, rfl⟩ := he
    split at hv
    · split at hv <;> cases hv
      exact takeFrames s _
    all_goals
      cases hv
      exact (takeFrames _ _).after ((Narrows.refl s).setPort _)

theorem hostChecked {α : Type} (s : State) (kind : Nat) (args : List Byte) {read : Option α}
    {taken : StationState → Bool} {run : State → α → Answer} (hrun : ∀ u a, TrackKept moves u (run u a).state) :
    TrackKept moves s (s.hostCommand kind args (fun u => u.checked read taken run)) := by
  refine hostCommand s kind args (fun u => ?_)
  unfold State.checked
  split
  · exact refl u
  split
  · exact hrun u _
  · exact refl u

/-- A command that only narrows keeps the track with its checks before it. -/
theorem hostNarrowing {α : Type} (s : State) (kind : Nat) (args : List Byte) {read : Option α}
    {taken : StationState → Bool} {run : State → α → Answer} (hrun : ∀ u a, Narrows u u → Narrows u (run u a).state) :
    TrackKept moves s (s.hostCommand kind args (fun u => u.checked read taken run)) :=
  hostChecked s kind args (fun u a => (hrun u a (.refl u)).trackKept)

theorem controlStep (s : State) : TrackKept True s s.controlStep := by
  have hmotion (u : State) (t : Nat) : TrackKept True u (u.motionStep t) := by
    have hturned := (reversalStep _ t).after ((((Narrows.refl u).latchStep t).figuresStep t).obstacleCheck t)
    exact (hturned.before (((((Narrows.refl _).driveStep _).stallStep t).serviceStep t).arrivalStep t _)).trans
      (claimStep _ t _)
  have hstepped := ((positionStep s s.now s.pos.pulses).before ((Narrows.refl _).setMotion
    { (s.positionStep s.now s.pos.pulses).motion with measured := measuredSpeed s.params s.pos.pulses })).trans
    (hmotion _ s.now)
  simp only [State.controlStep]
  split
  · exact hstepped.before ((Narrows.refl _).activationStep _)
  · exact hstepped

theorem outsideSetup {f : State → State} (hf : TrackKept moves s (f s)) : TrackKept moves s (s.outsideSetup f) := by
  unfold State.outsideSetup
  split
  · exact refl s
  · exact hf

/-- The two commands that move the body (R11, R14). -/
def movesBody (c : Instr) : Prop := (∃ obst loadc, c = .controlStep obst loadc) ∨ ∃ code, c = .tagRead code

/-- Every command keeps the held list sound and the cache clear of it. -/
theorem exec {c : Instr} (hexec : exec c s = .next t) : TrackKept (movesBody c) s t := by
  have h := Narrows.refl s
  have hdue {p : Prop} {_ : Decidable p} {u : State} (hu : Narrows s u) : Narrows s (if p then u else s) := by
    split
    · exact hu
    · exact h
  cases c with
  | powerOnReset => cases hexec; exact (Narrows.powerOn s).trackKept
  | commandTransaction hdi began => cases hexec; exact (h.transaction hdi began).trackKept
  | readTransaction hdi began => cases hexec; exact (h.transaction hdi began).trackKept
  | setStation args => cases hexec; exact hostNarrowing s _ _ (fun _ a hu => hu.setup.1 a)
  | setParameter args => cases hexec; exact hostNarrowing s _ _ (fun _ a hu => hu.setup.2.1 a)
  | loadSegment args => cases hexec; exact hostNarrowing s _ _ (fun _ a hu => hu.setup.2.2.1 a)
  | loadTagWindow args => cases hexec; exact hostNarrowing s _ _ (fun _ a hu => hu.setup.2.2.2.1 a)
  | setEdition args => cases hexec; exact hostNarrowing s _ _ (fun _ n hu => hu.setup.2.2.2.2 n)
  | start args => cases hexec; exact hostChecked s _ _ start
  | submitOrder args => cases hexec; exact hostChecked s _ _ submitOrder
  | cancelOrder args => cases hexec; exact hostNarrowing s _ _ (fun _ a hu => hu.cancelOrder a)
  | stop args => cases hexec; exact hostNarrowing s _ _ (fun _ _ hu => hu.halt _ _)
  | resume args => cases hexec; exact hostNarrowing s _ _ (fun _ _ hu => hu.resume)
  | restart args => cases hexec; exact hostNarrowing s _ _ (fun _ _ hu => hu.restart)
  | sendRelay args => cases hexec; exact hostNarrowing s _ _ (fun _ a hu => hu.sendRelay a)
  | lineReset args => cases hexec; exact hostNarrowing s _ _ (fun _ _ hu => hu.lineReset _)
  | clearLift args => cases hexec; exact hostNarrowing s _ _ (fun _ _ hu => hu.clearLift)
  | forgetStation args => cases hexec; exact hostNarrowing s _ _ (fun _ a hu => hu.forgetStation a)
  | queryStatus args => cases hexec; exact hostNarrowing s _ _ (fun _ _ hu => hu)
  | queryOrders args => cases hexec; exact hostNarrowing s _ _ (fun _ _ hu => hu)
  | queryCounters args => cases hexec; exact hostNarrowing s _ _ (fun _ _ hu => hu)
  | readCacheEntry args => cases hexec; exact hostNarrowing s _ _ (fun _ a hu => hu.readCacheEntry a)
  | invalidateCacheEntry args => cases hexec; exact hostNarrowing s _ _ (fun _ a hu => hu.invalidateEntry a)
  | invalidateCacheSegment args => cases hexec; exact hostNarrowing s _ _ (fun _ a hu => hu.invalidateSegment a)
  | invalidateCacheSet args => cases hexec; exact hostNarrowing s _ _ (fun _ a hu => hu.invalidateSet a)
  | readNotices args => cases hexec; exact hostNarrowing s _ _ (fun _ _ hu => hu.setNotice _)
  | enableNotices args => cases hexec; exact hostNarrowing s _ _ (fun _ a hu => hu.enableNotices a)
  | disableNotices args => cases hexec; exact hostNarrowing s _ _ (fun _ a hu => hu.disableNotices a)
  | setAttention args => cases hexec; exact hostNarrowing s _ _ (fun _ _ hu => hu.setNotice _)
  | readFaultRecord args => cases hexec; exact hostNarrowing s _ _ (fun _ _ hu => hu)
  | clearFaultRecord args => cases hexec; exact hostNarrowing s _ _ (fun _ _ hu => hu.setNotice _)
  | unknownCommand kind args =>
    change execUnknownCommand kind args s = .next t at hexec
    unfold execUnknownCommand at hexec
    split at hexec <;> cases hexec
    · exact refl s
    · exact hostCommand s _ _ refl
  | encoderPulse => cases hexec; exact outsideSetup (h.setPos _).trackKept
  | tagRead code =>
    cases hexec
    rw [eq_true (show movesBody (.tagRead code) from .inr ⟨code, rfl⟩)]
    exact outsideSetup (tagRead s _ _)
  | obstDeasserted => cases hexec; exact (h.bringObst false).trackKept
  | controlStep obst loadc =>
    cases hexec
    rw [eq_true (show movesBody (.controlStep obst loadc) from .inl ⟨obst, loadc, rfl⟩)]
    exact (outsideSetup (controlStep _)).after ((h.bringObst obst).setPins _)
  | serviceStopComplete => cases hexec; exact (hdue (h.serviceComplete _)).trackKept
  | emergencyStopComplete => cases hexec; exact (hdue (h.emergencyComplete _)).trackKept
  | driveStall => cases hexec; exact (hdue (h.raiseStall _)).trackKept
  | waitExpired => cases hexec; exact (hdue (h.setClaim.expireWait _)).trackKept
  | joinTimerExpiry => cases hexec; exact h.joinDue.trackKept
  | beaconTimerExpiry => cases hexec; exact h.beaconDue.trackKept
  | windowR1Expiry => cases hexec; exact h.windowR1Due.trackKept
  | grant => cases hexec; exact windowR2Due s
  | contestTimerExpiry => cases hexec; exact (hdue h.toIdle).trackKept
  | editionRetryExpiry => cases hexec; exact h.setClaim.trackKept
  | holdoffTimerExpiry => cases hexec; exact (hdue h.toIdle).trackKept
  | entryStale set way => cases hexec; exact (h.staleDue _).trackKept
  | liftSensorChange sup sdn loadc => cases hexec; exact ((h.setPins _).judgeSensors _).trackKept
  | liftTimeout => cases hexec; exact (hdue (h.liftTimeout _)).trackKept
  | frameClosed bits => cases hexec; exact (h.receive _ bits).trackKept
  | beaconReceived => cases hexec; exact takeKind s _
  | claimReceived => cases hexec; exact takeKind s _
  | enquireReceived => cases hexec; exact takeKind s _
  | objectReceived => cases hexec; exact takeKind s _
  | releaseReceived => cases hexec; exact takeKind s _
  | withdrawReceived => cases hexec; exact takeKind s _
  | relayReceived => cases hexec; exact takeKind s _
  | transmissionStart => cases hexec; exact h.beginSending.trackKept
  | transmissionComplete => cases hexec; exact h.completeSending.trackKept
  | collision bit => cases hexec; exact (h.collide bit).trackKept
  | backoffEnd => cases hexec; exact h.endBackoff.trackKept

theorem step (hstep : step s = .next t) : TrackKept True s t := by
  unfold Machine.step at hstep
  split at hstep
  · cases hstep; exact (Narrows.refl s).idle.trackKept
  next rest _ =>
    have hrun := (exec hstep).after ((Narrows.refl s).setPending rest)
    exact ⟨hrun.sound, hrun.clear, fun h => absurd trivial h⟩

end TrackKept

/-! ## Entry events on the run (R19, R59) -/

/-- A later place of the run is reached only after every earlier one. -/
theorem State.layout_reached_in_order (s : State) (hnodup : (s.layout.map Placed.seg).Nodup) :
    (s.layout.map Placed.seg).Pairwise
      (fun m n => n ∈ reached s.layout s.half s.tol → m ∈ reached s.layout s.half s.tol) := by
  rw [List.pairwise_map]
  refine (List.Pairwise.and_mem.1 (chain_ordered s.layout_chain s.layout_length)).imp ?_
  rintro p q ⟨hp, hq, hpq⟩ hreached
  obtain ⟨r, hr, hseg⟩ := List.mem_map.1 hreached
  obtain ⟨hr, hlo⟩ := List.mem_filter.1 hr
  obtain rfl : r = q := List.inj_on_of_nodup_map hnodup hr hq hseg
  have hlength := s.layout_length p hp
  have hnonneg := lengthUm_nonneg s.pos.map p.seg
  rw [decide_eq_true_eq] at hlo
  exact List.mem_map.2 ⟨p, List.mem_filter.2 ⟨hp, by rw [decide_eq_true_eq]; omega⟩, rfl⟩

/-- Marking the reached segments of a list that lies along the run keeps the OCCUPIED entries at its rear. -/
theorem occupiedFirst_mark {held : List HeldEntry} {segs : List Nat} (hrear : OccupiedFirst held)
    (hsegs : (heldSegs held).Pairwise (fun m n => n ∈ segs → m ∈ segs)) :
    OccupiedFirst (held.map (fun e => if segs.contains e.seg then { e with mark := .occupied } else e)) := by
  rw [OccupiedFirst, List.pairwise_map]
  refine (hrear.and (List.pairwise_map.1 hsegs)).imp ?_
  rintro e f ⟨hmark, hreached⟩
  simp only [List.contains_iff_mem]
  split <;> split <;> simp_all

end Sys2Proof.Machine

namespace Sys2Proof.Proofs

open Sys2Proof.Machine Sys2Proof.Safety

/-- Settles O7: the held list and the claim only narrow, but for a claim formed of path segments off the held list, its grant
and START's run; a queued path is checked when it is submitted and only cut afterwards. -/
theorem heldListStaysSound : Obligations.HeldListStaysSound :=
  fun _ _ hs hstep => (TrackKept.step hstep).sound hs

/-- Settles O9: a segment is written as held by another station only when it is off the held list, and what joins the held list
is freed in the cache; away from the two commands that move the body the list loses entries, gains RESERVED ones at its front,
or is START's; and entry events follow the order of the run. -/
theorem heldTrackIsUncachedAndOccupiedFirst : Obligations.HeldTrackIsUncachedAndOccupiedFirst := by
  refine ⟨fun s t hs ⟨hsorted, _⟩ hclear hstep => ?_, fun c s t hstep hread hrear hexec => ?_,
    fun s before after hrear hlayout hnodup => ?_⟩
  · rw [ownTrackUncached_iff] at hclear ⊢
    exact ((TrackKept.step hstep).clear hs ⟨hsorted, hclear⟩).clear
  · refine (TrackKept.exec hexec).rearFirst ?_ hrear
    rintro (⟨obst, loadc, rfl⟩ | ⟨code, rfl⟩)
    · exact hstep obst loadc rfl
    · exact hread code rfl
  · refine occupiedFirst_mark hrear ((s.layout_reached_in_order hnodup).sublist ?_)
    rw [hlayout]
    exact (List.sublist_append_left _ _).trans (List.sublist_append_right _ _)

end Sys2Proof.Proofs
end

section
/-! PROOFS. What an offer to the transmit queue adds (R45 to R47), what the end of a claim leaves of the Claim Engine (R72, R73),
and what a halt does to it and to the cache (R26, R125). -/

-- One declaration at a time: side by side they need more threads than the check's memory holds.
set_option Elab.async false

namespace Sys2Proof.Machine

open Sys2Proof.Safety

/-! ## Offers (R45 to R47) -/

theorem not_mergesWith_of_countKind {q : List TxEntry} {dest : Nat} {content : TxContent}
    (h : countKind q content.kind = 0) : q.any (mergesWith dest content) = false := by
  rw [List.any_eq_false]
  intro e he hmerge
  have hkind := List.countP_eq_zero.1 h e he
  exact hkind (by simpa using (kind_of_mergesWith hmerge).symm)

/-- A frame that merges with none and finds room enters at the tail. -/
theorem State.offer_of_room {s : State} (t : Nat) {dest : Nat} {content : TxContent}
    (hmerge : s.line.tx.any (mergesWith dest content) = false)
    (henquire : content.kind = 6 → countKind s.line.tx 6 < 3) (hroom : s.line.tx.length < 24) :
    s.offer t dest content = (s.enqueue dest content, true) := by
  have hlimit : ¬(content.kind = 6 ∧ 3 ≤ countKind s.line.tx 6) := by
    rintro ⟨hkind, hfull⟩
    have := henquire hkind
    omega
  simp [State.offer, hmerge, hlimit, hroom]

/-- A CLAIM enters at the tail where there is room and no other CLAIM (R45). -/
theorem State.offer_claim_of_room {s : State} (t : Nat) {number round urgency waited : Nat} {segs : List Nat}
    (hroom : s.line.tx.length < 24) (hnone : countKind s.line.tx 2 = 0) :
    s.offer t 255 (.fixed (.claim number round urgency waited segs))
      = (s.enqueue 255 (.fixed (.claim number round urgency waited segs)), true) :=
  State.offer_of_room t (not_mergesWith_of_countKind hnone) nofun hroom

theorem State.offerClaim_of_room {s : State} (t : Nat) (hroom : s.line.tx.length < 24)
    (hnone : countKind s.line.tx 2 = 0) :
    s.offerClaim t = s.enqueue 255 (.fixed (.claim s.claim.record.number s.claim.record.round s.claim.record.urgency
      s.claim.record.waited s.claim.record.segs)) := by
  simp [State.offerClaim, State.offer_claim_of_room t hroom hnone]

@[simp] theorem State.enqueue_tx (s : State) (dest : Nat) (content : TxContent) :
    (s.enqueue dest content).line.tx = s.line.tx ++ [⟨dest, content, 0, false, false⟩] := rfl

/-! ## The Claim Engine after a claim or a wait (R63, R72, R73) -/

/-- The record in IDLE, with the peer wait information and the wait-limit yield gone. -/
def ClaimEngine.idle (c : ClaimEngine) : ClaimEngine :=
  { c with record := c.record.toIdle, peerWait := none, waitLimitYield := false }

theorem State.toIdle_idle (s : State) : s.toIdle.claim = s.claim.idle := s.toIdle_claim

/-- What the removal of a queued CLAIM leaves outstanding (R48, R72). -/
def ClaimEngine.removalAfter (c : ClaimEngine) (tx : List TxEntry) : Option Removal :=
  match c.record.state with
  | .queuedR1 => if claimInFlight tx then some ⟨c.record.number, true⟩ else c.removal
  | .queuedR2 => if claimInFlight tx then some ⟨c.record.number, false⟩ else c.removal
  | .idle | .windowR1 | .windowR2 | .blocked | .contested | .holdoff => c.removal

/-- The Claim Engine after its claim or wait has ended, with this transmit queue at the end. -/
def ClaimEngine.ended (c : ClaimEngine) (tx : List TxEntry) : ClaimEngine :=
  { c.idle with removal := c.removalAfter tx }

theorem State.askRemoval_claim (s : State) (owed : Bool) :
    (s.askRemoval owed).claim
      = { s.claim with
          removal := if claimInFlight s.line.tx then some ⟨s.claim.record.number, owed⟩ else s.claim.removal } := by
  simp only [State.askRemoval]
  split <;> simp

/-- A pending claim ends (R72). -/
theorem State.endClaim_claim {s : State} (t : Nat) (h : s.claim.record.state.isPending = true) :
    (s.endClaim t).claim = s.claim.ended s.line.tx := by
  unfold State.endClaim ClaimEngine.ended ClaimEngine.removalAfter
  split <;>
    simp_all [State.toIdle_idle, State.askRemoval_claim, ClaimEngine.idle, ClaimState.isPending, ClaimRecord.toIdle]

theorem ClaimEngine.ended_of_not_pending {c : ClaimEngine} (tx : List TxEntry) (h : c.record.state.isPending = false) :
    c.ended tx = c.idle := by
  have hremoval : c.removalAfter tx = c.idle.removal := by
    unfold ClaimEngine.removalAfter
    split <;> simp_all [ClaimState.isPending, ClaimEngine.idle]
  rw [ClaimEngine.ended, hremoval]

/-- A pending claim and a wait end alike in IDLE (R73). -/
theorem State.abandonClaim_ended (s : State) (t : Nat) : (s.abandonClaim t).claim = s.claim.ended s.line.tx := by
  cases hpending : s.claim.record.state.isPending with
  | true =>
    rw [State.abandonClaim, State.toIdle_idle, State.endClaim_claim t hpending]
    rfl
  | false =>
    rw [State.abandonClaim, State.endClaim_of_not_pending t hpending, State.toIdle_idle,
      ClaimEngine.ended_of_not_pending _ hpending]

/-- A report of the cache ends a wait or leaves the Claim Engine as it is (R118). -/
theorem State.cacheReport_claim (s : State) (seg x : Nat) :
    (s.cacheReport seg x).claim = s.claim ∨ (s.cacheReport seg x).claim = s.claim.idle := by
  unfold State.cacheReport
  split
  · exact .inr s.toIdle_idle
  · exact .inl rfl

theorem State.freeWay_claim (s : State) (source : Option Source) (k : Nat) :
    (s.freeWay source k).claim = s.claim ∨ (s.freeWay source k).claim = s.claim.idle := by
  unfold State.freeWay
  split
  · exact .inl rfl
  · simpa using State.cacheReport_claim (s.setWays _) _ _

/-! ## A halt (R26) -/

/-- What a halt does to the Claim Engine: nothing, or the end of the claim or wait in hand. -/
theorem State.halt_claim (s : State) (t : Nat) (c : Cause) :
    (s.halt t c).claim = s.claim ∨ (s.halt t c).claim = s.claim.ended s.line.tx := by
  have hentered : ((s.addCause c).enterHalted t).claim = s.claim.ended s.line.tx := by
    simp [State.enterHalted, State.abandonClaim_ended, State.addCause]
  unfold State.halt
  split
  · exact .inl rfl
  · exact .inl rfl
  · exact .inr hentered
  · exact .inr hentered

/-- What a halt does to the cache: nothing, or the pins of a cancelled order go (R125, R162). -/
theorem State.halt_cache (s : State) (t : Nat) (c : Cause) :
    (s.halt t c).cache = s.cache ∨ ∃ tag, (s.halt t c).cache = s.cache.unpin tag (fun _ => true) := by
  have horders (u : State) : (u.haltOrders t).cache = u.cache
      ∨ ∃ tag, (u.haltOrders t).cache = u.cache.unpin tag (fun _ => true) := by
    unfold State.haltOrders
    split
    · exact .inl rfl
    next o _ =>
      split
      · exact .inr ⟨o.tag, by simp [State.cancelMarked, State.orderCancelled, State.removeOrder]⟩
      · exact .inl (by simp)
  have hentered := horders (State.abandonClaim
    ((((s.addCause c).setControl { (s.addCause c).control with joinTimer := none }).changeState t .halted).setMotion
      (Motion.emergencyStop (((s.addCause c).setControl { (s.addCause c).control with joinTimer := none }).changeState t
        .halted).motion (((s.addCause c).setControl { (s.addCause c).control with joinTimer := none }).changeState t
        .halted).orders.effective)) t)
  simp only [State.abandonClaim_frame, State.setMotion_cache, State.changeState_frame, State.setControl_cache] at hentered
  unfold State.halt
  split
  · exact .inl rfl
  · exact .inl rfl
  · exact hentered
  · exact hentered

/-- What a detected halting cause does to both. -/
theorem State.haltWith_claim (s : State) (t : Nat) (r : HaltReport) :
    ((s.haltWith t r).claim = s.claim ∨ (s.haltWith t r).claim = s.claim.ended s.line.tx)
      ∧ ((s.haltWith t r).cache = s.cache ∨ ∃ tag, (s.haltWith t r).cache = s.cache.unpin tag (fun _ => true)) := by
  unfold State.haltWith
  exact ⟨by simpa using State.halt_claim ((s.raise _).offerFault _) t r.cause,
    by simpa using State.halt_cache ((s.raise _).offerFault _) t r.cause⟩

/-- What a new authority limit does to both: nothing, or what the halt of an overrun does. -/
theorem State.newAuthority_claim (s : State) (t : Nat) :
    ((s.newAuthority t).claim = s.claim ∨ (s.newAuthority t).claim = s.claim.ended s.line.tx)
      ∧ ((s.newAuthority t).cache = s.cache ∨ ∃ tag, (s.newAuthority t).cache = s.cache.unpin tag (fun _ => true)) := by
  unfold State.newAuthority State.overrunCheck
  split
  case h_3 => exact ⟨.inl rfl, .inl rfl⟩
  all_goals
    split
    · exact ⟨.inl rfl, .inl rfl⟩
    split
    · exact ⟨.inl rfl, .inl rfl⟩
    · exact State.haltWith_claim _ t _

/-- Removing pins leaves every entry what it names and its status (R125). -/
theorem mem_unpin {c : PeerCache} {tag : Nat} {p : Nat → Bool} {w : Nat × CacheEntry} (h : w ∈ (c.unpin tag p).ways) :
    ∃ v ∈ c.ways, v.1 = w.1 ∧ v.2.seg = w.2.seg ∧ v.2.holder = w.2.holder ∧ v.2.status = w.2.status := by
  obtain ⟨v, hv, hpin⟩ := List.mem_filterMap.1 h
  refine ⟨v, hv, ?_⟩
  simp only [unpinEntry] at hpin
  split at hpin
  · split at hpin <;> cases hpin
    exact ⟨rfl, rfl, rfl, rfl⟩
  · cases hpin; exact ⟨rfl, rfl, rfl, rfl⟩

end Sys2Proof.Machine
end

section
/-! PROOFS. The two windows of a claim: round 2 and the grant (R70, R71, R112). -/

-- One declaration at a time: side by side they need more threads than the check's memory holds.
set_option Elab.async false

namespace Sys2Proof.Machine

open Sys2Proof.Safety

/-- Every entry that names a holder is an old one, with its way, its segment, its holder and its status. -/
def NamedEntriesKept (ways new : Table CacheEntry) : Prop :=
  ∀ w ∈ new, w.2.holder ≠ 0 →
    ∃ v ∈ ways, v.1 = w.1 ∧ v.2.seg = w.2.seg ∧ v.2.holder = w.2.holder ∧ v.2.status = w.2.status

theorem NamedEntriesKept.trans {a b c : Table CacheEntry} (h : NamedEntriesKept a b) (g : NamedEntriesKept b c) :
    NamedEntriesKept a c := fun w hw hx => by
  obtain ⟨v, hv, hkey, hseg, hholder, hstatus⟩ := g w hw hx
  obtain ⟨u, hu, hkey', hseg', hholder', hstatus'⟩ := h v hv (hholder ▸ hx)
  exact ⟨u, hu, hkey'.trans hkey, hseg'.trans hseg, hholder'.trans hholder, hstatus'.trans hstatus⟩

theorem freeWay_namedEntriesKept (s : State) (source : Option Source) (k : Nat) :
    NamedEntriesKept s.cache.ways (s.freeWay source k).cache.ways := by
  intro w hw hx
  rw [State.freeWay_ways, freedWays] at hw
  split at hw
  · exact ⟨w, hw, rfl, rfl, rfl, rfl⟩
  · split at hw
    · exact ⟨w, List.mem_of_mem_filter hw, rfl, rfl, rfl, rfl⟩
    · obtain rfl | hold := Table.mem_insert _ k _ w hw
      · exact absurd rfl hx
      · exact ⟨w, hold, rfl, rfl, rfl, rfl⟩

theorem cacheJoin_namedEntriesKept (s : State) (segs : List Nat) :
    NamedEntriesKept s.cache.ways (s.cacheJoin segs).cache.ways := by
  have hfold (l : List Nat) (u : State) (hu : NamedEntriesKept s.cache.ways u.cache.ways) :
      NamedEntriesKept s.cache.ways (l.foldl (fun s k => s.freeWay none k) u).cache.ways := by
    induction l generalizing u with
    | nil => exact hu
    | cons k l ih => exact ih _ (hu.trans (freeWay_namedEntriesKept u none k))
  exact hfold _ s (fun w hw _ => ⟨w, hw, rfl, rfl, rfl, rfl⟩)

theorem newAuthority_namedEntriesKept (s : State) (t : Nat) :
    NamedEntriesKept s.cache.ways (s.newAuthority t).cache.ways := by
  intro w hw _
  obtain h | ⟨tag, h⟩ := (s.newAuthority_claim t).2
  · exact ⟨w, h ▸ hw, rfl, rfl, rfl, rfl⟩
  · exact mem_unpin (h ▸ hw)

/-- The Claim Engine when its record has gone to IDLE is not touched further by what follows. -/
theorem ClaimEngine.ended_idle (c : ClaimEngine) (tx : List TxEntry) : c.idle.ended tx = c.idle := by
  rw [ClaimEngine.ended_of_not_pending tx rfl]
  rfl

theorem cacheJoin_claim_or (s : State) (segs : List Nat) :
    (s.cacheJoin segs).claim = s.claim ∨ (s.cacheJoin segs).claim = s.claim.idle := by
  have hfold (l : List Nat) (u : State) (hu : u.claim = s.claim ∨ u.claim = s.claim.idle) :
      (l.foldl (fun s k => s.freeWay none k) u).claim = s.claim
        ∨ (l.foldl (fun s k => s.freeWay none k) u).claim = s.claim.idle := by
    induction l generalizing u with
    | nil => exact hu
    | cons k l ih =>
      refine ih _ ?_
      obtain hsame | hidle := u.freeWay_claim none k
      · rwa [hsame]
      · right
        obtain h | h := hu
        · rw [hidle, h]
        · rw [hidle, h]; rfl
  exact hfold _ s (.inl rfl)

/-- What a grant leaves of the Claim Engine. -/
theorem State.grant_claim (s : State) (t : Nat) : (s.grant t).claim = s.claim.granted.idle := by
  have hidle : (((s.setClaim s.claim.granted).cacheJoin s.claim.record.segs).toIdle.chooseExpected).claim
      = s.claim.granted.idle := by
    rw [(State.chooseExpected_frame _).2.2.2.2.2.2.1, State.toIdle_idle]
    obtain h | h := cacheJoin_claim_or (s.setClaim s.claim.granted) s.claim.record.segs
    · rw [h]; rfl
    · rw [h]; rfl
  obtain h | h := (State.newAuthority_claim
    (((s.setClaim s.claim.granted).cacheJoin s.claim.record.segs).toIdle.chooseExpected) t).1
  · rw [State.grant, h, hidle]
  · rw [State.grant, h, hidle, ClaimEngine.ended_idle]

end Sys2Proof.Machine

namespace Sys2Proof.Proofs

open Sys2Proof.Machine Sys2Proof.Safety

/-- R70: the round 1 window's expiry offers round 2. -/
theorem roundTwo_is_offered (s : State) (hstate : s.claim.record.state = .windowR1) (hroom : s.line.tx.length < 24)
    (hnone : countKind s.line.tx 2 = 0) :
    exec .windowR1Expiry s
      = .next ((s.setRecord { s.claim.record with state := .queuedR2, round := 2, windowTimer := none }).enqueue 255
          (.fixed (.claim s.claim.record.number 2 s.claim.record.urgency s.claim.record.waited s.claim.record.segs))) := by
  change Host.Outcome.next s.windowR1Due = _
  rw [State.windowR1Due, if_pos hstate, State.secondRound]
  exact congrArg _ (State.offerClaim_of_room s.now hroom hnone)

/-- R71, R122: after the grant the cache names none of the segments that joined. -/
theorem grant_cache (s : State) (t : Nat) :
    NamedEntriesKept s.cache.ways (s.grant t).cache.ways
      ∧ (CacheSound s.cache → ∀ w ∈ (s.grant t).cache.ways, w.2.seg ∈ s.claim.record.segs → w.2.holder = 0) := by
  have hjoined := cacheJoin_namedEntriesKept (s.setClaim s.claim.granted) s.claim.record.segs
  have hlimited := newAuthority_namedEntriesKept
    (((s.setClaim s.claim.granted).cacheJoin s.claim.record.segs).toIdle.chooseExpected) t
  simp only [State.chooseExpected_frame, State.toIdle_frame] at hlimited
  refine ⟨hjoined.trans hlimited, fun hsound w hw hseg => ?_⟩
  by_contra hx
  obtain ⟨v, hv, -, hvseg, hholder, -⟩ := hlimited w hw hx
  have hnamed : NamedIn ((s.setClaim s.claim.granted).cacheJoin s.claim.record.segs).cache.ways v.2.seg :=
    ⟨v, hv, hholder ▸ hx, rfl⟩
  exact (namedIn_cacheJoin (s := s.setClaim s.claim.granted) hsound.1 hnamed).2 (hvseg ▸ hseg)

/-- Settles O51: round 2 is the only CLAIM in the queue and finds room; the grant's segments join the held list, and the halt of
an overrun that its new limit can cause finds the record in IDLE already. -/
theorem windowsLeadToTheGrant : Obligations.WindowsLeadToTheGrant := by
  refine fun s => ⟨fun hstate hroom hnone => ⟨_, roundTwo_is_offered s hstate hroom hnone, ?_⟩, fun hstate => ?_⟩
  · exact ⟨rfl, rfl, rfl, rfl, rfl, rfl, rfl⟩
  · have hexec : exec .grant s = .next (s.grant s.now) := by
      change Host.Outcome.next s.windowR2Due = _
      rw [State.windowR2Due, if_pos hstate]
    obtain ⟨hkept, hfreed⟩ := grant_cache s s.now
    refine ⟨_, hexec, ?_⟩
    rw [State.grant_claim]
    exact ⟨rfl, rfl, rfl, rfl, rfl, rfl, rfl, hkept, hfreed, by simp [State.grant], by simp [State.grant],
      by simp [State.grant], by simp [State.grant]⟩

end Sys2Proof.Proofs
end

section
/-! PROOFS. Completed stops give the RESERVED segments back (R85, R142, R143). -/

-- One declaration at a time: side by side they need more threads than the check's memory holds.
set_option Elab.async false

namespace Sys2Proof.Machine

open Sys2Proof.Safety

/-! ## Giving track back (R62, R85) -/

theorem State.giveBack_claim (s : State) (t : Nat) (segs : List Nat) :
    (s.giveBack t segs).claim = { s.claim with held := s.claim.held.filter (fun e => !segs.contains e.seg) } := by
  unfold State.giveBack
  split
  next hnil =>
    simp [List.isEmpty_iff.1 hnil]
  · simp

/-- The Claim Engine loses its RESERVED segments and nothing else (R85). -/
theorem State.releaseReserved_claim (s : State) (t : Nat) :
    (s.releaseReserved t).claim
      = { s.claim with
          held := s.claim.held.filter (fun e => !(heldSegs (s.claim.held.filter isReserved)).contains e.seg) } := by
  unfold State.releaseReserved
  split
  next hnil =>
    simp [List.isEmpty_iff.1 hnil, heldSegs]
  · rw [(State.chooseExpected_frame _).2.2.2.2.2.2.1, State.giveBack_claim]

/-- What stays on the held list: the OCCUPIED entries whose segment is not RESERVED as well (R85). -/
theorem State.mem_releaseReserved (s : State) (t : Nat) (e : HeldEntry) :
    e ∈ (s.releaseReserved t).claim.held ↔ e ∈ s.claim.held ∧ e.mark = .occupied ∧
      ∀ g ∈ s.claim.held, g.mark = .reserved → g.seg ≠ e.seg := by
  have hreserved : e.seg ∈ heldSegs (s.claim.held.filter isReserved)
      ↔ ∃ g ∈ s.claim.held, g.mark = .reserved ∧ g.seg = e.seg := by
    simp [heldSegs, isReserved, and_assoc]
  rw [State.releaseReserved_claim, List.mem_filter]
  refine and_congr_right fun he => ?_
  rw [Bool.not_eq_true', ← Bool.not_eq_true, List.contains_iff_mem, hreserved]
  constructor
  · intro hnone
    refine ⟨?_, fun g hg hmark hseg => hnone ⟨g, hg, hmark, hseg⟩⟩
    cases hmark : e.mark with
    | occupied => rfl
    | reserved => exact absurd ⟨e, he, hmark, rfl⟩ hnone
  · rintro ⟨-, hfree⟩ ⟨g, hg, hmark, hseg⟩
    exact hfree g hg hmark hseg

/-! ## What follows the release -/

/-- Without a service stop request a new limit leaves none: the halt of an overrun takes every one away (R142). -/
theorem State.newAuthority_requests {s : State} (t : Nat) (h : s.motion.requests = []) :
    (s.newAuthority t).motion.requests = [] := by
  have hhalt (u : State) (c : Cause) (hu : u.motion.requests = []) : (u.halt t c).motion.requests = [] := by
    unfold State.halt
    split
    · exact hu
    · exact hu
    all_goals rw [State.enterHalted_motion]; rfl
  unfold State.newAuthority State.overrunCheck
  split
  case h_3 => exact h
  all_goals
    split
    · exact h
    split
    · exact h
    · exact hhalt _ _ (by simpa [State.setOverrunMark] using h)

/-- In HALTED a new limit adds a cause at most (R27, R146). -/
theorem State.newAuthority_halted {s : State} (t : Nat) (hs : s.control.state = .halted) :
    (s.newAuthority t).control.state = .halted ∧ (s.newAuthority t).claim = s.claim
      ∧ (s.newAuthority t).orders = s.orders ∧ (s.newAuthority t).cache = s.cache
      ∧ (s.newAuthority t).motion.latch = s.motion.latch
      ∧ (s.newAuthority t).motion.latchReported = s.motion.latchReported := by
  unfold State.newAuthority State.overrunCheck
  split
  case h_3 => exact ⟨hs, rfl, rfl, rfl, rfl, rfl⟩
  all_goals
    split
    · exact ⟨hs, rfl, rfl, rfl, rfl, rfl⟩
    split
    · exact ⟨hs, rfl, rfl, rfl, rfl, rfl⟩
    · rw [State.haltWith, State.halt_of_halted _ _ (by simpa [State.setOverrunMark] using hs)]
      simp [hs, State.setOverrunMark]

@[simp] theorem State.toIdle_requests_of_nil {s : State} (h : s.motion.requests = []) : s.toIdle.motion.requests = [] := by
  obtain ⟨l, hl, hsub⟩ := s.toIdle_motion
  rw [hl]
  exact List.eq_nil_iff_forall_not_mem.2 (fun m hm => by simpa [h] using hsub m hm)

/-- The completion of a yield ends a holdoff or lets it wait; it keeps the held list (R108). -/
theorem State.yieldStopped_kept (s : State) (t : Nat) :
    (s.yieldStopped t).claim.held = s.claim.held
      ∧ (s.motion.requests = [] → (s.yieldStopped t).motion.requests = [])
      ∧ (s.claim.waitLimitYield = false → (s.yieldStopped t).claim.waitLimitYield = false)
      ∧ (s.claim.record.holdoff = none → s.yieldStopped t = s) := by
  unfold State.yieldStopped
  split
  · exact ⟨rfl, id, id, fun _ => rfl⟩
  next ho hholdoff =>
    have hidle (u : State) (hheld : u.claim.held = s.claim.held) (hmotion : u.motion = s.motion) :
        u.toIdle.claim.held = s.claim.held ∧ (s.motion.requests = [] → u.toIdle.motion.requests = [])
          ∧ (s.claim.waitLimitYield = false → u.toIdle.claim.waitLimitYield = false)
          ∧ (s.claim.record.holdoff = none → u.toIdle = s) := by
      refine ⟨?_, fun h => State.toIdle_requests_of_nil (by rw [hmotion, h]), fun _ => ?_, fun h => ?_⟩
      · rw [State.toIdle_idle]; exact hheld
      · rw [State.toIdle_idle]; rfl
      · rw [hholdoff] at h; cases h
    have hnone {p : Prop} (h : s.claim.record.holdoff = none) : p := by rw [hholdoff] at h; cases h
    split
    · split
      · split
        · exact hidle s rfl rfl
        · exact hidle _ (by simp) (by simp)
      · split
        · exact ⟨rfl, id, id, hnone⟩
        · exact hidle s rfl rfl
    · exact ⟨rfl, id, id, hnone⟩

theorem State.cancelStopped_kept (s : State) (t : Nat) :
    (s.cancelStopped t).claim = s.claim ∧ (s.cancelStopped t).motion = s.motion := by
  unfold State.cancelStopped
  split
  · exact ⟨rfl, rfl⟩
  · split
    · simp
    · exact ⟨rfl, rfl⟩

/-- The completed CANCEL stop takes the marked order off the queue (R162). -/
theorem State.cancelStopped_removes {s : State} (t : Nat) {o : Order} (ho : s.activeOrder = some o)
    (hmark : s.orders.cancelMark = some o.tag) : ∀ x ∈ (s.cancelStopped t).orders.list, x.tag ≠ o.tag := by
  intro x hx
  simp only [State.cancelStopped, ho, hmark, if_true] at hx
  simp only [State.cancelMarked, State.setOrders_orders, State.orderCancelled, State.raise_frame, State.removeOrder_list]
    at hx
  simpa using (List.mem_filter.1 hx).2

end Sys2Proof.Machine

namespace Sys2Proof.Proofs

open Sys2Proof.Machine Sys2Proof.Safety

/-- R85, R108, R142: what a completed service stop leaves. -/
theorem serviceComplete_gives_back (s : State) (t : Nat) :
    (s.serviceComplete t).motion.requests = []
      ∧ (∀ e, e ∈ (s.serviceComplete t).claim.held ↔ e ∈ s.claim.held ∧ e.mark = .occupied ∧
          ∀ g ∈ s.claim.held, g.mark = .reserved → g.seg ≠ e.seg)
      ∧ (s.serviceComplete t).claim.waitLimitYield = false := by
  obtain ⟨s2, hs2⟩ : ∃ u, u = ((s.setMotion { s.motion with requests := [], stopZero := 0 }).setClaim
      { s.claim with waitLimitYield := false }).releaseReserved t := ⟨_, rfl⟩
  have hmem : ∀ e, e ∈ s2.claim.held ↔ e ∈ s.claim.held ∧ e.mark = .occupied ∧
      ∀ g ∈ s.claim.held, g.mark = .reserved → g.seg ≠ e.seg := fun e => by rw [hs2, State.mem_releaseReserved]; rfl
  have hrequests : s2.motion.requests = [] := by simp [hs2]
  have hyield : s2.claim.waitLimitYield = false := by rw [hs2, State.releaseReserved_claim]; rfl
  obtain ⟨hheld, hnone, hclear, -⟩ := s2.yieldStopped_kept t
  have hlimited (u : State) (hu : u.claim.held = s2.claim.held) (hr : u.motion.requests = [])
      (hw : u.claim.waitLimitYield = false) :
      (u.newAuthority t).motion.requests = []
        ∧ (∀ e, e ∈ (u.newAuthority t).claim.held ↔ e ∈ s.claim.held ∧ e.mark = .occupied ∧
            ∀ g ∈ s.claim.held, g.mark = .reserved → g.seg ≠ e.seg)
        ∧ (u.newAuthority t).claim.waitLimitYield = false := by
    refine ⟨u.newAuthority_requests t hr, ?_⟩
    obtain h | h := (u.newAuthority_claim t).1
    · rw [h, hu]; exact ⟨hmem, hw⟩
    · rw [h]
      exact ⟨fun e => by rw [← hmem e, ← hu]; rfl, rfl⟩
  have hcancel (u : State) (hu : u.claim.held = s2.claim.held) (hr : u.motion.requests = [])
      (hw : u.claim.waitLimitYield = false) :=
    hlimited (u.cancelStopped t) (by rw [(u.cancelStopped_kept t).1, hu]) (by rw [(u.cancelStopped_kept t).2, hr])
      (by rw [(u.cancelStopped_kept t).1, hw])
  simp only [State.serviceComplete, ← hs2]
  split
  · split
    · exact hcancel _ hheld (hnone hrequests) (hclear hyield)
    · exact hcancel s2 rfl hrequests hyield
  · split
    · exact hlimited _ hheld (hnone hrequests) (hclear hyield)
    · exact hlimited s2 rfl hrequests hyield

/-- R162: with no holdoff in hand the stop of a CANCEL removes the marked order. -/
theorem serviceComplete_cancels {s : State} (t : Nat) (hcancel : StopMember.cancel ∈ s.motion.requests)
    (hholdoff : s.claim.record.holdoff = none) {o : Order} (ho : s.activeOrder = some o)
    (hmark : s.orders.cancelMark = some o.tag) : ∀ x ∈ (s.serviceComplete t).orders.list, x.tag ≠ o.tag := by
  obtain ⟨s2, hs2⟩ : ∃ u, u = ((s.setMotion { s.motion with requests := [], stopZero := 0 }).setClaim
      { s.claim with waitLimitYield := false }).releaseReserved t := ⟨_, rfl⟩
  have horders : s2.orders = s.orders := by simp [hs2]
  have hnone : s2.claim.record.holdoff = none := by rw [hs2, State.releaseReserved_claim]; exact hholdoff
  obtain ⟨-, -, -, hyield⟩ := s2.yieldStopped_kept t
  have hstopped : s.serviceComplete t = (s2.cancelStopped t).newAuthority t := by
    simp only [State.serviceComplete, ← hs2, hyield hnone, ite_self, List.contains_iff_mem, hcancel, if_true]
  intro x hx
  rw [hstopped] at hx
  obtain ⟨p, hp, htag, -⟩ := ((Narrows.refl _).newAuthority t).paths x hx
  rw [htag]
  exact s2.cancelStopped_removes t (by rw [State.activeOrder, horders]; exact ho) (by rw [horders]; exact hmark) p hp

/-- Settles O48: the release filters the held list, and what follows it (the yield, the cancelled order, the halt of an
overrun) keeps the list. -/
theorem completedStopsGiveTrackBack : Obligations.CompletedStopsGiveTrackBack := by
  refine fun s => ⟨fun hstate hrequests hcommanded hmeasured => ?_, fun hstate hlatch hmeasured => ?_⟩
  · have hexec : exec .serviceStopComplete s = .next (s.serviceComplete s.now) := by
      change Host.Outcome.next s.serviceStopDue = _
      rw [State.serviceStopDue, if_pos ⟨hstate, hrequests, by simp [Motion.standing, hcommanded, hmeasured]⟩]
    obtain ⟨hnone, hheld, hyield⟩ := serviceComplete_gives_back s s.now
    exact ⟨_, hexec, hnone, hheld, hyield,
      fun hcancel hholdoff o ho hmark => serviceComplete_cancels s.now hcancel hholdoff ho hmark,
      by simp, by simp, by simp, by simp⟩
  · have hexec : exec .emergencyStopComplete s = .next (s.emergencyComplete s.now) := by
      change Host.Outcome.next s.emergencyStopDue = _
      rw [State.emergencyStopDue, if_pos ⟨hlatch, hmeasured⟩]
    refine ⟨_, hexec, ?_⟩
    simp only [State.emergencyComplete]
    split
    next hreported =>
      exact ⟨rfl, rfl, hstate, fun h => absurd hreported (by simp [h]), fun _ => ⟨rfl, rfl⟩, rfl, rfl, rfl, rfl⟩
    next hreported =>
      obtain ⟨u, hu⟩ : ∃ u, u = (s.setMotion
          { s.motion with latch := .complete, latchZero := 200, latchReported := true }).releaseReserved s.now := ⟨_, rfl⟩
      obtain ⟨hhalted, hclaim, horders, hcache, hcomplete, hreport⟩ :=
        State.newAuthority_halted (s := u) s.now (by simpa [hu] using hstate)
      rw [State.stopRelease, ← hu]
      refine ⟨by rw [hcomplete, hu]; simp, by rw [hreport, hu]; simp, hhalted, fun _ e => ?_,
        fun h => absurd h hreported, by rw [horders, hu]; simp, by rw [hcache, hu]; simp, by simp [hu], by simp [hu]⟩
      rw [hclaim, hu]
      exact State.mem_releaseReserved _ _ e

end Sys2Proof.Proofs
end

section
/-! PROOFS. A claim's trigger, its candidates, its forming and its size, and the enquiries of a wait on a STALE segment (R65 to
R68). -/

-- One declaration at a time: side by side they need more threads than the check's memory holds.
set_option Elab.async false

namespace Sys2Proof.Machine

open Sys2Proof.Safety

/-! ## Trigger and candidates (R65) -/

/-- The candidates are what the active path has after the front-most held segment, unless the order is to be cancelled. -/
theorem State.candidates_eq_cons (s : State) (n : Nat) (rest : List Nat) :
    s.candidates = n :: rest ↔ ∃ o f before, s.activeOrder = some o ∧ (heldSegs s.claim.held).getLast? = some f
      ∧ s.orders.cancelMark ≠ some o.tag ∧ o.path = before ++ f :: n :: rest ∧ f ∉ before := by
  constructor
  · intro h
    unfold State.candidates at h
    split at h
    next o f ho hf =>
      split at h
      · cases h
      next hmark =>
        have hin : f ∈ o.path := by
          by_contra hout
          have hall : ∀ x ∈ o.path, (x != f) = true := fun x hx => by
            simpa using fun hxf : x = f => hout (hxf ▸ hx)
          simp [afterSeg, List.dropWhile_eq_nil_iff.2 hall] at h
        obtain ⟨hpath, hbefore⟩ := beforeSeg_afterSeg hin
        rw [h] at hpath
        exact ⟨o, f, _, ho, hf, hmark, hpath, hbefore⟩
    · cases h
  · rintro ⟨o, f, before, ho, hf, hmark, hpath, hbefore⟩
    have hfront : s.frontMost = some f := hf
    simp only [State.candidates, ho, hfront, if_neg hmark, hpath, afterSeg_append hbefore]

theorem State.candidates_ne_nil_active {s : State} (h : s.candidates ≠ []) : s.activeOrder.isSome = true := by
  obtain ⟨n, rest, hcons⟩ := List.exists_cons_of_ne_nil h
  obtain ⟨o, -, -, ho, -⟩ := (s.candidates_eq_cons n rest).1 hcons
  simp [ho]

theorem State.claimTrigger_iff (s : State) : s.claimTrigger = true ↔
    s.control.state = .running ∧ s.claim.record.state = .idle ∧ s.claim.removal = none ∧ s.claim.retryTimer = none
      ∧ s.claim.held.length < 12 ∧ s.candidates ≠ []
      ∧ ∃ d f, s.motion.authority = some d ∧ s.motion.figures = some f ∧ d < ((f.h + f.lead : Nat) : Int) := by
  have hreach : (match s.motion.authority, s.motion.figures with
      | some d, some f => decide (d < ((f.h + f.lead : Nat) : Int))
      | _, _ => false) = true
      ↔ ∃ d f, s.motion.authority = some d ∧ s.motion.figures = some f ∧ d < ((f.h + f.lead : Nat) : Int) := by
    split <;> simp_all
  unfold State.claimTrigger
  simp only [Bool.and_eq_true, beq_iff_eq, Option.isNone_iff_eq_none, Bool.not_eq_true', List.isEmpty_eq_false_iff,
    decide_eq_true_eq]
  rw [← hreach]
  constructor
  · rintro ⟨⟨⟨⟨⟨⟨⟨hstate, -⟩, hidle⟩, hremoval⟩, hretry⟩, hcandidates⟩, hroom⟩, hfar⟩
    exact ⟨hstate, hidle, hremoval, hretry, hroom, hcandidates, hfar⟩
  · rintro ⟨hstate, hidle, hremoval, hretry, hroom, hcandidates, hfar⟩
    exact ⟨⟨⟨⟨⟨⟨⟨hstate, State.candidates_ne_nil_active hcandidates⟩, hidle⟩, hremoval⟩, hretry⟩, hcandidates⟩, hroom⟩, hfar⟩

/-! ## Forming (R64, R66, R67) -/

/-- A CLAIM that finds the queue full of classes A and B is not taken (R47). -/
theorem State.offer_claim_of_full {s : State} (t : Nat) {number round urgency waited : Nat} {segs : List Nat}
    (hfull : 24 ≤ s.line.tx.length) (hclasses : ∀ e ∈ s.line.tx, e.class < 2 ∧ e.kind ≠ 2) :
    (s.offer t 255 (.fixed (.claim number round urgency waited segs))).2 = false
      ∧ (s.offer t 255 (.fixed (.claim number round urgency waited segs))).1.line.tx = s.line.tx := by
  have hmerge : s.line.tx.any (mergesWith 255 (.fixed (.claim number round urgency waited segs))) = false :=
    not_mergesWith_of_countKind (List.countP_eq_zero.2 fun e he => by
      simpa [TxContent.kind, Body.kind] using (hclasses e he).2)
  have hnewest (cls : Nat) (hcls : 2 ≤ cls) : newestOf s.line.tx cls = none := by
    refine List.find?_eq_none.2 fun e he => ?_
    have hclass := (hclasses e (List.mem_reverse.1 he)).1
    simp only [Bool.and_eq_true, beq_iff_eq, not_and]
    omega
  have hshort : ¬s.line.tx.length < 24 := by omega
  simp [State.offer, hmerge, hnewest, hshort, TxContent.kind, Body.kind, kindClass, State.dropFrame, LaneLine.countDropped]

/-- The record of a new attempt (R64, R67). -/
def State.attemptRecord (s : State) (t : Nat) (segs : List Nat) (urgency : Nat) : ClaimRecord :=
  { s.claim.record.toIdle with
    state := .queuedR1, number := (s.claim.counter + 1) % 256, segs := segs, urgency := urgency
    waited := s.claim.waited, round := 1, attemptTime := t }

/-- A new attempt before its CLAIM is offered. -/
def State.attempted (s : State) (t : Nat) (segs : List Nat) (urgency : Nat) : State :=
  s.setClaim { s.claim with counter := (s.claim.counter + 1) % 256, record := s.attemptRecord t segs urgency }

theorem State.newAttempt_eq (s : State) (t : Nat) (segs : List Nat) (urgency : Nat) :
    s.newAttempt t segs urgency = (s.attempted t segs urgency).offerClaim t := rfl

/-- The offer of a CLAIM keeps the Claim Engine, or the claim ends undelivered in IDLE (R74). -/
theorem State.offerClaim_claim {s : State} (t : Nat) (h : s.claim.record.state = .queuedR1) :
    (s.offerClaim t).claim = s.claim ∨ (s.offerClaim t).claim = s.claim.idle := by
  simp only [State.offerClaim]
  split
  · exact .inl (by simp)
  · refine .inr ?_
    simp [State.claimUndelivered, h, State.toIdle_idle]

theorem State.offerClaim_of_full {s : State} (t : Nat) (h : s.claim.record.state = .queuedR1)
    (hfull : 24 ≤ s.line.tx.length) (hclasses : ∀ e ∈ s.line.tx, e.class < 2 ∧ e.kind ≠ 2) :
    (s.offerClaim t).claim.record.state = .idle ∧ (s.offerClaim t).line.tx = s.line.tx := by
  obtain ⟨hrefused, htx⟩ := State.offer_claim_of_full (s := s) t (number := s.claim.record.number)
    (round := s.claim.record.round) (urgency := s.claim.record.urgency) (waited := s.claim.record.waited)
    (segs := s.claim.record.segs) hfull hclasses
  simp [State.offerClaim, hrefused, State.claimUndelivered, h, State.toIdle_idle, ClaimEngine.idle, ClaimRecord.toIdle, htx]

/-- Forming with the trigger's data at hand (R66). -/
theorem State.formClaim_of_trigger {s : State} (t : Nat) {n : Nat} {rest : List Nat} {o : Order} {d : Int} {f : Figures}
    (htrigger : s.claimTrigger = true) (hcandidates : s.candidates = n :: rest) (ho : s.activeOrder = some o)
    (hd : s.motion.authority = some d) (hf : s.motion.figures = some f) :
    s.formClaim t = if n ∈ heldSegs s.claim.held then s else
      match lookup s.cache n with
      | .held x => s.enterBlocked n x
      | .stale x => (s.enterBlocked n x).foundStale true
      | .miss | .none => s.newAttempt t (s.sizeClaim d f.hCap n rest) o.urgency := by
  simp [State.formClaim, htrigger, hcandidates, ho, hd, hf] <;> rfl

/-- The Claim Engine in BLOCKED on `n` behind `x` (R66, R84, R104). -/
structure BlockedOn (c : ClaimEngine) (n x : Nat) (stale : Prop) (d : ClaimEngine) : Prop where
  held : d.held = c.held
  counter : d.counter = c.counter
  state : d.record.state = .blocked
  seg : d.record.waitSeg = some n
  holder : d.record.holder = some x
  segs : d.record.segs = []
  stale : d.record.lastStale = true ↔ stale
  peer : d.peerWait = Table.find c.reports x
  waitedSeg : d.waitedSeg = some n
  counts : c.waitedSeg = some n → d.waited = c.waited ∧ d.expired = c.expired
  restarts : c.waitedSeg ≠ some n → d.waited = 0 ∧ d.expired = false

theorem State.enterBlocked_blockedOn (s : State) (n x : Nat) (b : Bool) :
    BlockedOn s.claim n x (b = true)
      { (s.enterBlocked n x).claim with record := { (s.enterBlocked n x).claim.record with lastStale := b } } := by
  by_cases h : s.claim.waitedSeg = some n
  · constructor <;> simp [State.enterBlocked, ClaimEngine.countFor, h, ClaimRecord.toIdle]
  · constructor <;> simp [State.enterBlocked, ClaimEngine.countFor, h, ClaimRecord.toIdle]

theorem State.enterBlocked_eq_setClaim (s : State) (n x : Nat) :
    s.enterBlocked n x = s.setClaim
      { (s.enterBlocked n x).claim with record := { (s.enterBlocked n x).claim.record with lastStale := false } } := rfl

/-! ## Size (R67) -/

theorem State.sizeClaim_spec {s : State} (d : Int) (hCap n : Nat) (rest : List Nat) (hheld : s.claim.held.length < 12) :
    s.sizeClaim d hCap n rest <+: n :: rest ∧ 1 ≤ (s.sizeClaim d hCap n rest).length
      ∧ (s.sizeClaim d hCap n rest).length ≤ 8
      ∧ s.claim.held.length + (s.sizeClaim d hCap n rest).length ≤ 12
      ∧ (∀ i m, 0 < i → (s.sizeClaim d hCap n rest)[i]? = some m → s.stopsClaim m = false
          ∧ d + ((((s.sizeClaim d hCap n rest).take i).map (lengthOf s.pos.map)).sum : Nat) < (hCap : Int))
      ∧ ∀ m, (n :: rest)[(s.sizeClaim d hCap n rest).length]? = some m →
          (s.sizeClaim d hCap n rest).length = 8 ∨ s.claim.held.length + (s.sizeClaim d hCap n rest).length = 12
            ∨ s.stopsClaim m = true
            ∨ (hCap : Int) ≤ d + (((s.sizeClaim d hCap n rest).map (lengthOf s.pos.map)).sum : Nat) := by
  obtain ⟨hprefix, hlength, htaken, hnext⟩ := s.takeMore_spec hCap (min 8 (12 - s.claim.held.length) - 1)
    (d + (lengthOf s.pos.map n : Int)) rest
  unfold State.sizeClaim
  simp only [List.length_cons, List.map_cons, List.sum_cons]
  refine ⟨List.cons_prefix_cons.2 ⟨rfl, hprefix⟩, by omega, by omega, by omega, fun i m hi hm => ?_, fun m hm => ?_⟩
  · obtain ⟨j, rfl⟩ := Nat.exists_eq_succ_of_ne_zero hi.ne'
    obtain ⟨hfree, hreach⟩ := htaken j m hm
    refine ⟨hfree, ?_⟩
    simp only [Nat.succ_eq_add_one, List.take_succ_cons, List.map_cons, List.sum_cons]
    omega
  · obtain hfull | hstop | hfar := hnext m hm
    · omega
    · exact .inr (.inr (.inl hstop))
    · exact .inr (.inr (.inr (by omega)))

/-! ## Enquiries (R68) -/

theorem State.enquiryStep_of_blocked {s : State} (t : Nat) {n : Nat} (hstate : s.claim.record.state = .blocked)
    (hseg : s.claim.record.waitSeg = some n) (hstale : s.claim.record.lastStale = true) :
    s.enquiryStep t = match lookup s.cache n with
      | .stale _ => s.enquire t n
      | .miss | .none | .held _ => s.foundStale false := by
  simp [State.enquiryStep, hstate, hseg, hstale] <;> rfl

/-- An ENQUIRE falls due when a staleness limit has passed since the last one, or none was sent (R68). -/
theorem State.enquiryDue_iff (s : State) (t n : Nat) : s.enquiryDue t n = true ↔
    ∀ u, Table.find s.claim.enquiries n = some u → s.params.staleness ≤ (t + 2 ^ 32 - u) % 2 ^ 32 := by
  unfold State.enquiryDue elapsed
  split <;> simp [*]

/-- An ENQUIRE merges with nothing and enters at the tail where there is room (R45, R46). -/
theorem State.send_enquire {s : State} (t : Nat) (segs : List Nat) (hroom : s.line.tx.length < 24)
    (hfew : countKind s.line.tx 6 < 3) : s.send t 255 (.enquire segs) = s.enqueue 255 (.fixed (.enquire segs)) := by
  have hmerge : s.line.tx.any (mergesWith 255 (.fixed (.enquire segs))) = false := by
    rw [List.any_eq_false]
    intro e _
    cases e.content <;> simp [mergesWith]
  rw [State.send, State.offer_of_room t hmerge (fun _ => hfew) hroom]

end Sys2Proof.Machine

namespace Sys2Proof.Proofs

open Sys2Proof.Machine Sys2Proof.Safety

/-- R66: the first candidate held or stale in the cache makes a BLOCKED wait. -/
theorem formClaim_blocks {s : State} (t : Nat) {n : Nat} {rest : List Nat} {o : Order} {d : Int} {f : Figures}
    (htrigger : s.claimTrigger = true) (hcandidates : s.candidates = n :: rest) (ho : s.activeOrder = some o)
    (hd : s.motion.authority = some d) (hf : s.motion.figures = some f) (hfree : n ∉ heldSegs s.claim.held) {x : Nat}
    (hx : lookup s.cache n = .held x ∨ lookup s.cache n = .stale x) :
    ∃ c, s.formClaim t = s.setClaim c ∧ BlockedOn s.claim n x (lookup s.cache n = .stale x) c := by
  rw [State.formClaim_of_trigger t htrigger hcandidates ho hd hf, if_neg hfree]
  obtain hlookup | hlookup := hx
  · refine ⟨_, by rw [hlookup]; exact s.enterBlocked_eq_setClaim n x, ?_⟩
    simpa [hlookup] using s.enterBlocked_blockedOn n x false
  · refine ⟨_, by rw [hlookup]; rfl, ?_⟩
    simpa [hlookup] using s.enterBlocked_blockedOn n x true

/-- R64, R67, R74: a free first candidate makes a new attempt, delivered where the queue takes its CLAIM. -/
theorem formClaim_claims {s : State} (t : Nat) {n : Nat} {rest : List Nat} {o : Order} {d : Int} {f : Figures}
    (htrigger : s.claimTrigger = true) (hcandidates : s.candidates = n :: rest) (ho : s.activeOrder = some o)
    (hd : s.motion.authority = some d) (hf : s.motion.figures = some f) (hfree : n ∉ heldSegs s.claim.held)
    (hlookup : lookup s.cache n = .miss ∨ lookup s.cache n = .none) :
    s.formClaim t = (s.attempted t (s.sizeClaim d f.hCap n rest) o.urgency).offerClaim t := by
  rw [State.formClaim_of_trigger t htrigger hcandidates ho hd hf, if_neg hfree, ← State.newAttempt_eq]
  obtain hlookup | hlookup := hlookup
  · rw [hlookup]
  · rw [hlookup]

/-- R68: the enquiries of a BLOCKED wait. -/
theorem enquiries_of_a_wait (s : State) (t n : Nat) (hstate : s.claim.record.state = .blocked)
    (hseg : s.claim.record.waitSeg = some n) (hstale : s.claim.record.lastStale = true) :
    ((∀ x, lookup s.cache n ≠ .stale x) → s.enquiryStep t = s.setRecord { s.claim.record with lastStale := false })
    ∧ (∀ x u, lookup s.cache n = .stale x → Table.find s.claim.enquiries n = some u →
        (t + 2 ^ 32 - u) % 2 ^ 32 < s.params.staleness → s.enquiryStep t = s)
    ∧ ∀ x, lookup s.cache n = .stale x →
        (∀ u, Table.find s.claim.enquiries n = some u → s.params.staleness ≤ (t + 2 ^ 32 - u) % 2 ^ 32) →
        Table.find (s.enquiryStep t).claim.enquiries n = some t
        ∧ (s.enquiryStep t).claim.record = s.claim.record
        ∧ (s.line.tx.length < 24 → countKind s.line.tx 6 < 3 →
            (s.enquiryStep t).line.tx = s.line.tx ++ [⟨255, .fixed (.enquire [n]), 0, false, false⟩]) := by
  rw [State.enquiryStep_of_blocked t hstate hseg hstale]
  refine ⟨fun hother => ?_, fun x u hlookup hlast hearly => ?_, fun x hlookup hdue => ?_⟩
  · split
    next x hlookup => exact absurd hlookup (hother x)
    all_goals rfl
  · have hnot : ¬s.enquiryDue t n = true := fun hdue => by
      have := (s.enquiryDue_iff t n).1 hdue u hlast
      omega
    simp only [hlookup, State.enquire, if_neg hnot]
  · simp only [hlookup, State.enquire, if_pos ((s.enquiryDue_iff t n).2 hdue)]
    refine ⟨by simp [Table.find_insert_self], by simp, fun hroom hfew => ?_⟩
    rw [State.send_enquire t [n] (by exact hroom) (by exact hfew)]
    rfl

/-- Settles O46: trigger and candidates condition by condition, the first candidate's lookup case by case, the size by induction
on the room, and the enquiries by the time since the last one. -/
theorem claimIsFormedAndSized : Obligations.ClaimIsFormedAndSized := by
  refine ⟨State.claimTrigger_iff, State.candidates_eq_cons, State.stopsClaim_iff, fun s t htrigger => ?_,
    fun s t n rest o d f htrigger hcandidates ho hd hf => ⟨fun hheld => ?_, fun hfree => ⟨fun x hx => ?_, fun hlookup => ?_⟩⟩,
    fun s d hCap n rest segs hheld hsegs => hsegs ▸ State.sizeClaim_spec d hCap n rest hheld,
    fun s t n hstate hseg => ⟨fun hfresh => ?_, fun hstale => enquiries_of_a_wait s t n hstate hseg hstale⟩⟩
  · simp [State.formClaim, htrigger]
  · rw [State.formClaim_of_trigger t htrigger hcandidates ho hd hf, if_pos hheld]
  · obtain ⟨c, hc, hblocked⟩ := formClaim_blocks t htrigger hcandidates ho hd hf hfree hx
    exact ⟨c, hc, hblocked.held, hblocked.counter, hblocked.state, hblocked.seg, hblocked.holder, hblocked.segs, hblocked.stale,
      hblocked.peer, hblocked.waitedSeg, hblocked.counts, hblocked.restarts⟩
  · rw [formClaim_claims t htrigger hcandidates ho hd hf hfree hlookup]
    refine ⟨_, _, rfl, rfl, ?_, ?_, ?_, fun hroom hnone => ?_, fun hfull hclasses => ?_⟩
    iterate 3
      obtain h | h := State.offerClaim_claim (s := s.attempted t (s.sizeClaim d f.hCap n rest) o.urgency) t rfl
      · rw [h]; rfl
      · rw [h]; rfl
    · rw [State.offerClaim_of_room (s := s.attempted t _ _) t hroom hnone]
      exact ⟨rfl, rfl, rfl, rfl, rfl, rfl, rfl, rfl⟩
    · exact State.offerClaim_of_full t rfl hfull hclasses
  · unfold State.enquiryStep
    split
    next hlast => rw [hfresh] at hlast; cases hlast
    · rfl

end Sys2Proof.Proofs
end

section
/-! PROOFS. The waited counter, the wait limit, the two-party cycle and the completion of a yield (R84, R105 to R109, R112,
R113). -/

-- One declaration at a time: side by side they need more threads than the check's memory holds.
set_option Elab.async false

namespace Sys2Proof.Machine

open Sys2Proof.Safety

/-! ## Service stop requests (R142) -/

theorem mem_addMember (l : List StopMember) (m x : StopMember) : x ∈ addMember l m ↔ x ∈ l ∨ x = m := by
  cases x <;> simp [addMember, StopMember.all, or_comm]

theorem State.mem_askStop (s : State) (m : StopMember) : m ∈ (s.askStop m).motion.requests :=
  (mem_addMember _ m m).2 (.inr rfl)

theorem State.mem_withdrawStop (s : State) (m x : StopMember) :
    x ∈ (s.withdrawStop m).motion.requests ↔ x ∈ s.motion.requests ∧ x ≠ m := by
  simp [State.withdrawStop]

/-! ## The wait limit (R112, R113) -/

theorem ClaimState.isWait_iff (x : ClaimState) : x.isWait = true ↔ x = .blocked ∨ x = .contested ∨ x = .holdoff := by
  cases x <;> simp [ClaimState.isWait]

/-- The notice of an expired wait (R112). -/
def State.waitExpiredNotice (s : State) (t : Nat) : Notice :=
  { Notice.plain .waitExpired t with
    tag := s.activeOrder.map Order.tag, seg := s.claim.record.waitSeg, station := s.claim.record.waitStation
    detail := some s.claim.waited }

/-- The state in which a wait has been reported as expired. -/
def State.expiredReported (s : State) (t : Nat) : State :=
  (s.setClaim { s.claim with expired := true }).raise (s.waitExpiredNotice t)

/-- A wait on a segment goes on with a wait-limit yield, a holdoff does not (R113). -/
theorem State.expireWait_of_wait {s : State} (t : Nat)
    (h : s.claim.record.state = .blocked ∨ s.claim.record.state = .contested) :
    s.expireWait t = (s.expiredReported t).beginWaitLimitYield := by
  obtain h | h := h <;> simp only [State.expireWait, h] <;> rfl

theorem State.expireWait_of_other {s : State} (t : Nat) (hb : s.claim.record.state ≠ .blocked)
    (hc : s.claim.record.state ≠ .contested) : s.expireWait t = s.expiredReported t := by
  cases h : s.claim.record.state <;> simp_all only [State.expireWait, ne_eq, not_true] <;> rfl

theorem State.expireWait_expired (s : State) (t : Nat) :
    (s.expireWait t).claim.expired = true
      ∧ (s.expireWait t).notice = (s.notice.raise (s.waitExpiredNotice t)) := by
  by_cases h : s.claim.record.state = .blocked ∨ s.claim.record.state = .contested
  · rw [State.expireWait_of_wait t h]
    exact ⟨rfl, rfl⟩
  · obtain ⟨hb, hc⟩ := not_or.1 h
    rw [State.expireWait_of_other t hb hc]
    exact ⟨rfl, rfl⟩

/-! ## Two-party cycles (R105 to R107) -/

theorem State.cycle_iff (s : State) (x : Nat) (r : PeerReport) : s.cycle = some (x, r) ↔
    s.control.state = .running ∧ s.claim.record.state = .blocked ∧ s.claim.record.holder = some x
      ∧ s.claim.peerWait = some r ∧ r.waitingFor ≠ 0 ∧ r.waitingFor ∈ heldSegs s.claim.held := by
  unfold State.cycle
  split
  next y q hstate hblocked hholder hpeer =>
    simp only [hholder, hpeer, List.contains_iff_mem]
    split
    next hcycle =>
      simp only [hstate, hblocked, Option.some.injEq, Prod.mk.injEq, true_and]
      constructor
      · rintro ⟨rfl, rfl⟩; exact ⟨rfl, rfl, hcycle⟩
      · rintro ⟨rfl, rfl, -⟩; exact ⟨rfl, rfl⟩
    next hno =>
      simp only [hstate, hblocked, Option.some.injEq, true_and, reduceCtorEq, false_iff]
      rintro ⟨-, rfl, hcycle⟩
      exact hno hcycle
  next hother =>
    simp only [reduceCtorEq, false_iff]
    rintro ⟨hstate, hblocked, hholder, hpeer, -⟩
    exact hother x r hstate hblocked hholder hpeer

theorem yields_iff (own number x theirs : Nat) : yields own number x theirs = true ↔
    own < theirs ∨ (own = theirs ∧ x < number) := by
  simp [yields]

/-- The Claim Engine at the beginning of a yield (R107). -/
def ClaimEngine.yielding (c : ClaimEngine) (x w : Nat) : ClaimEngine :=
  { c with
    record := { c.record with
      state := .holdoff, holder := none, holdoff := some ⟨.stopping, x, w, none⟩, lastStale := false }
    peerWait := none, waitLimitYield := false }

theorem State.beginYield_spec (s : State) (x w : Nat) :
    (s.beginYield x w).claim = s.claim.yielding x w ∧ StopMember.yield ∈ (s.beginYield x w).motion.requests
      ∧ (s.claim.waitLimitYield = true → StopMember.waitLimit ∉ (s.beginYield x w).motion.requests)
      ∧ (s.beginYield x w).orders = s.orders ∧ (s.beginYield x w).notice = s.notice
      ∧ (s.beginYield x w).line = s.line ∧ (s.beginYield x w).control = s.control := by
  simp only [State.beginYield]
  split
  next hmerged =>
    refine ⟨rfl, ?_, fun _ => ?_, rfl, rfl, rfl, rfl⟩
    · exact (State.mem_withdrawStop _ _ _).2 ⟨State.mem_askStop _ _, by decide⟩
    · exact fun hin => ((State.mem_withdrawStop _ _ _).1 hin).2 rfl
  next hnone => exact ⟨rfl, State.mem_askStop _ _, fun h => absurd h hnone, rfl, rfl, rfl, rfl⟩

/-! ## The completed yield (R108) -/

theorem ClaimEngine.stillWaits_iff (c : ClaimEngine) (x seg : Nat) : c.stillWaits x seg = true ↔
    (Table.find c.reports x).map PeerReport.waitingFor = some seg := by
  simp [ClaimEngine.stillWaits]

theorem State.yieldStopped_of_stopping {s : State} (t : Nat) {h : Holdoff} (hholdoff : s.claim.record.holdoff = some h)
    (hphase : h.phase = .stopping) :
    s.yieldStopped t
      = if (Table.find s.claim.reports h.partner).map PeerReport.waitingFor = some h.partnerSeg then
          if h.partnerSeg ∈ heldSegs s.claim.held then
            match s.activeOrder with
            | none => s.toIdle
            | some o =>
                ((s.suspend o.tag .yield).raise
                  { Notice.plain .yieldNeeded t with
                    tag := some o.tag, seg := some h.partnerSeg, station := some h.partner
                    detail := s.claim.record.waitSeg }).toIdle
          else s.setRecord
            { s.claim.record with holdoff := some { h with phase := .waiting, timer := some s.params.staleness } }
        else s.toIdle := by
  have hwaits := s.claim.stillWaits_iff h.partner h.partnerSeg
  by_cases hw : (Table.find s.claim.reports h.partner).map PeerReport.waitingFor = some h.partnerSeg
  · by_cases hheld : h.partnerSeg ∈ heldSegs s.claim.held
    · simp [State.yieldStopped, hholdoff, hphase, hw, hheld, hwaits.2 hw] <;> rfl
    · simp [State.yieldStopped, hholdoff, hphase, hw, hheld, hwaits.2 hw]
  · have hstill : s.claim.stillWaits h.partner h.partnerSeg = false := by
      rw [← Bool.not_eq_true, hwaits]; exact hw
    simp [State.yieldStopped, hholdoff, hphase, hw, hstill]

end Sys2Proof.Machine

namespace Sys2Proof.Proofs

open Sys2Proof.Machine Sys2Proof.Safety

/-- R112, R113: what the expiry of a wait does, reports included. -/
theorem wait_expires (s : State) (t : Nat) (hwait : s.claim.record.state.isWait = true) (hclear : s.claim.expired = false)
    (hpassed : 100 * s.params.waitLimit < s.claim.waited) :
    s.waitLimitStep t = s.expireWait t ∧ (s.expireWait t).claim.expired = true
      ∧ (s.claim.record.state = .blocked ∨ s.claim.record.state = .contested →
          (s.expireWait t).claim.waitLimitYield = true ∧ StopMember.waitLimit ∈ (s.expireWait t).motion.requests)
      ∧ (s.claim.record.state = .holdoff → (s.expireWait t).motion = s.motion)
      ∧ (RoomFor s.notice .waitExpired 1 →
          (s.expireWait t).notice.queue = s.notice.queue ++ [s.waitExpiredNotice t]) := by
  obtain ⟨hexpired, hnotice⟩ := s.expireWait_expired t
  refine ⟨?_, hexpired, fun h => ?_, fun h => ?_, fun hroom => ?_⟩
  · simp [State.waitLimitStep, State.waitLimitPassed, hwait, hclear, hpassed]
  · rw [State.expireWait_of_wait t h]
    exact ⟨rfl, State.mem_askStop _ _⟩
  · rw [State.expireWait_of_other t (by simp [h]) (by simp [h])]
    rfl
  · rw [hnotice]
    exact NoticeUnit.raise_queue hroom

/-- R108, R109: the completion of a yield, by the phase, the partner's last report and the held list. -/
theorem yield_completes (s : State) (t : Nat) (h : Holdoff) (hholdoff : s.claim.record.holdoff = some h)
    (hphase : h.phase = .stopping) :
    ((Table.find s.claim.reports h.partner).map PeerReport.waitingFor ≠ some h.partnerSeg →
      (s.yieldStopped t).claim.record.state = .idle ∧ (s.yieldStopped t).orders = s.orders
      ∧ (s.yieldStopped t).notice = s.notice)
    ∧ ((Table.find s.claim.reports h.partner).map PeerReport.waitingFor = some h.partnerSeg →
      (h.partnerSeg ∉ heldSegs s.claim.held →
        s.yieldStopped t = s.setRecord
          { s.claim.record with holdoff := some { h with phase := .waiting, timer := some s.params.staleness } })
      ∧ (h.partnerSeg ∈ heldSegs s.claim.held → ∀ o, s.activeOrder = some o →
        (s.yieldStopped t).claim.record.state = .idle ∧ (s.yieldStopped t).claim.held = s.claim.held
        ∧ (s.yieldStopped t).claim.waited = s.claim.waited
        ∧ (s.yieldStopped t).orders.list
          = s.orders.list.map (fun x => if x.tag = o.tag then { x with state := .suspended, reason := some .yield } else x)
        ∧ (RoomFor s.notice .yieldNeeded 1 →
            (s.yieldStopped t).notice.queue
              = s.notice.queue
                ++ [{ Notice.plain .yieldNeeded t with
                      tag := some o.tag, seg := some h.partnerSeg, station := some h.partner
                      detail := s.claim.record.waitSeg }]))) := by
  rw [State.yieldStopped_of_stopping t hholdoff hphase]
  refine ⟨fun hother => ?_, fun hwaits => ⟨fun hfree => ?_, fun hheld o ho => ?_⟩⟩
  · rw [if_neg hother]
    simp [State.toIdle_idle, ClaimEngine.idle, ClaimRecord.toIdle]
  · rw [if_pos hwaits, if_neg hfree]
  · rw [if_pos hwaits, if_pos hheld]
    simp only [ho, State.toIdle_idle]
    refine ⟨rfl, by simp [ClaimEngine.idle], by simp [ClaimEngine.idle], ?_, fun hroom => ?_⟩
    · simp [State.suspend, State.setOrder]
    · have hkept : (s.suspend o.tag .yield).notice = s.notice := by simp
      simp only [State.toIdle_frame]
      rw [State.raise_queue (by rw [hkept]; exact hroom), hkept]

/-- Settles O47: each operation by its own cases; a completed service stop is the model's own sequence of parts. -/
theorem waitsCountExpireAndYield : Obligations.WaitsCountExpireAndYield := by
  refine ⟨fun s => ⟨fun hwait => ?_, fun hb hc hh => ?_⟩,
    fun s t => ⟨fun hwait hclear hpassed => wait_expires s t hwait hclear hpassed, fun hnot => ?_⟩,
    State.cycle_iff, fun s hnone => ?_, fun s x r o hcycle ho => ⟨fun hstays => ?_, fun hyields => ?_⟩, fun s t => ?_,
    fun s t h hholdoff => ⟨fun hphase => ?_, fun hphase => yield_completes s t h hholdoff hphase⟩⟩
  · rw [State.waitedStep, if_pos ((ClaimState.isWait_iff _).2 hwait)]
    rfl
  · rw [State.waitedStep, if_neg]
    rw [ClaimState.isWait_iff]
    exact fun h => h.elim hb (fun h => h.elim hc hh)
  · rw [State.waitLimitStep, if_neg]
    simp only [State.waitLimitPassed, Bool.and_eq_true, Bool.not_eq_true', decide_eq_true_eq]
    rintro ⟨⟨hwait, hclear⟩, hpassed⟩
    obtain h | h | h := hnot
    · rw [hwait] at h; cases h
    · rw [hclear] at h; cases h
    · omega
  · simp [State.cycleStep, hnone]
  · have hno : yields o.urgency s.control.number x r.urgency = false := by
      rw [← Bool.not_eq_true, yields_iff]
      omega
    simp [State.cycleStep, hcycle, ho, hno]
  · have hyes := (yields_iff o.urgency s.control.number x r.urgency).2 hyields
    simp only [State.cycleStep, hcycle, ho, hyes, if_true]
    exact s.beginYield_spec x r.waitingFor
  · refine ⟨_, _, _, _, rfl, rfl, rfl, rfl, ?_⟩
    simp only [State.serviceComplete, State.newAuthority, List.contains_iff_mem]
  · simp [State.yieldStopped, hholdoff, hphase]

end Sys2Proof.Proofs
end

section
/-! PROOFS. The activation of the head order: when it is judged, its revalidation and what activation does (R84, R124, R156 to
R159). -/

-- One declaration at a time: side by side they need more threads than the check's memory holds.
set_option Elab.async false

namespace Sys2Proof.Machine

open Sys2Proof.Safety

/-! ## When the head is judged (R156) -/

theorem State.readyToActivate_iff (s : State) : s.readyToActivate = true ↔
    s.control.state = .running ∧ (∀ o ∈ s.orders.list, o.state ≠ .active ∧ o.state ≠ .finishing)
      ∧ s.lift.state ≠ .raising ∧ s.lift.state ≠ .lowering ∧ s.motion.commanded = 0 ∧ s.motion.measured = 0
      ∧ s.motion.requests = [] := by
  have hlift : s.lift.state.moving = false ↔ s.lift.state ≠ .raising ∧ s.lift.state ≠ .lowering := by
    cases s.lift.state <;> simp [LiftState.moving]
  have horders : s.currentOrder = none ↔ ∀ o ∈ s.orders.list, o.state ≠ .active ∧ o.state ≠ .finishing := by
    simp [State.currentOrder]
  simp only [State.readyToActivate, Motion.standing, Bool.and_eq_true, beq_iff_eq, Option.isNone_iff_eq_none,
    Bool.not_eq_true', List.isEmpty_iff, hlift, horders, and_assoc]

theorem Order.eligible_iff (o : Order) : o.eligible = true ↔
    o.state = .queued ∨ (o.state = .suspended ∧ (o.reason = some .front ∨ o.reason = some .halt)) := by
  unfold Order.eligible
  split <;> simp [*]

/-! ## Revalidation (R157) -/

theorem beforeSeg_append {a b : List Nat} {n : Nat} (h : n ∉ a) : beforeSeg (a ++ n :: b) n = a := by
  induction a with
  | nil => simp [beforeSeg]
  | cons x a ih =>
    obtain ⟨hx, ha⟩ := not_or.1 (List.mem_cons.not.1 h)
    have hne : (x != n) = true := by simpa using Ne.symm hx
    simpa [beforeSeg, List.takeWhile_cons, hne] using ih ha

theorem dropWhile_append_of_not_mem {a b : List Nat} {n : Nat} (h : n ∉ a) :
    (a ++ n :: b).dropWhile (fun x => x != n) = n :: b := by
  induction a with
  | nil => simp
  | cons x a ih =>
    obtain ⟨hx, ha⟩ := not_or.1 (List.mem_cons.not.1 h)
    have hne : (x != n) = true := by simpa using Ne.symm hx
    simpa [List.dropWhile_cons, hne] using ih ha

theorem firstOutOfPlace_of_prefix {l path : List Nat} (h : l <+: path) : firstOutOfPlace l path = none := by
  induction l generalizing path with
  | nil => rfl
  | cons n l ih =>
    obtain ⟨more, rfl⟩ := h
    simpa [firstOutOfPlace] using ih (List.prefix_append l more)

/-- The first segment that is not the path segment in its place is found. -/
theorem firstOutOfPlace_of_mismatch {l path : List Nat} {i m : Nat} (hm : l[i]? = some m) (hpath : path[i]? ≠ some m)
    (hbefore : l.take i <+: path) : firstOutOfPlace l path = some m := by
  induction i generalizing l path with
  | zero =>
    cases l with
    | nil => simp at hm
    | cons n l =>
      obtain rfl : n = m := by simpa using hm
      cases path with
      | nil => rfl
      | cons k path =>
        have hne : n ≠ k := fun h => hpath (by simp [h])
        simp [firstOutOfPlace, hne]
  | succ i ih =>
    cases l with
    | nil => simp at hm
    | cons n l =>
      cases path with
      | nil => simp at hbefore
      | cons k path =>
        obtain ⟨rfl, hrest⟩ := List.cons_prefix_cons.1 hbefore
        simpa [firstOutOfPlace] using ih (by simpa using hm) (by simpa using hpath) hrest

theorem Direction.entering_ne_leaving (d : Direction) : d.entering ≠ d.leaving := by
  cases d <;> simp [Direction.entering, Direction.leaving]

/-- The held segments beyond the centre on the side of the next path segment. -/
theorem heldBeyond_toward (map : Table Segment) (c : Centre) (n : Nat) {held behind ahead : List Nat}
    (hheld : held = behind ++ c.seg :: ahead) (hbehind : c.seg ∉ behind) :
    heldBeyond held c (endToward map c n) = if HasLink map c.seg c.dir.leaving n then ahead else behind.reverse := by
  have hin : c.seg ∈ held := by simp [hheld]
  have hafter : afterSeg held c.seg = ahead := hheld ▸ afterSeg_append hbehind
  have hbefore : beforeSeg held c.seg = behind := hheld ▸ beforeSeg_append hbehind
  by_cases hlink : HasLink map c.seg c.dir.leaving n
  · simp [heldBeyond, endToward, hin, linkTo_isSome_iff.2 hlink, hlink, hafter]
  · have hnone : (linkTo map c.seg c.dir.leaving n).isSome = false := by
      rw [← Bool.not_eq_true, linkTo_isSome_iff]; exact hlink
    simp [heldBeyond, endToward, hin, hnone, hlink, hbefore, c.dir.entering_ne_leaving]

theorem State.heldRunCheck_of_next (s : State) (c : Centre) (n : Nat) (rest : List Nat) {behind ahead beyond : List Nat}
    (hheld : heldSegs s.claim.held = behind ++ c.seg :: ahead) (hbehind : c.seg ∉ behind)
    (hbeyond : beyond = if HasLink s.pos.map c.seg c.dir.leaving n then ahead else behind.reverse) :
    (beyond <+: n :: rest → s.heldRunCheck c (c.seg :: n :: rest) = .passed (c.seg :: n :: rest))
      ∧ ∀ i m, beyond[i]? = some m → (n :: rest)[i]? ≠ some m → beyond.take i <+: n :: rest →
          s.heldRunCheck c (c.seg :: n :: rest) = .failed .bodyOffPath m := by
  have hside := (heldBeyond_toward s.pos.map c n hheld hbehind).trans hbeyond.symm
  simp only [State.heldRunCheck, List.drop_succ_cons, List.drop_zero, List.head?_cons, hside]
  refine ⟨fun hprefix => ?_, fun i m hm hpath hbefore => ?_⟩
  · rw [firstOutOfPlace_of_prefix hprefix]
  · rw [firstOutOfPlace_of_mismatch hm hpath hbefore]

/-- A path that reaches the centre segment is checked from there on. -/
theorem State.revalidate_of_mem (s : State) {c : Centre} {o : Order} {before after : List Nat}
    (hpath : o.path = before ++ c.seg :: after) (hbefore : c.seg ∉ before)
    (hstate : (o.state = .queued ∧ before = []) ∨ o.state = .suspended) :
    s.revalidate c o = s.heldRunCheck c (c.seg :: after) := by
  obtain ⟨hqueued, rfl⟩ | hsuspended := hstate
  · simp [State.revalidate, hqueued, hpath]
  · simp [State.revalidate, hsuspended, hpath, dropWhile_append_of_not_mem hbefore]

/-! ## What activation does (R84, R158, R159) -/

theorem effectiveAt_down {u : LiftUnit} (h : u.state = .down) (x : LoadClass) : effectiveAt u x = x := by
  simp [effectiveAt, LiftUnit.activationClass, h]

theorem effectiveAt_up {u : LiftUnit} (h : u.state = .up ∨ u.state = .jammed) (x : LoadClass) :
    effectiveAt u x = if loadCode x < loadCode (u.measured.getD .heavy) then u.measured.getD .heavy else x := by
  have hclass : u.activationClass = some (u.measured.getD .heavy) := by
    obtain h | h := h <;> simp [LiftUnit.activationClass, h]
  simp only [effectiveAt, hclass, heavier]
  cases x <;> cases u.measured.getD .heavy <;> rfl

/-- The block of the orders, the cache and the Claim Engine that an activation leaves. -/
theorem State.activate_blocks (s : State) (t : Nat) (o : Order) (path : List Nat) :
    (s.activate t o path).orders
        = { s.orders with
            list := (s.setOrder o.tag (fun x => { x with
              state := .active, reason := none, path := path, activations := satAdd 255 x.activations 1 })).orders.list
            effective := effectiveAt s.lift o.loadClass }
      ∧ (s.activate t o path).cache = s.cache.pinPath o.tag path
      ∧ (s.activate t o path).claim = s.claim.followTag o.tag
      ∧ (s.activate t o path).notice = s.notice.raise
          { Notice.plain .orderActive t with tag := some o.tag, seg := s.centreSeg, detail := some path.length } := by
  refine ⟨?_, ?_, ?_, ?_⟩
  · simp [State.activate, State.setEffective, State.setOrder]
  · simp [State.activate, State.setEffective]
  · simp [State.activate, State.setEffective]
  · simp only [State.activate, State.raise, State.setNotice_notice, State.runChanged_frame]
    simp [State.setEffective]

theorem ClaimEngine.followTag_spec (c : ClaimEngine) (tag : Nat) :
    (c.followTag tag).held = c.held ∧ (c.followTag tag).record = c.record ∧ (c.followTag tag).waitedTag = some tag
      ∧ (c.waitedTag = some tag → c.followTag tag = c)
      ∧ (c.waitedTag ≠ some tag → (c.followTag tag).waited = 0 ∧ (c.followTag tag).waitedSeg = none
          ∧ (c.followTag tag).expired = false) := by
  unfold ClaimEngine.followTag
  split
  next h =>
    have hsame : c.waitedTag = some tag := beq_iff_eq.1 h
    exact ⟨rfl, rfl, hsame, fun _ => rfl, fun hne => absurd hsame hne⟩
  next h =>
    exact ⟨rfl, rfl, rfl, fun hsame => absurd (beq_iff_eq.2 hsame) h, fun _ => ⟨rfl, rfl, rfl⟩⟩

/-! ## The judgement (R156) -/

theorem State.orderFailed_added (s : State) (t : Nat) (o : Order) (why : FailReason) (seg : Option Nat) :
    NoticesAdded 1 s (s.orderFailed t o why seg) :=
  (State.raise_added (s.removeOrder o.tag) _ (by simp [Notice.plain])).after_same (by simp)

theorem State.judgeActivation_added (t fuel : Nat) (s : State) : NoticesAdded fuel s (s.judgeActivation t fuel) := by
  induction fuel generalizing s with
  | zero => exact .of_same 0 rfl
  | succ fuel ih =>
    unfold State.judgeActivation
    split
    next o c _ _ =>
      split
      · split
        next path _ =>
          exact ((State.raise_added s { Notice.plain .orderActive t with
            tag := some o.tag, seg := s.centreSeg, detail := some path.length } (by simp [Notice.plain])).then_same
              (by rw [(s.activate_blocks t o path).2.2.2]; rfl)).mono (by omega)
        next why seg _ =>
          exact ((s.orderFailed_added t o why (some seg)).trans (ih _)).mono (by omega)
      · exact .of_same _ rfl
    · exact .of_same _ rfl

/-- With more fuel than orders the judgement does not end for want of fuel. -/
theorem State.judgeActivation_fuel (t fuel : Nat) (s : State) (h : s.orders.list.length < fuel) :
    s.judgeActivation t (fuel + 1) = s.judgeActivation t fuel := by
  induction fuel generalizing s with
  | zero => omega
  | succ fuel ih =>
    rw [State.judgeActivation, State.judgeActivation]
    split
    next o c ho _ =>
      split
      · split
        · rfl
        next why seg _ =>
          refine ih _ ?_
          obtain ⟨rest, hl⟩ := List.head?_eq_some_iff.1 ho
          have hshorter := List.length_filter_le (fun x : Order => x.tag != o.tag) rest
          rw [State.orderFailed_list, hl, List.filter_cons_of_neg (by simp)]
          rw [hl, List.length_cons] at h
          omega
      · rfl
    · rfl

theorem State.activationStep_of_ready {s : State} (t : Nat) (h : s.readyToActivate = true) :
    s.activationStep t = s.judgeActivation t 9 := by
  rw [State.activationStep, if_pos h]

/-- An order that fails leaves the queue, and nothing else that the activation looks at changes. -/
theorem State.orderFailed_kept (s : State) (t : Nat) (o : Order) (why : FailReason) (seg : Option Nat) :
    (s.orderFailed t o why seg).control = s.control ∧ (s.orderFailed t o why seg).claim.held = s.claim.held
      ∧ (s.orderFailed t o why seg).motion = s.motion ∧ (s.orderFailed t o why seg).lift = s.lift
      ∧ (s.orderFailed t o why seg).pos.centre = s.pos.centre := by
  simp

end Sys2Proof.Machine

namespace Sys2Proof.Proofs

open Sys2Proof.Machine Sys2Proof.Safety

/-- R156: where nothing is ready, queued or eligible the step leaves the state as it is. -/
theorem activation_waits (s : State) (t : Nat)
    (h : s.readyToActivate = false ∨ s.orders.list = []
      ∨ ∃ o rest, s.orders.list = o :: rest ∧ o.eligible = false) : s.activationStep t = s := by
  have hjudged : s.orders.list = [] ∨ (∃ o rest, s.orders.list = o :: rest ∧ o.eligible = false) →
      s.judgeActivation t 9 = s := by
    rintro (hnil | ⟨o, rest, hl, hnot⟩)
    · simp [State.judgeActivation, hnil]
    · unfold State.judgeActivation
      split
      next x c hx _ =>
        obtain rfl : o = x := by simpa [hl] using hx
        rw [if_neg (by simp [hnot])]
      · rfl
  unfold State.activationStep
  split
  next hready =>
    obtain h | h := h
    · rw [hready] at h; cases h
    · exact hjudged h
  · rfl

/-- R84, R124, R158, R159: the head that passes becomes ACTIVE. -/
theorem head_passes {s : State} (t : Nat) {c : Centre} {o : Order} {rest : List Order}
    (hready : s.readyToActivate = true) (hq : OrderQueueSound s.orders) (hc : s.pos.centre = some c)
    (hl : s.orders.list = o :: rest) (helig : o.eligible = true) {path : List Nat}
    (hpassed : s.revalidate c o = .passed path) :
    s.activationStep t = s.activate t o path
      ∧ (s.activate t o path).orders.list
        = { o with state := .active, reason := none, path := path, activations := min 255 (o.activations + 1) } :: rest := by
  refine ⟨?_, ?_⟩
  · rw [State.activationStep_of_ready t hready]
    simp [State.judgeActivation, hl, hc, helig, hpassed]
  · rw [(s.activate_blocks t o path).1]
    exact State.setOrder_head hq hl _

/-- R157, R165: the head that fails leaves the queue as FAILED, and the judgement goes on with the next one. -/
theorem head_fails {s : State} (t : Nat) {c : Centre} {o : Order} {rest : List Order}
    (hready : s.readyToActivate = true) (hq : OrderQueueSound s.orders) (hc : s.pos.centre = some c)
    (hl : s.orders.list = o :: rest) (helig : o.eligible = true) {why : FailReason} {seg : Nat}
    (hfailed : s.revalidate c o = .failed why seg) :
    (s.orderFailed t o why (some seg)).orders.list = rest
      ∧ s.activationStep t = (s.orderFailed t o why (some seg)).judgeActivation t 8
      ∧ (s.orderFailed t o why (some seg)).judgeActivation t 8 = (s.orderFailed t o why (some seg)).activationStep t := by
  obtain ⟨hlength, htags, -⟩ := hq
  rw [hl, List.map_cons, List.nodup_cons] at htags
  rw [hl, List.length_cons] at hlength
  have hlist : (s.orderFailed t o why (some seg)).orders.list = rest := by
    rw [State.orderFailed_list, hl, List.filter_cons_of_neg (by simp)]
    exact List.filter_eq_self.2 (fun x hx => bne_iff_ne.2 (fun heq : x.tag = o.tag =>
      htags.1 (heq ▸ List.mem_map_of_mem hx)))
  obtain ⟨hcontrol, -, hmotion, hlift, -⟩ := s.orderFailed_kept t o why (some seg)
  have hstill : (s.orderFailed t o why (some seg)).readyToActivate = true := by
    rw [State.readyToActivate_iff] at hready ⊢
    obtain ⟨hstate, horders, hrest⟩ := hready
    rw [hcontrol, hmotion, hlift, hlist]
    exact ⟨hstate, fun x hx => horders x (by simp [hl, hx]), hrest⟩
  refine ⟨hlist, ?_, ?_⟩
  · rw [State.activationStep_of_ready t hready]
    rw [State.judgeActivation]
    simp [hl, hc, helig, hfailed]
  · rw [State.activationStep_of_ready t hstill, State.judgeActivation_fuel t 8 _ (by rw [hlist]; omega)]

/-- Settles O45: the judgement ends before its fuel, since every failing head leaves the queue of eight at most. -/
theorem headOrderIsActivated : Obligations.HeadOrderIsActivated := by
  refine ⟨State.readyToActivate_iff, Order.eligible_iff, activation_waits, fun s c o => ⟨fun hqueued hoff => ?_,
    fun hsuspended hoff => ?_, fun before after hpath hbefore hstate => ⟨fun hlast => ?_,
      fun n rest behind ahead beyond hafter hheld hbehind hbeyond => ?_⟩⟩,
    fun s t c o rest hready hq hc hl helig => ⟨fun path hpassed => ?_, fun why seg hfailed => ?_⟩, fun _ _ _ => rfl⟩
  · simp [State.revalidate, hqueued, hoff]
  · simp [State.revalidate, hsuspended, hoff]
  · rw [State.revalidate_of_mem s hpath hbefore hstate, hlast]
    rfl
  · rw [State.revalidate_of_mem s hpath hbefore hstate, hafter]
    exact s.heldRunCheck_of_next c n rest hheld hbehind hbeyond
  · obtain ⟨hstep, hlist⟩ := head_passes t hready hq hc hl helig hpassed
    obtain ⟨horders, hcache, hclaim, hnotice⟩ := s.activate_blocks t o path
    obtain ⟨hheld, hrecord, htag, hsame, hother⟩ := s.claim.followTag_spec o.tag
    rw [hstep, hcache, hclaim, hnotice]
    refine ⟨hlist, by rw [horders], rfl, hheld, hrecord, htag, hsame, hother, fun hdown => ?_, fun hup m hm => ?_,
      fun hroom => ?_, by simp, by simp⟩
    · rw [horders]; exact effectiveAt_down hdown _
    · rw [horders, hm]; exact effectiveAt_up hup _
    · rw [NoticeUnit.raise_queue hroom]
      simp [State.centreSeg, hc]
  · obtain ⟨hlist, hstep, hrest⟩ := head_fails t hready hq hc hl helig hfailed
    obtain ⟨hcontrol, hheld, hmotion, -, hcentre⟩ := s.orderFailed_kept t o why (some seg)
    refine ⟨fun x hx => ?_, fun hroom => ?_, _, rfl, hlist, hcontrol, hheld, hmotion, hcentre, hstep.trans hrest⟩
    · rw [hstep] at hx
      obtain ⟨p, hp, htag, -⟩ := ((Narrows.refl _).judgeActivation t 8).paths x hx
      rw [State.orderFailed_list] at hp
      rw [htag]
      simpa using (List.mem_filter.1 hp).2
    · rw [hstep]
      refine (State.judgeActivation_added t 8 _).mem ?_
      have hraised := State.raise_mem (s := s.removeOrder o.tag)
        (n := { Notice.plain .orderFailed t with tag := some o.tag, seg := some seg, detail := some why.code })
        (by simpa [Notice.plain] using hroom)
      cases why <;> exact hraised

end Sys2Proof.Proofs
end

section
/-! PROOFS. The figures of a step: the integer square root, the authority distance, the lowest of the terms of the target
(R60, R134 to R139). -/

-- One declaration at a time: side by side they need more threads than the check's memory holds.
set_option Elab.async false

namespace Sys2Proof.Machine

open Sys2Proof.Safety

/-! ## The integer square root -/

/-- Every bit settled keeps the root so far at most the root and the root within what the remaining bits can add. -/
theorem isqrtFrom_bounds (x n r : Nat) (hlow : r * r ≤ x) (hhigh : x < (r + 2 ^ n) * (r + 2 ^ n)) :
    isqrtFrom x n r * isqrtFrom x n r ≤ x ∧ x < (isqrtFrom x n r + 1) * (isqrtFrom x n r + 1) := by
  induction n generalizing r with
  | zero => exact ⟨hlow, by simpa [isqrtFrom] using hhigh⟩
  | succ n ih =>
    rw [isqrtFrom]
    split
    next hset =>
      refine ih _ hset ?_
      rwa [show r + 2 ^ n + 2 ^ n = r + 2 ^ (n + 1) by omega]
    next hclear => exact ih r hlow (Nat.lt_of_not_le hclear)

/-- Sixteen bits suffice for the root of a number below 2^32. -/
theorem isqrt_bounds {x : Nat} (hx : x < 2 ^ 32) : isqrt x * isqrt x ≤ x ∧ x < (isqrt x + 1) * (isqrt x + 1) :=
  isqrtFrom_bounds x 16 0 (by omega) (by simpa using hx)

theorem toNat_max_zero (x : Int) : (max 0 x).toNat = x.toNat := by omega

/-! ## Distances (R60, R133, R134) -/

theorem brakingDist_eq {a : Nat} (v : Nat) (ha : 0 < a) : brakingDist a v = (v * v + (2 * a - 1)) / (2 * a) := by
  rw [brakingDist, ceilDiv, Nat.add_sub_assoc (by omega)]

theorem State.authorityDistance_of_none {s : State} (h : s.claim.held = []) : s.authorityDistance = none := by
  simp [State.authorityDistance, authorityUm, State.frontMost, heldSegs, h]

theorem State.authorityDistance_of_some {s : State} {n : Nat} {p : Placed}
    (hlast : (heldSegs s.claim.held).getLast? = some n) (hplace : s.layout.find? (fun q => q.seg == n) = some p) :
    s.authorityDistance = some ((p.hi - 1000 * (s.params.standOff : Int) - s.half) / 1000) := by
  simp [State.authorityDistance, authorityUm, State.frontMost, hlast, hplace]

/-! ## v_end (R138) -/

theorem State.endSpeedNow_eq_some {s : State} {a w : Nat} :
    s.endSpeedNow a = some w ↔ s.control.state = .running ∧ s.wantsReversal = false
      ∧ ∃ o e, s.activeOrder = some o ∧ s.endDistance o = some e ∧ endSpeed a e = w := by
  unfold State.endSpeedNow State.endJudged
  cases ho : s.activeOrder with
  | none => simp
  | some o => simp [State.endNow_of_order ho, and_assoc]

theorem State.endSpeedNow_of_not_judged {s : State} (a : Nat)
    (h : s.control.state ≠ .running ∨ s.wantsReversal = true) : s.endSpeedNow a = none := by
  obtain h | h := h <;> simp [State.endSpeedNow, State.endJudged, h]

theorem State.endSpeedNow_of_no_end {s : State} (a : Nat) (h : s.endNow = none) : s.endSpeedNow a = none := by
  simp [State.endSpeedNow, h]

theorem State.endNow_of_no_end {s : State} (h : s.activeOrder = none
    ∨ ∃ o, s.activeOrder = some o ∧ ∀ p ∈ s.layout, o.path.getLast? ≠ some p.seg) : s.endNow = none := by
  obtain h | ⟨o, ho, hoff⟩ := h
  · exact State.endNow_of_no_order h
  · rw [State.endNow_of_order ho]
    exact State.endDistance_eq_none.2 hoff

/-! ## The target (R139) -/

theorem lowestTerm_le (top : Nat × TargetTerm) (l : List (Nat × TargetTerm)) :
    (lowestTerm top l).1 ≤ top.1 ∧ ∀ x ∈ l, (lowestTerm top l).1 ≤ x.1 := by
  induction l generalizing top with
  | nil => simp [lowestTerm]
  | cons y l ih =>
    obtain ⟨htop, hl⟩ := ih (if y.1 < top.1 then y else top)
    have hstep : lowestTerm top (y :: l) = lowestTerm (if y.1 < top.1 then y else top) l := rfl
    have hboth : (if y.1 < top.1 then y else top).1 ≤ top.1 ∧ (if y.1 < top.1 then y else top).1 ≤ y.1 := by
      split <;> omega
    rw [hstep, List.forall_mem_cons]
    exact ⟨htop.trans hboth.1, htop.trans hboth.2, hl⟩

theorem lowestTerm_mem (top : Nat × TargetTerm) (l : List (Nat × TargetTerm)) : lowestTerm top l ∈ top :: l := by
  induction l generalizing top with
  | nil => simp [lowestTerm]
  | cons y l ih =>
    have hstep : lowestTerm top (y :: l) = lowestTerm (if y.1 < top.1 then y else top) l := rfl
    rw [hstep]
    split
    · exact List.mem_cons_of_mem _ (ih y)
    · exact List.cons_subset_cons top (List.subset_cons_self y l) (ih top)

theorem State.mem_slowerSpeeds {s : State} {v a r x : Nat} :
    x ∈ s.slowerSpeeds v a r ↔ ∃ p ∈ s.layout, p.seg ∈ heldSegs s.claim.held ∧ s.half ≤ p.lo
      ∧ capOf s.pos.map p.seg < v
      ∧ x = isqrt (capOf s.pos.map p.seg * capOf s.pos.map p.seg + 2 * a * (max 0 ((p.lo - s.half) / 1000 - r)).toNat) := by
  simp only [State.slowerSpeeds, slowerSpeed, toNat_max_zero, List.mem_map, List.mem_filter, Bool.and_eq_true,
    decide_eq_true_eq, List.contains_iff_mem, and_assoc, @eq_comm _ x]

/-- The values the target is the lowest of. -/
theorem State.mem_targetTerms {s : State} {v a r w x : Nat} :
    x ∈ (s.targetTerms v a r w).map Prod.fst ↔
      x = s.params.maxSpeed ∨ (∃ o, s.activeOrder = some o ∧ x = o.cap)
        ∨ (∃ n ∈ underBody s.layout s.half, x = capOf s.pos.map n) ∨ x = w ∨ x ∈ s.slowerSpeeds v a r
        ∨ s.endSpeedNow a = some x := by
  simp only [State.targetTerms, State.bodyCaps, List.map_append, List.mem_append, List.map_map, List.mem_map,
    Option.mem_toList, List.mem_singleton, List.map_cons, List.map_nil, Function.comp_def, exists_eq_right,
    @eq_comm _ x]

/-- The target is one of the terms that apply, and the lowest. -/
theorem State.target_spec (s : State) (d : Option Int) :
    (s.stepFigures d).target
        ∈ (s.targetTerms (s.stepFigures d).v (serviceRate s.orders.effective) (s.stepFigures d).r
            (s.stepFigures d).vAuth).map Prod.fst
      ∧ ∀ x ∈ (s.targetTerms (s.stepFigures d).v (serviceRate s.orders.effective) (s.stepFigures d).r
          (s.stepFigures d).vAuth).map Prod.fst, (s.stepFigures d).target ≤ x := by
  constructor
  · exact List.mem_map_of_mem
      (List.cons_subset.2 ⟨by simp [State.targetTerms], List.Subset.refl _⟩ (lowestTerm_mem _ _))
  · intro x hx
    obtain ⟨y, hy, rfl⟩ := List.mem_map.1 hx
    exact (lowestTerm_le _ _).2 y hy

end Sys2Proof.Machine

namespace Sys2Proof.Proofs

open Sys2Proof.Machine Sys2Proof.Safety

/-- Settles O43: each figure is its formula; the target is below every term that applies and is one of them. -/
theorem stepFiguresFollowTheFormulas : Obligations.StepFiguresFollowTheFormulas := by
  refine ⟨fun x hx => isqrt_bounds hx, fun p v => rfl, fun a v ha => brakingDist_eq v ha,
    fun s => ⟨rfl, State.authorityDistance_of_none, fun n p => State.authorityDistance_of_some⟩, fun s d f hf => ?_⟩
  obtain ⟨hmem, hleast⟩ := s.target_spec d
  rw [← hf] at hmem hleast
  have hdEnd : f.dEnd = s.stepEnd := by rw [hf]; rfl
  have hvEnd : f.vEnd = s.stepEndSpeed (serviceRate s.orders.effective) := by rw [hf]; rfl
  have hvAuth : f.vAuth = s.stepAuthority (serviceRate s.orders.effective) f.r d := by rw [hf]; rfl
  simp only [State.mem_targetTerms] at hmem hleast
  refine ⟨by rw [hf]; rfl, by rw [hf]; rfl, by rw [hf]; rfl, by rw [hf]; rfl, fun hno => ?_, fun o ho => ?_,
    fun hrun x hx => ?_, fun hrun => ?_, fun hno => ?_, fun hno => ?_, fun o n before p after e ho hn hlay hp hafter he => ?_,
    hleast _ (.inl rfl), fun o ho => hleast _ (.inr (.inl ⟨o, ho, rfl⟩)),
    fun n hn => hleast _ (.inr (.inr (.inl ⟨n, hn, rfl⟩))), hleast _ (.inr (.inr (.inr (.inl rfl)))),
    fun p hp hheld hahead hcap => hleast _ (.inr (.inr (.inr (.inr (.inl
      (State.mem_slowerSpeeds.2 ⟨p, hp, hheld, hahead, hcap, rfl⟩)))))), ?_⟩
  · simp [hf, State.stepFigures, hno]
  · simp [hf, State.stepFigures, ho, stoppingDist]
  · rw [hvAuth, State.stepAuthority, if_pos hrun, hx, toNat_max_zero]
    rfl
  · rw [hvAuth, State.stepAuthority, if_neg hrun]
  · have hnow := State.endNow_of_no_end hno
    exact ⟨hdEnd.trans (State.stepEnd_of_kept hnow),
      hvEnd.trans (State.stepEndSpeed_of_kept (State.endSpeedNow_of_no_end _ hnow))⟩
  · exact hvEnd.trans (State.stepEndSpeed_of_kept (State.endSpeedNow_of_not_judged _ hno))
  · have hend : s.endDistance o = some e :=
      State.endDistance_eq_some.2 ⟨n, before, p, after, hn, hlay, hp, hafter, he.symm⟩
    refine ⟨hdEnd.trans (State.stepEnd_of_computed ((State.endNow_of_order ho).trans hend)), fun hrun hrev => ?_⟩
    have hspeed : s.endSpeedNow (serviceRate s.orders.effective) = some (endSpeed (serviceRate s.orders.effective) e) :=
      State.endSpeedNow_eq_some.2 ⟨hrun, hrev, o, e, ho, hend, rfl⟩
    rw [toNat_max_zero]
    exact ⟨_, rfl, hvEnd.trans (State.stepEndSpeed_of_computed hspeed),
      hleast _ (.inr (.inr (.inr (.inr (.inr hspeed)))))⟩
  · obtain h | h | h | h | h | h := hmem
    · exact .inl h
    · exact .inr (.inl h)
    · exact .inr (.inr (.inl h))
    · exact .inr (.inr (.inr (.inl h)))
    · exact .inr (.inr (.inr (.inr (.inl (State.mem_slowerSpeeds.1 h)))))
    · obtain ⟨hrun, hrev, o, e, ho, hend, -⟩ := State.endSpeedNow_eq_some.1 h
      obtain ⟨n, before, p, after, hn, hlay, hp, -, -⟩ := State.endDistance_eq_some.1 hend
      exact .inr (.inr (.inr (.inr (.inr ⟨hrun, hrev, ⟨o, ho, p, by simp [hlay], by rw [hn, hp]⟩,
        hvEnd.trans (State.stepEndSpeed_of_computed h)⟩))))

end Sys2Proof.Proofs
end

section
/-! PROOFS. A frame taken from the head of the receive buffer (R43), and what an offer and the end of a claim leave on the
transmit queue (R45 to R48, R72). -/

-- One declaration at a time: side by side they need more threads than the check's memory holds.
set_option Elab.async false

namespace Sys2Proof.Machine

open Sys2Proof.Safety

/-! ## The head of the receive buffer (R43) -/

theorem State.popFrame_line (s : State) : s.popFrame.line = { s.line with rx := s.line.rx.drop 1 } := rfl

@[simp] theorem State.popFrame_tx (s : State) : s.popFrame.line.tx = s.line.tx := rfl

@[simp] theorem State.popFrame_reportedUrgency (s : State) : s.popFrame.reportedUrgency = s.reportedUrgency := rfl

theorem State.popFrame_rx {s : State} {f : Frame} {time : Nat} {rest : List Received}
    (h : s.line.rx = ⟨f, time⟩ :: rest) : s.popFrame.line.rx = rest := by
  simp [State.popFrame_line, h]

/-- A frame of the kind asked for is taken off the buffer and processed. -/
theorem State.takeKind_of_head {s : State} {f : Frame} {time kind : Nat} {rest : List Received}
    (h : s.line.rx = ⟨f, time⟩ :: rest) (hkind : f.body.kind = kind) :
    s.takeKind kind = s.popFrame.process ⟨f, time⟩ := by
  simp [State.takeKind, State.takeHead, h, hkind]

/-! ## What an offer leaves on the queue (R45 to R47) -/

/-- With room for it a frame other than an ENQUIRE is on the queue after its offer, merged or at the tail. -/
theorem State.offer_on_queue {s : State} (t : Nat) {dest : Nat} {content : TxContent} (hkind : content.kind ≠ 6)
    (hroom : s.line.tx.length < 24) :
    (∃ e ∈ s.line.tx, mergesWith dest content e = true
        ∧ { e with content := content } ∈ (s.offer t dest content).1.line.tx)
      ∨ (⟨dest, content, 0, false, false⟩ : TxEntry) ∈ (s.offer t dest content).1.line.tx := by
  cases hmerge : s.line.tx.any (mergesWith dest content) with
  | true =>
    obtain ⟨e, he, hwith⟩ := List.any_eq_true.1 hmerge
    refine .inl ⟨e, he, hwith, ?_⟩
    simp only [State.offer, hmerge, if_true, State.setLine_line]
    exact List.mem_map.2 ⟨e, he, if_pos hwith⟩
  | false =>
    rw [State.offer_of_room t hmerge (fun h => absurd h hkind) hroom]
    exact .inr (by simp)

/-- An OBJECT merges with another to the same claimant alone, so the one on the queue carries the offered destination. -/
theorem State.object_on_queue {s : State} (t x number seg : Nat) (why : Reason) (hroom : s.line.tx.length < 24) :
    ∃ e ∈ (s.object t x number seg why).line.tx, e.dest = x
      ∧ e.content = .fixed (.object number seg why s.claim.record.waitingFor s.reportedUrgency) := by
  obtain ⟨e, -, hwith, he⟩ | he := State.offer_on_queue t
    (content := .fixed (.object number seg why s.claim.record.waitingFor s.reportedUrgency)) (dest := x)
    (by simp [TxContent.kind, Body.kind]) hroom
  · refine ⟨_, he, ?_, rfl⟩
    unfold mergesWith at hwith
    split at hwith <;> simp_all
  · exact ⟨_, he, rfl, rfl⟩

theorem State.offerBeacon_on_queue {s : State} (t : Nat) (hroom : s.line.tx.length < 24) :
    ∃ e ∈ (s.offerBeacon t).line.tx, e.content = .beacon := by
  obtain ⟨e, -, -, he⟩ | he := State.offer_on_queue t (content := .beacon) (dest := 255) (by simp [TxContent.kind]) hroom
  · exact ⟨_, he, rfl⟩
  · exact ⟨_, he, rfl⟩

/-- What merges with no entry leaves on the queue at most the entries that stood there and its own. -/
theorem State.mem_offer {s : State} (t : Nat) {dest : Nat} {content : TxContent} {e : TxEntry}
    (hmerge : s.line.tx.any (mergesWith dest content) = false) (he : e ∈ (s.offer t dest content).1.line.tx) :
    e ∈ s.line.tx ∨ e = ⟨dest, content, 0, false, false⟩ := by
  have hdisplaced (cls : Nat) (x : TxEntry) (h : e ∈ ((s.displace t cls x).enqueue dest content).line.tx) :
      e ∈ s.line.tx ∨ e = ⟨dest, content, 0, false, false⟩ := by
    rw [State.enqueue_tx, List.mem_append, List.mem_singleton] at h
    refine h.imp_left fun h => (dropNewest_sublist s.line.tx cls).subset ?_
    unfold State.displace at h
    split at h <;> simpa [LaneLine.countDropped] using h
  unfold State.offer at he
  rw [if_neg (by simp [hmerge])] at he
  split at he
  · exact .inl he
  split at he
  · simpa using he
  split at he
  · split at he
    · exact hdisplaced 3 _ he
    split at he
    · exact hdisplaced 2 _ he
    · rw [(State.offerFault_frame _ _).2.2.2.2.2.2.1] at he
      exact .inl he
  split at he <;> exact .inl he

theorem withdraw_merges_with_none (q : List TxEntry) (dest number : Nat) :
    q.any (mergesWith dest (.fixed (.withdraw number))) = false := by
  simp [mergesWith]

/-! ## The queue after a CLAIM is removed, and after a claim ends (R48, R72) -/

theorem mem_removeClaim_of_claim {q : List TxEntry} {e : TxEntry} (he : e ∈ removeClaim q) (hkind : e.kind = 2) :
    e.inFlight = true ∧ e.removed = true := by
  obtain ⟨x, hx, rfl⟩ := List.mem_map.1 he
  obtain ⟨-, hstays⟩ := List.mem_filter.1 hx
  have hclaim : isClaim x = true := by
    split at hkind
    · assumption
    · simp [isClaim, hkind]
  simp_all

/-- The entries other than CLAIMs stand as they stood. -/
theorem removeClaim_others (q : List TxEntry) :
    (removeClaim q).filter (fun e => e.kind != 2) = q.filter (fun e => e.kind != 2) := by
  induction q with
  | nil => rfl
  | cons e q ih =>
    by_cases hclaim : isClaim e = true
    · have hkind : e.kind = 2 := by simpa [isClaim] using hclaim
      cases hfly : e.inFlight <;> simp_all [removeClaim, TxEntry.kind]
    · have hkind : ¬e.kind = 2 := by simpa [isClaim] using hclaim
      simp_all [removeClaim]

theorem State.askRemoval_tx (s : State) (owed : Bool) : (s.askRemoval owed).line.tx = removeClaim s.line.tx := by
  unfold State.askRemoval
  split <;> rfl

theorem State.endClaim_tx_of_queuedR1 {s : State} (t : Nat) (h : s.claim.record.state = .queuedR1) :
    (s.endClaim t).line.tx = removeClaim s.line.tx := by
  simp [State.endClaim, h, State.askRemoval_tx]

theorem State.endClaim_tx_of_queuedR2 {s : State} (t : Nat) (h : s.claim.record.state = .queuedR2) :
    (s.endClaim t).line.tx = ((s.askRemoval false).sendWithdraw t s.claim.record.number).line.tx := by
  simp [State.endClaim, h]

theorem State.endClaim_tx_of_window {s : State} (t : Nat)
    (h : s.claim.record.state = .windowR1 ∨ s.claim.record.state = .windowR2) :
    (s.endClaim t).line.tx = (s.sendWithdraw t s.claim.record.number).line.tx := by
  obtain h | h := h <;> simp [State.endClaim, h]

/-- The end of a claim whose CLAIM was queued leaves no CLAIM but one in flight that is marked removed. -/
theorem State.endClaim_leaves_no_claim {s : State} (t : Nat)
    (h : s.claim.record.state = .queuedR1 ∨ s.claim.record.state = .queuedR2) {e : TxEntry}
    (he : e ∈ (s.endClaim t).line.tx) (hkind : e.kind = 2) : e.inFlight = true ∧ e.removed = true := by
  obtain h | h := h
  · rw [State.endClaim_tx_of_queuedR1 t h] at he
    exact mem_removeClaim_of_claim he hkind
  · rw [State.endClaim_tx_of_queuedR2 t h] at he
    obtain he | rfl := State.mem_offer t (withdraw_merges_with_none _ _ _) he
    · rw [State.askRemoval_tx] at he
      exact mem_removeClaim_of_claim he hkind
    · simp [TxEntry.kind, TxContent.kind, Body.kind] at hkind

/-- Round 1 was sent: with room a WITHDRAW follows what stays of the queue. -/
theorem State.endClaim_tx_of_sent {s : State} (t : Nat) (hpending : s.claim.record.state.isPending = true)
    (hsent : s.claim.record.state ≠ .queuedR1) (hroom : s.line.tx.length < 24) :
    (s.endClaim t).line.tx
      = (if s.claim.record.state = .queuedR2 then removeClaim s.line.tx else s.line.tx)
        ++ [⟨255, .fixed (.withdraw s.claim.record.number), 0, false, false⟩] := by
  cases h : s.claim.record.state with
  | queuedR2 =>
    have hasked : (s.askRemoval false).line.tx.length < 24 := by
      rw [State.askRemoval_tx]
      exact (removeClaim_length _).trans_lt hroom
    rw [State.endClaim_tx_of_queuedR2 t h, State.sendWithdraw_of_room t _ hasked, State.enqueue_tx, State.askRemoval_tx,
      if_pos rfl]
  | windowR1 => rw [State.endClaim_tx_of_window t (.inl h), State.sendWithdraw_of_room t _ hroom]; rfl
  | windowR2 => rw [State.endClaim_tx_of_window t (.inr h), State.sendWithdraw_of_room t _ hroom]; rfl
  | queuedR1 => exact absurd h hsent
  | idle | blocked | contested | holdoff => rw [h] at hpending; cases hpending

/-! ## Waits entered (R76, R84, R104) -/

theorem ClaimEngine.countFor_others (c : ClaimEngine) (seg : Nat) :
    (c.countFor seg).held = c.held ∧ (c.countFor seg).removal = c.removal ∧ (c.countFor seg).reports = c.reports
      ∧ (c.countFor seg).retryTimer = c.retryTimer := by
  unfold ClaimEngine.countFor
  split <;> exact ⟨rfl, rfl, rfl, rfl⟩

theorem State.enterContested_claim (s : State) (seg : Nat) (rival : Rival) :
    (s.enterContested seg rival).claim.record
        = { s.claim.record.toIdle with state := .contested, waitSeg := some seg, rival := some rival,
                                       contestTimer := some (2 * s.params.window + 200) }
      ∧ (s.enterContested seg rival).claim.held = s.claim.held
      ∧ (s.enterContested seg rival).claim.removal = s.claim.removal
      ∧ (s.enterContested seg rival).claim.reports = s.claim.reports := by
  obtain ⟨hheld, hremoval, hreports, -⟩ := s.claim.countFor_others seg
  exact ⟨rfl, hheld, hremoval, hreports⟩

theorem State.enterBlocked_claim (s : State) (seg holder : Nat) :
    (s.enterBlocked seg holder).claim.record
        = { s.claim.record.toIdle with state := .blocked, waitSeg := some seg, holder := some holder }
      ∧ (s.enterBlocked seg holder).claim.held = s.claim.held
      ∧ (s.enterBlocked seg holder).claim.peerWait = Table.find s.claim.reports holder
      ∧ (s.enterBlocked seg holder).claim.reports = s.claim.reports := by
  obtain ⟨hheld, -, hreports, -⟩ := s.claim.countFor_others seg
  exact ⟨rfl, hheld, rfl, hreports⟩

end Sys2Proof.Machine
end

section
/-! PROOFS. The answer to a CLAIM (R80, R86 to R90, R72). -/

-- One declaration at a time: side by side they need more threads than the check's memory holds.
set_option Elab.async false

namespace Sys2Proof.Machine

open Sys2Proof.Safety

theorem exec_claimReceived {s : State} {f : Frame} {time number round urgency waited : Nat} {segs : List Nat}
    {rest : List Received} (hrx : s.line.rx = ⟨f, time⟩ :: rest) (hbody : f.body = .claim number round urgency waited segs) :
    exec .claimReceived s
      = .next (s.popFrame.takeClaim time f.source f.edition number urgency waited segs) := by
  change Host.Outcome.next (s.takeKind 2) = _
  rw [State.takeKind_of_head hrx (by rw [hbody]; rfl), State.process]
  simp only [hbody]

/-! ## The rival's number (R83, R90) -/

theorem State.supplyRival_of_absent {s : State} (x number : Nat) (hstate : s.claim.record.state = .contested)
    (hrival : s.claim.record.rival = some ⟨x, none⟩) :
    s.supplyRival x number = s.setRecord { s.claim.record with rival := some ⟨x, some number⟩ } :=
  if_pos ⟨hstate, hrival⟩

theorem State.supplyRival_of_other {s : State} {x : Nat} (number : Nat)
    (h : s.claim.record.state ≠ .contested ∨ s.claim.record.rival ≠ some ⟨x, none⟩) : s.supplyRival x number = s :=
  if_neg (not_and_or.2 h)

theorem ClaimState.ne_contested_of_isPending {x : ClaimState} (h : x.isPending = true) : x ≠ .contested := by
  rintro rfl
  cases h

theorem ClaimRecord.waitingFor_of_pending {r : ClaimRecord} (h : r.state.isPending = true) : r.waitingFor = 0 := by
  unfold ClaimRecord.waitingFor
  cases hs : r.state <;> simp_all [ClaimState.isPending]

/-- Whatever it supplies, the claim's state, its segments, the held list and the waiting-for stand. -/
theorem State.supplyRival_kept (s : State) (x number : Nat) :
    (s.supplyRival x number).claim.record.state = s.claim.record.state
      ∧ (s.supplyRival x number).claim.record.segs = s.claim.record.segs
      ∧ (s.supplyRival x number).claim.held = s.claim.held
      ∧ (s.supplyRival x number).claim.record.waitingFor = s.claim.record.waitingFor := by
  unfold State.supplyRival
  split <;> exact ⟨rfl, rfl, rfl, rfl⟩

@[simp] theorem State.supplyRival_reportedUrgency (s : State) (x number : Nat) :
    (s.supplyRival x number).reportedUrgency = s.reportedUrgency := by
  simp [State.reportedUrgency, State.currentOrder]

/-! ## The precedence comparison (R80, R89) -/

theorem ClaimKey.precedes_iff (k m : ClaimKey) :
    k.precedes m = true ↔ m.urgency < k.urgency
      ∨ (m.urgency = k.urgency ∧ (m.waited < k.waited ∨ (m.waited = k.waited ∧ k.station < m.station))) := by
  unfold ClaimKey.precedes
  split
  · simp only [decide_eq_true_eq]; omega
  split
  · simp only [decide_eq_true_eq]; omega
  · simp only [decide_eq_true_eq]; omega

theorem State.crossing_of_disjoint {s : State} (t x number urgency waited : Nat) {segs : List Nat}
    (h : ∀ n ∈ segs, n ∉ s.claim.record.segs) : s.crossing t x number urgency waited segs = s := by
  have hnone : segs.find? (fun n => s.claim.record.segs.contains n) = none := by simpa using h
  simp only [State.crossing, hnone]

theorem State.crossing_of_first {s : State} (t x number : Nat) {urgency waited theirs ours : Nat} {segs : List Nat}
    (htheirs : segs.find? (fun n => s.claim.record.segs.contains n) = some theirs)
    (hours : s.claim.record.segs.find? (fun n => segs.contains n) = some ours) :
    s.crossing t x number urgency waited segs
      = if s.ownKey.precedes ⟨urgency, waited, x⟩ then s.object t x number theirs .precedence
        else (s.endClaim t).enterContested ours ⟨x, some number⟩ := by
  simp only [State.crossing, htheirs, hours]

theorem State.endClaim_held (s : State) (t : Nat) : (s.endClaim t).claim.held = s.claim.held := by
  cases hpending : s.claim.record.state.isPending with
  | true => rw [State.endClaim_claim t hpending]; rfl
  | false => rw [State.endClaim_of_not_pending t hpending]

theorem State.crossing_held (s : State) (t x number urgency waited : Nat) (segs : List Nat) :
    (s.crossing t x number urgency waited segs).claim.held = s.claim.held := by
  unfold State.crossing
  split
  · split
    · simp
    · rw [(State.enterContested_claim _ _ _).2.1, State.endClaim_held]
  · rfl

/-! ## The answer, by the first step that applies (R86) -/

theorem State.answerClaim_of_edition {s : State} (t x number urgency waited : Nat) {edition : Nat} (segs : List Nat)
    (h : edition ≠ s.pos.edition) :
    s.answerClaim t x edition number urgency waited segs
      = (s.object t x number (segs.headD 0) .edition).editionMismatch t x edition :=
  if_pos h

theorem State.answerClaim_of_held {s : State} (t x number urgency waited : Nat) {edition n : Nat} {m : Mark} {segs : List Nat}
    (h : edition = s.pos.edition) (hn : segs.find? (fun n => (heldSegs s.claim.held).contains n) = some n)
    (hm : markOf s.claim.held n = some m) :
    s.answerClaim t x edition number urgency waited segs = s.object t x number n m.heldReason := by
  rw [State.answerClaim, if_neg (not_not.2 h)]
  simp only [hn, hm, Option.getD_some]

theorem State.answerClaim_of_free {s : State} (t x number urgency waited : Nat) {edition : Nat} {segs : List Nat}
    (h : edition = s.pos.edition) (hfree : ∀ n ∈ segs, n ∉ heldSegs s.claim.held) :
    s.answerClaim t x edition number urgency waited segs
      = if s.claim.record.state.isPending then s.crossing t x number urgency waited segs else s := by
  have hnone : segs.find? (fun n => (heldSegs s.claim.held).contains n) = none := by simpa using hfree
  rw [State.answerClaim, if_neg (not_not.2 h), hnone]

/-- Without a pending claim an answer leaves the Claim Engine alone. -/
theorem State.answerClaim_claim {s : State} (t x edition number urgency waited : Nat) (segs : List Nat)
    (h : s.claim.record.state.isPending = false) :
    (s.answerClaim t x edition number urgency waited segs).claim = s.claim := by
  unfold State.answerClaim
  split
  · simp
  split
  · simp
  · rw [h]; rfl

theorem State.answerClaim_held (s : State) (t x edition number urgency waited : Nat) (segs : List Nat) :
    (s.answerClaim t x edition number urgency waited segs).claim.held = s.claim.held := by
  unfold State.answerClaim
  split
  · simp
  split
  · simp
  split
  · exact s.crossing_held t x number urgency waited segs
  · rfl

theorem State.answerClaim_receptionKept (s : State) (t x edition number urgency waited : Nat) (segs : List Nat) :
    ReceptionKept s (s.answerClaim t x edition number urgency waited segs) := by
  unfold State.answerClaim
  split
  · refine ReceptionKept.trans (t := s.object t x number (segs.headD 0) .edition) ?_ (.of_line (by simp))
    exact State.offer_receptionKept s t x _
  split
  · exact State.offer_receptionKept s t x _
  split
  · unfold State.crossing
    split
    · split
      · exact State.offer_receptionKept s t x _
      · exact (s.endClaim_receptionKept t).trans (.of_line (by simp))
    · exact .of_line rfl
  · exact .of_line rfl

/-- After an EDITION_MISMATCH the station is marked (R98). -/
theorem State.mem_editionMismatch (s : State) (t x edition : Nat) : x ∈ (s.editionMismatch t x edition).resp.editionMarks := by
  unfold State.editionMismatch
  split
  next h => exact List.contains_iff_mem.1 h
  · simpa using (mem_insertNum s.resp.editionMarks x x).2 (.inl rfl)

end Sys2Proof.Machine

namespace Sys2Proof.Proofs

open Sys2Proof.Machine Sys2Proof.Safety

/-- R72, R80: the claim that yields to a rival becomes a CONTESTED wait, and its frame leaves the queue as its state has it. -/
theorem yielding_claim (s : State) (t ours x number : Nat) (hpending : s.claim.record.state.isPending = true) :
    ∃ u, (s.endClaim t).enterContested ours ⟨x, some number⟩ = u
      ∧ u.claim.record.state = .contested ∧ u.claim.record.waitSeg = some ours
      ∧ u.claim.record.rival = some ⟨x, some number⟩
      ∧ u.claim.record.contestTimer = some (2 * s.params.window + 200) ∧ u.claim.record.segs = []
      ∧ (s.claim.record.state = .queuedR1 ∨ s.claim.record.state = .queuedR2 →
          (∀ e ∈ u.line.tx, e.kind = 2 → e.inFlight = true ∧ e.removed = true)
          ∧ u.claim.removal
            = if s.line.tx.any (fun e => e.kind == 2 && e.inFlight) then
                some ⟨s.claim.record.number, decide (s.claim.record.state = .queuedR1)⟩
              else s.claim.removal)
      ∧ (s.claim.record.state = .queuedR1 →
          u.line.tx.filter (fun e => e.kind != 2) = s.line.tx.filter (fun e => e.kind != 2))
      ∧ (s.claim.record.state ≠ .queuedR1 → s.line.tx.length < 24 →
          u.line.tx.filter (fun e => e.kind != 2)
            = s.line.tx.filter (fun e => e.kind != 2)
              ++ [⟨255, .fixed (.withdraw s.claim.record.number), 0, false, false⟩])
      ∧ (s.claim.record.state = .windowR1 ∨ s.claim.record.state = .windowR2 → u.claim.removal = s.claim.removal) := by
  obtain ⟨hrecord, -, hremoval, -⟩ := State.enterContested_claim (s.endClaim t) ours ⟨x, some number⟩
  have htx : ((s.endClaim t).enterContested ours ⟨x, some number⟩).line.tx = (s.endClaim t).line.tx := by simp
  rw [State.endClaim_claim t hpending] at hremoval
  refine ⟨_, rfl, ?_⟩
  rw [hrecord, hremoval, htx]
  refine ⟨rfl, rfl, rfl, by simp, rfl, fun hqueued => ⟨fun e he hkind => ?_, ?_⟩, fun hqueued => ?_, fun hsent hroom => ?_,
    fun hwindow => ?_⟩
  · exact State.endClaim_leaves_no_claim t hqueued he hkind
  · obtain h | h := hqueued <;> simp [ClaimEngine.ended, ClaimEngine.removalAfter, h, claimInFlight, isClaim]
  · rw [State.endClaim_tx_of_queuedR1 t hqueued, removeClaim_others]
  · rw [State.endClaim_tx_of_sent t hpending hsent hroom, List.filter_append]
    split
    · rw [removeClaim_others]; rfl
    · rfl
  · obtain h | h := hwindow <;> simp [ClaimEngine.ended, ClaimEngine.removalAfter, h]

/-- Settles O56: the answers of R86 by the first step that applies, and the yielding claim of R72. -/
theorem claimsAreAnswered : Obligations.ClaimsAreAnswered := by
  intro s f time number round urgency waited n0 more rest hrx hbody
  refine ⟨_, exec_claimReceived hrx hbody, ?_⟩
  have hrest := State.popFrame_rx hrx
  obtain ⟨-, -, -, hcontrol, hparams, hpos, hclaim, -, hcache, -⟩ := s.popFrame_frame
  rw [← hcontrol, ← hparams, ← hpos, ← hclaim, ← hcache, ← s.popFrame_tx, ← s.popFrame_reportedUrgency]
  clear hrx hcontrol hparams hpos hclaim hcache
  generalize s.popFrame = u at *
  obtain ⟨hstate, hsegs, hheld, hwaiting⟩ := u.supplyRival_kept f.source number
  have htaken : u.takeClaim time f.source f.edition number urgency waited (n0 :: more)
      = (u.supplyRival f.source number).answerClaim time f.source f.edition number urgency waited (n0 :: more) := rfl
  refine ⟨?_, ?_, by simp, by simp, fun hedition hroom => ?_, fun n m hedition hn hm hroom => ?_, fun hcontested hrival => ?_,
    fun hnot hother => ?_, fun hedition hfree => ?_⟩
  · rw [htaken, (State.answerClaim_receptionKept _ _ _ _ _ _ _ _).1]
    simpa using hrest
  · rw [htaken, State.answerClaim_held, hheld]
  · rw [htaken, State.answerClaim_of_edition _ _ _ _ _ _ (by simpa using hedition)]
    obtain ⟨e, he, hdest, hcontent⟩ := State.object_on_queue (s := u.supplyRival f.source number) time f.source number n0
      .edition (by simpa using hroom)
    rw [hwaiting, State.supplyRival_reportedUrgency] at hcontent
    exact ⟨⟨e, by simpa using he, hdest, hcontent⟩, State.mem_editionMismatch _ _ _ _⟩
  · rw [htaken, State.answerClaim_of_held _ _ _ _ _ (by simpa using hedition) (by rw [hheld]; exact hn)
      (by rw [hheld]; exact hm)]
    obtain ⟨e, he, hdest, hcontent⟩ := State.object_on_queue (s := u.supplyRival f.source number) time f.source number n
      m.heldReason (by simpa using hroom)
    rw [hwaiting, State.supplyRival_reportedUrgency] at hcontent
    exact ⟨⟨e, he, hdest, by rw [hcontent]; cases m <;> rfl⟩, by simpa using hstate⟩
  · rw [htaken, State.answerClaim_claim _ _ _ _ _ _ _ (by rw [hstate, hcontested]; rfl),
      State.supplyRival_of_absent _ _ hcontested hrival]
    rfl
  · rw [htaken, State.answerClaim_claim _ _ _ _ _ _ _ (by rw [hstate]; exact hnot), State.supplyRival_of_other _ hother]
  · have hanswer := State.answerClaim_of_free (s := u.supplyRival f.source number) time f.source number urgency waited
      (by simpa using hedition) (by rw [hheld]; exact hfree)
    rw [htaken, hanswer, hstate]
    refine ⟨fun hnot => by simp [hnot], fun hdisjoint => ?_, fun theirs ours hpending htheirs hours => ?_⟩
    · rw [State.crossing_of_disjoint _ _ _ _ _ (by rw [hsegs]; exact hdisjoint), ite_self]
      exact ⟨by simp, hstate⟩
    · rw [if_pos hpending, State.supplyRival_of_other _ (.inl (ClaimState.ne_contested_of_isPending hpending)),
        State.crossing_of_first _ _ _ htheirs hours]
      have hkey := ClaimKey.precedes_iff u.ownKey ⟨urgency, waited, f.source⟩
      refine ⟨fun hours => ?_, fun htheirs => ?_⟩
      · rw [if_pos (hkey.2 hours)]
        refine ⟨by simp, fun hroom => ?_⟩
        obtain ⟨e, he, hdest, hcontent⟩ := State.object_on_queue (s := u) time f.source number theirs .precedence hroom
        exact ⟨e, he, hdest, by rw [hcontent, ClaimRecord.waitingFor_of_pending hpending]⟩
      · rw [if_neg (fun h => htheirs (hkey.1 h))]
        obtain ⟨v, rfl, hyielded⟩ := yielding_claim u time ours f.source number hpending
        exact hyielded

end Sys2Proof.Proofs
end

section
/-! PROOFS. A holding written to the cache (R117, R118) and a hold conflict (R94 to R96): what each records and what it leaves
as it was. -/

-- One declaration at a time: side by side they need more threads than the check's memory holds.
set_option Elab.async false

namespace Sys2Proof.Machine

open Sys2Proof.Safety

/-! ## Lookup (R115, R116) -/

theorem mem_of_findEntry {ways : Table CacheEntry} {seg k : Nat} {e : CacheEntry} (h : findEntry ways seg = some (k, e)) :
    (k, e) ∈ ways ∧ e.seg = seg ∧ k / 4 = cacheSet seg := by
  have htest := List.find?_some h
  simp only [Bool.and_eq_true, beq_iff_eq] at htest
  exact ⟨List.mem_of_find?_eq_some h, htest.2, htest.1⟩

/-- Every entry stands in the set of its segment (R115). -/
def InOwnSets (ways : Table CacheEntry) : Prop := ∀ w ∈ ways, w.1 / 4 = cacheSet w.2.seg

theorem inOwnSets_of_cacheSound {c : PeerCache} (h : CacheSound c) : InOwnSets c.ways := by
  obtain ⟨-, hways, -, -⟩ := h
  exact fun w hw => (hways w hw).2.1

/-- Where every entry stands in its set the lookup misses none. -/
theorem findEntry_eq_none {ways : Table CacheEntry} (hw : InOwnSets ways) (seg : Nat) :
    findEntry ways seg = none ↔ ∀ w ∈ ways, w.2.seg ≠ seg := by
  unfold findEntry
  rw [List.find?_eq_none]
  refine forall₂_congr fun w hmem => ?_
  rw [Bool.and_eq_true, beq_iff_eq, beq_iff_eq, hw w hmem]
  constructor
  · rintro h rfl
    exact h ⟨rfl, rfl⟩
  · rintro h ⟨-, hseg⟩
    exact h hseg

theorem Table.mem_insert_self {α : Type} (t : Table α) (k : Nat) (v : α) : (k, v) ∈ Table.insert t k v :=
  Table.mem_of_find (Table.find_insert_self t k v)

/-! ## A holding written (R117) -/

/-- The cache has an entry for a segment as a frame of this source kind gives it. -/
def Recorded (ways : Table CacheEntry) (seg x : Nat) (m : Mark) (source : Source) : Prop :=
  ∃ w ∈ ways, w.2.seg = seg ∧ w.2.holder = x ∧ w.2.status = .held ∧ w.2.age = 0 ∧ w.2.mark = some m
    ∧ w.2.source = some source

/-- A holding is recorded, or its segment had no entry and found no victim. -/
theorem State.writeHolding_recorded {s : State} (hs : InOwnSets s.cache.ways) (seg x : Nat) (m : Mark) (source : Source)
    (barred : List Nat) :
    Recorded (s.writeHolding seg x m source barred).cache.ways seg x m source
      ∨ ((∀ w ∈ s.cache.ways, w.2.seg ≠ seg)
        ∧ (s.writeHolding seg x m source barred).cache = { s.cache with full := min 65535 (s.cache.full + 1) }) := by
  unfold State.writeHolding
  split
  next k e hfound =>
    obtain ⟨-, hseg, -⟩ := mem_of_findEntry hfound
    refine .inl ⟨(k, { e with holder := x, mark := some m, status := .held, age := 0, source := some source }), ?_, hseg,
      rfl, rfl, rfl, rfl, rfl⟩
    simp only
    split
    · rw [(State.cacheReport_frame _ _ _).2.2.2.2.2.2.2.2.1]
      exact Table.mem_insert_self _ _ _
    · exact Table.mem_insert_self _ _ _
  next hnone =>
    split
    next k _ =>
      exact .inl ⟨(k, ⟨seg, x, some m, .held, 0, [], some source⟩), Table.mem_insert_self _ _ _, rfl, rfl, rfl, rfl, rfl, rfl⟩
    · exact .inr ⟨(findEntry_eq_none hs seg).1 hnone, rfl⟩

/-- Removed pins leave the entry of a holding (R125). -/
theorem Recorded.unpin {c : PeerCache} {seg x : Nat} {m : Mark} {source : Source} (h : Recorded c.ways seg x m source)
    (tag : Nat) (p : Nat → Bool) : Recorded (c.unpin tag p).ways seg x m source := by
  obtain ⟨⟨k, e⟩, hmem, hseg, hholder, hstatus, hage, hmark, hsource⟩ := h
  have hheld : (e.status == .none) = false := by rw [hstatus]; rfl
  unfold PeerCache.unpin
  by_cases hpin : (e.pins.contains tag && p e.seg) = true
  · refine ⟨(k, { e with pins := e.pins.filter (fun y => y != tag) }),
      List.mem_filterMap.2 ⟨(k, e), hmem, ?_⟩, hseg, hholder, hstatus, hage, hmark, hsource⟩
    simp only [unpinEntry, hpin, if_true, hheld, Bool.and_false, Bool.false_eq_true, if_false]
  · exact ⟨(k, e), List.mem_filterMap.2 ⟨(k, e), hmem, by simp only [unpinEntry, hpin]; rfl⟩, hseg, hholder, hstatus,
      hage, hmark, hsource⟩

/-! ## What the cache's reports do to the Claim Engine (R118) -/

/-- A holding written reports only its own segment. -/
theorem State.writeHolding_claim (s : State) (seg x : Nat) (m : Mark) (source : Source) (barred : List Nat) :
    (s.writeHolding seg x m source barred).claim = s.claim
      ∨ (s.writeHolding seg x m source barred).claim = s.claim.idle
        ∧ s.claim.record.blockedOn seg = true ∧ ∃ y, y ≠ x ∧ s.claim.record.holder = some y := by
  unfold State.writeHolding
  split
  next k e _ =>
    simp only
    split
    next hother =>
      unfold State.cacheReport
      split
      next hends =>
        simp only [State.setWays_frame, Bool.and_eq_true, beq_iff_eq] at hends
        refine .inr ⟨?_, hends.1, e.holder, hother.2, hends.2⟩
        rw [State.toIdle_idle, (State.setWays_frame _ _).2.2.2.2.2.2.2.1]
      · exact .inl rfl
    · exact .inl rfl
  · split <;> exact .inl rfl

theorem State.writeHolding_claim_of_not_blocked {s : State} {seg : Nat} (h : s.claim.record.blockedOn seg = false) (x : Nat)
    (m : Mark) (source : Source) (barred : List Nat) : (s.writeHolding seg x m source barred).claim = s.claim := by
  obtain heq | ⟨-, hblocked, -⟩ := s.writeHolding_claim seg x m source barred
  · exact heq
  · rw [h] at hblocked
    cases hblocked

theorem ClaimRecord.blockedOn_of_state {r : ClaimRecord} (h : r.state ≠ .blocked) (seg : Nat) : r.blockedOn seg = false := by
  simp [ClaimRecord.blockedOn, h]

theorem ClaimRecord.blockedOn_of_seg {r : ClaimRecord} {seg : Nat} (h : r.waitSeg ≠ some seg) : r.blockedOn seg = false := by
  simp [ClaimRecord.blockedOn, h]

/-! ## A hold conflict (R95, R96) -/

/-- The report of a hold conflict (R96, R191). -/
def holdConflictReport (x seg : Nat) (detail : Option Nat) : HaltReport :=
  { notice := .holdConflict, fault := .holdConflict, cause := .holdConflict, station := some x, seg := some seg,
    detail := detail, faultDetail := none }

theorem State.holdConflict_of_known {s : State} {x seg : Nat} (t : Nat) (detail : Option Nat)
    (h : s.resp.hasPair seg x = true) : s.holdConflict t x seg detail = s :=
  if_pos h

theorem State.holdConflict_of_new {s : State} {x seg : Nat} (t : Nat) (detail : Option Nat)
    (h : s.resp.hasPair seg x = false) :
    s.holdConflict t x seg detail
      = (s.setResp (s.resp.addPair seg x)).haltWith t (holdConflictReport x seg detail) := by
  rw [State.holdConflict, if_neg (by rw [h]; decide)]
  rfl

theorem State.haltWith_resp (s : State) (t : Nat) (r : HaltReport) : (s.haltWith t r).resp = s.resp := by simp

/-- Without a cancel mark no order is cancelled in a halt, and the pins stay. -/
theorem State.haltWith_cache_of_unmarked {s : State} (t : Nat) (r : HaltReport) (h : s.orders.cancelMark = none) :
    (s.haltWith t r).cache = s.cache := by
  have horders (u : State) (hu : u.orders.cancelMark = none) : (u.haltOrders t).cache = u.cache := by
    unfold State.haltOrders
    split
    · rfl
    next o _ =>
      rw [if_neg (by rw [hu]; nofun)]
      simp
  unfold State.haltWith State.halt
  split
  · simp
  · simp [State.addCause]
  all_goals
    unfold State.enterHalted
    rw [horders _ (by simpa [State.addCause, State.changeState] using h)]
    simp [State.addCause, State.changeState]

end Sys2Proof.Machine
end

section
/-! PROOFS. An OBJECT taken: matched to the pending claim, or late (R75 to R79, R83, R103, R121). -/

-- One declaration at a time: side by side they need more threads than the check's memory holds.
set_option Elab.async false

namespace Sys2Proof.Machine

open Sys2Proof.Safety

theorem exec_objectReceived {s : State} {f : Frame} {time number seg w u : Nat} {why : Reason} {rest : List Received}
    (hrx : s.line.rx = ⟨f, time⟩ :: rest) (hbody : f.body = .object number seg why w u) :
    exec .objectReceived s = .next (s.popFrame.takeObject time f.source f.edition number seg why ⟨w, u⟩) := by
  change Host.Outcome.next (s.takeKind 3) = _
  rw [State.takeKind_of_head hrx (by rw [hbody]; rfl), State.process]
  simp only [hbody]

/-! ## The report of a peer (R103, R104) -/

theorem State.fileReport_claim (s : State) (x : Nat) (r : PeerReport) :
    (s.fileReport x r).claim.record = s.claim.record ∧ (s.fileReport x r).claim.held = s.claim.held
      ∧ (s.fileReport x r).claim.waited = s.claim.waited ∧ (s.fileReport x r).claim.retryTimer = s.claim.retryTimer
      ∧ Table.find (s.fileReport x r).claim.reports x = some r :=
  ⟨rfl, rfl, rfl, rfl, Table.find_insert_self _ _ _⟩

theorem State.writeHolding_reports (s : State) (seg x : Nat) (m : Mark) (source : Source) (barred : List Nat) :
    (s.writeHolding seg x m source barred).claim.reports = s.claim.reports := by
  obtain h | ⟨h, -, -⟩ := s.writeHolding_claim seg x m source barred <;> rw [h] <;> rfl

theorem State.endClaim_reports (s : State) (t : Nat) : (s.endClaim t).claim.reports = s.claim.reports := by
  cases hpending : s.claim.record.state.isPending with
  | true => rw [State.endClaim_claim t hpending]; rfl
  | false => rw [State.endClaim_of_not_pending t hpending]

theorem State.haltWith_reports (s : State) (t : Nat) (r : HaltReport) :
    (s.haltWith t r).claim.reports = s.claim.reports ∧ (s.haltWith t r).claim.held = s.claim.held := by
  obtain h | h := (s.haltWith_claim t r).1 <;> (rw [h]; exact ⟨rfl, rfl⟩)

theorem State.newAuthority_reports (s : State) (t : Nat) :
    (s.newAuthority t).claim.reports = s.claim.reports ∧ (s.newAuthority t).claim.held = s.claim.held := by
  obtain h | h := (s.newAuthority_claim t).1 <;> (rw [h]; exact ⟨rfl, rfl⟩)

/-- The idle record stays idle where the authority limit moves. -/
theorem State.newAuthority_idle {s : State} (t : Nat) (h : s.claim.record.state = .idle) :
    (s.newAuthority t).claim.record.state = .idle := by
  obtain hclaim | hclaim := (s.newAuthority_claim t).1 <;> rw [hclaim]
  · exact h
  · rfl

/-! ## A RELEASE stays on the queue (R47) -/

theorem mem_dropNewest {q : List TxEntry} {cls : Nat} {e : TxEntry} (he : e ∈ q) (h : e.class ≠ cls) :
    e ∈ dropNewest q cls := by
  rw [dropNewest, List.mem_reverse]
  exact (List.mem_eraseP_of_neg (by simp [h])).2 (List.mem_reverse.2 he)

theorem State.mem_displace {s : State} (t : Nat) {cls : Nat} (x : TxEntry) {e : TxEntry} (he : e ∈ s.line.tx)
    (h : e.class ≠ cls) : e ∈ (s.displace t cls x).line.tx := by
  have hdrop := mem_dropNewest he h
  unfold State.displace
  split <;> simpa [LaneLine.countDropped] using hdrop

/-- An entry of class A or B is displaced by no other. -/
theorem State.stays_on_sendWithdraw {s : State} (t number : Nat) {e : TxEntry} (he : e ∈ s.line.tx) (hclass : e.class < 2) :
    e ∈ (s.sendWithdraw t number).line.tx := by
  unfold State.sendWithdraw State.send State.offer
  rw [if_neg (by simp [withdraw_merges_with_none])]
  split
  · exact he
  split
  · exact List.mem_append_left _ he
  split
  · split
    next x _ => exact List.mem_append_left _ (s.mem_displace t x he (by omega))
    split
    next x _ => exact List.mem_append_left _ (s.mem_displace t x he (by omega))
    · rw [(State.offerFault_frame _ _).2.2.2.2.2.2.1]
      exact he
  split <;> exact he

theorem mem_removeClaim {q : List TxEntry} {e : TxEntry} (he : e ∈ q) (hkind : e.kind ≠ 2) : e ∈ removeClaim q := by
  have hclaim : isClaim e = false := by simpa [isClaim] using hkind
  exact List.mem_map.2 ⟨e, List.mem_filter.2 ⟨he, by simp [hclaim]⟩, by simp [hclaim]⟩

theorem TxEntry.class_of_release {e : TxEntry} (h : e.kind = 5) : e.class < 2 := by
  rw [TxEntry.class, h]
  decide

theorem State.release_stays_on_endClaim {s : State} (t : Nat) {e : TxEntry} (he : e ∈ s.line.tx) (hkind : e.kind = 5) :
    e ∈ (s.endClaim t).line.tx := by
  have hremoved : e ∈ removeClaim s.line.tx := mem_removeClaim he (by omega)
  cases hstate : s.claim.record.state with
  | queuedR1 => rwa [State.endClaim_tx_of_queuedR1 t hstate]
  | queuedR2 =>
    rw [State.endClaim_tx_of_queuedR2 t hstate]
    exact State.stays_on_sendWithdraw t _ (by rwa [State.askRemoval_tx]) (TxEntry.class_of_release hkind)
  | windowR1 =>
    rw [State.endClaim_tx_of_window t (.inl hstate)]
    exact State.stays_on_sendWithdraw t _ he (TxEntry.class_of_release hkind)
  | windowR2 =>
    rw [State.endClaim_tx_of_window t (.inr hstate)]
    exact State.stays_on_sendWithdraw t _ he (TxEntry.class_of_release hkind)
  | idle | blocked | contested | holdoff =>
    rwa [State.endClaim_of_not_pending t (by rw [hstate]; rfl)]

theorem State.release_stays_on_haltWith {s : State} (t : Nat) (r : HaltReport) {e : TxEntry} (he : e ∈ s.line.tx)
    (hkind : e.kind = 5) : e ∈ (s.haltWith t r).line.tx := by
  have hentered (u : State) (hu : e ∈ u.line.tx) : e ∈ (u.enterHalted t).line.tx := by
    simp only [State.enterHalted, State.abandonClaim, State.haltOrders_frame, State.toIdle_frame]
    exact State.release_stays_on_endClaim t (by simpa using hu) hkind
  unfold State.haltWith State.halt
  split
  · simpa using he
  · simpa [State.addCause] using he
  · exact hentered _ (by simpa [State.addCause] using he)
  · exact hentered _ (by simpa [State.addCause] using he)

theorem State.release_stays_on_newAuthority {s : State} (t : Nat) {e : TxEntry} (he : e ∈ s.line.tx) (hkind : e.kind = 5) :
    e ∈ (s.newAuthority t).line.tx := by
  unfold State.newAuthority State.overrunCheck
  split
  case h_3 => exact he
  all_goals
    split
    · exact he
    split
    · exact he
    · exact State.release_stays_on_haltWith t _ he hkind

/-! ## The receive side -/

theorem State.overrunCheck_receptionKept (s : State) (t : Nat) : ReceptionKept s (s.overrunCheck t) := by
  unfold State.overrunCheck
  split
  case h_3 => exact .of_line rfl
  all_goals
    split
    · exact .of_line rfl
    split
    · exact .of_line rfl
    · exact ReceptionKept.trans (t := s.setOverrunMark true) (.of_line (by simp)) (State.haltWith_receptionKept _ t _)

theorem State.newAuthority_receptionKept (s : State) (t : Nat) : ReceptionKept s (s.newAuthority t) :=
  ReceptionKept.trans (t := s.setMotion { s.motion with authority := s.authorityDistance }) (.of_line rfl)
    (State.overrunCheck_receptionKept _ t)

theorem State.giveBack_receptionKept (s : State) (t : Nat) (segs : List Nat) : ReceptionKept s (s.giveBack t segs) := by
  unfold State.giveBack
  split
  · exact .of_line rfl
  · exact ReceptionKept.trans (s := s)
      (t := s.setClaim { s.claim with held := s.claim.held.filter (fun e => !segs.contains e.seg) })
      (.of_line rfl) (State.offer_receptionKept _ t 255 _)

theorem State.holdConflict_receptionKept (s : State) (t x seg : Nat) (detail : Option Nat) :
    ReceptionKept s (s.holdConflict t x seg detail) := by
  unfold State.holdConflict
  split
  · exact .of_line rfl
  · exact ReceptionKept.trans (.of_line rfl) (State.haltWith_receptionKept _ t _)

theorem State.chooseExpected_receptionKept (s : State) : ReceptionKept s s.chooseExpected := .of_line (by simp)

theorem State.writeHolding_receptionKept (s : State) (seg x : Nat) (m : Mark) (source : Source) (barred : List Nat) :
    ReceptionKept s (s.writeHolding seg x m source barred) := .of_line (by simp)

theorem State.lateReserved_receptionKept (s : State) (t x seg : Nat) (m : Mark) :
    ReceptionKept s (s.lateReserved t x seg m) := by
  exact ((((s.giveBack_receptionKept t _).trans (State.writeHolding_receptionKept _ seg x m .object [])).trans
    (State.endClaim_receptionKept _ t)).trans (State.chooseExpected_receptionKept _)).trans
      (State.newAuthority_receptionKept _ t)

theorem State.lateObjection_receptionKept (s : State) (t x edition seg : Nat) (why : Reason) :
    ReceptionKept s (s.lateObjection t x edition seg why) := by
  unfold State.lateObjection
  split
  · split
    · exact s.lateReserved_receptionKept t x seg _
    · exact s.holdConflict_receptionKept t x seg none
    · exact .of_line (by simp)
  · split
    · exact .of_line (by simp)
    · exact .of_line rfl

theorem State.objectHeld_receptionKept (s : State) (t x seg : Nat) (m : Mark) :
    ReceptionKept s (s.objectHeld t x seg m) := by
  unfold State.objectHeld
  refine (s.endClaim_receptionKept t).trans (.of_line ?_)
  simp only
  split <;> simp

theorem State.takeObject_receptionKept (s : State) (t x edition number seg : Nat) (why : Reason) (r : PeerReport) :
    ReceptionKept s (s.takeObject t x edition number seg why r) := by
  refine .trans (t := s.fileReport x r) (.of_line rfl) ?_
  unfold State.takeObject
  simp only
  split
  · split
    · exact State.objectHeld_receptionKept _ t x seg _
    · exact State.objectHeld_receptionKept _ t x seg _
    · exact (State.endClaim_receptionKept _ t).trans (.of_line (by simp))
    · exact (State.endClaim_receptionKept _ t).trans (.of_line (by simp [State.objectEdition]))
  · exact State.lateObjection_receptionKept _ t x edition seg why

/-! ## An objection matched to the pending claim (R75 to R77) -/

theorem ClaimRecord.pending_of_matched {r : ClaimRecord} {number seg : Nat} (h : r.matched number seg = true) :
    r.state.isPending = true ∧ r.state ≠ .queuedR1 := by
  cases hs : r.state <;> simp_all [ClaimRecord.matched, ClaimState.isPending]

/-- The WITHDRAW of a claim whose round 1 was sent (R72). -/
theorem State.withdraw_on_queue {s : State} (t : Nat) {number seg : Nat} (h : s.claim.record.matched number seg = true)
    (hroom : s.line.tx.length < 24) :
    ∃ e ∈ (s.endClaim t).line.tx, e.dest = 255 ∧ e.content = .fixed (.withdraw s.claim.record.number) := by
  obtain ⟨hpending, hsent⟩ := ClaimRecord.pending_of_matched h
  rw [State.endClaim_tx_of_sent t hpending hsent hroom]
  exact ⟨_, List.mem_append_right _ (List.mem_singleton.2 rfl), rfl, rfl⟩

/-- After a matching HELD objection: the claim ended, BLOCKED where it was the claim's first segment, the cache told. -/
theorem State.objectHeld_spec {s : State} (t x seg : Nat) (m : Mark) (hpending : s.claim.record.state.isPending = true) :
    (s.objectHeld t x seg m).claim
        = (if s.claim.record.segs.head? = some seg then
            ((s.endClaim t).enterBlocked seg x).claim else s.claim.ended s.line.tx)
      ∧ (s.objectHeld t x seg m).line = (s.endClaim t).line
      ∧ (s.objectHeld t x seg m).cache = ((s.endClaim t).writeHolding seg x m .object []).cache := by
  have hended := State.endClaim_claim t hpending
  have hwritten : ((s.endClaim t).writeHolding seg x m .object []).claim = s.claim.ended s.line.tx := by
    rw [State.writeHolding_claim_of_not_blocked (ClaimRecord.blockedOn_of_state (by rw [hended]; nofun) _), hended]
  unfold State.objectHeld
  simp only
  split
  · exact ⟨by rw [State.enterBlocked, State.setClaim_claim, hwritten, State.enterBlocked, State.setClaim_claim, hended],
      by simp, by simp⟩
  · exact ⟨hwritten, by simp, rfl⟩

end Sys2Proof.Machine
end

section
/-! PROOFS. What an OBJECT does, case by case (R75 to R79, R83, R103, R121). -/

-- One declaration at a time: side by side they need more threads than the check's memory holds.
set_option Elab.async false

namespace Sys2Proof.Machine

open Sys2Proof.Safety

/-! ## Which objection it is -/

theorem Reason.heldMark_of_held {why : Reason} (h : why = .heldReserved ∨ why = .heldOccupied) :
    why.heldMark = some (if why = .heldReserved then .reserved else .occupied) := by
  obtain rfl | rfl := h <;> rfl

theorem State.takeObject_of_matched_held {s : State} (t x edition : Nat) {number seg : Nat} {why : Reason} {m : Mark}
    (r : PeerReport) (h : s.claim.record.matched number seg = true) (hm : why.heldMark = some m) :
    s.takeObject t x edition number seg why r = (s.fileReport x r).objectHeld t x seg m := by
  have hmatched : (s.fileReport x r).claim.record.matched number seg = true := h
  cases why <;> cases hm <;> simp only [State.takeObject, hmatched, if_true]

theorem State.takeObject_of_matched_precedence {s : State} (t x edition : Nat) {number seg : Nat} (r : PeerReport)
    (h : s.claim.record.matched number seg = true) :
    s.takeObject t x edition number seg .precedence r
      = ((s.fileReport x r).endClaim t).enterContested seg ⟨x, none⟩ :=
  if_pos h

theorem State.takeObject_of_matched_edition {s : State} (t x edition : Nat) {number seg : Nat} (r : PeerReport)
    (h : s.claim.record.matched number seg = true) :
    s.takeObject t x edition number seg .edition r = (s.fileReport x r).objectEdition t x edition :=
  if_pos h

theorem State.takeObject_of_late {s : State} (t x edition : Nat) {number seg : Nat} (why : Reason) (r : PeerReport)
    (h : s.claim.record.matched number seg = false) :
    s.takeObject t x edition number seg why r = (s.fileReport x r).lateObjection t x edition seg why :=
  if_neg (by rw [← Bool.not_eq_true] at h; exact h)

theorem State.lateObjection_of_reserved {s : State} (t x edition : Nat) {seg : Nat} {why : Reason} {m : Mark}
    (hm : why.heldMark = some m) (hown : markOf s.claim.held seg = some .reserved) :
    s.lateObjection t x edition seg why = s.lateReserved t x seg m := by
  simp only [State.lateObjection, hm, hown]

theorem State.lateObjection_of_occupied {s : State} (t x edition : Nat) {seg : Nat} {why : Reason} {m : Mark}
    (hm : why.heldMark = some m) (hown : markOf s.claim.held seg = some .occupied) :
    s.lateObjection t x edition seg why = s.holdConflict t x seg none := by
  simp only [State.lateObjection, hm, hown]

theorem State.lateObjection_of_free {s : State} (t x edition : Nat) {seg : Nat} {why : Reason} {m : Mark}
    (hm : why.heldMark = some m) (hown : markOf s.claim.held seg = none) :
    s.lateObjection t x edition seg why = s.lateOther x seg m := by
  simp only [State.lateObjection, hm, hown]

/-! ## The edition (R77, R97, R98) -/

theorem State.editionMismatch_of_marked {s : State} (t edition : Nat) {x : Nat} (h : x ∈ s.resp.editionMarks) :
    s.editionMismatch t x edition = s :=
  if_pos (List.contains_iff_mem.2 h)

theorem State.editionMismatch_queue {s : State} (t edition : Nat) {x : Nat} (h : x ∉ s.resp.editionMarks)
    (hroom : RoomFor s.notice .editionMismatch 1) :
    (s.editionMismatch t x edition).notice.queue
      = s.notice.queue
        ++ [{ Notice.plain .editionMismatch t with station := some x, detail := some edition }] := by
  rw [State.editionMismatch, if_neg (by rw [List.contains_iff_mem]; exact h),
    State.raise_queue (by simpa [Notice.plain] using hroom)]
  rfl

/-! ## A late objection to a RESERVED segment (R78) -/

/-- The segments given back: the objected one and every later one. -/
def State.objectedOn (s : State) (seg : Nat) : List Nat := seg :: afterSeg (heldSegs s.claim.held) seg

theorem State.lateReserved_held (s : State) (t x seg : Nat) (m : Mark) :
    (s.lateReserved t x seg m).claim.held = s.claim.held.filter (fun e => !(s.objectedOn seg).contains e.seg) := by
  simp only [State.lateReserved]
  rw [(State.newAuthority_reports _ t).2, (State.chooseExpected_frame _).2.2.2.2.2.2.1, State.endClaim_held,
    State.writeHolding_held, State.giveBack_claim]
  rfl

theorem State.lateReserved_reports (s : State) (t x seg : Nat) (m : Mark) :
    (s.lateReserved t x seg m).claim.reports = s.claim.reports := by
  simp only [State.lateReserved]
  rw [(State.newAuthority_reports _ t).1, (State.chooseExpected_frame _).2.2.2.2.2.2.1, State.endClaim_reports,
    State.writeHolding_reports, State.giveBack_claim]

theorem ClaimState.ne_blocked_of_isPending {x : ClaimState} (h : x.isPending = true) : x ≠ .blocked := by
  rintro rfl
  cases h

theorem State.lateReserved_idle {s : State} (t x seg : Nat) (m : Mark) (h : s.claim.record.state.isPending = true) :
    (s.lateReserved t x seg m).claim.record.state = .idle := by
  simp only [State.lateReserved]
  refine State.newAuthority_idle t ?_
  have hrecord : (s.giveBack t (seg :: afterSeg (heldSegs s.claim.held) seg)).claim.record = s.claim.record := by
    rw [State.giveBack_claim]
  have hwritten : ((s.giveBack t (seg :: afterSeg (heldSegs s.claim.held) seg)).writeHolding seg x m .object []).claim
      = (s.giveBack t (seg :: afterSeg (heldSegs s.claim.held) seg)).claim :=
    State.writeHolding_claim_of_not_blocked
      (ClaimRecord.blockedOn_of_state (by rw [hrecord]; exact ClaimState.ne_blocked_of_isPending h) _) x m .object []
  rw [(State.chooseExpected_frame _).2.2.2.2.2.2.1, State.endClaim_claim t (by rw [hwritten, hrecord]; exact h)]
  rfl

/-- The holding is recorded before the authority limit moves; a halt at it removes pins alone. -/
theorem State.lateReserved_cache {s : State} (hs : InOwnSets s.cache.ways) (t x seg : Nat) (m : Mark) :
    Recorded (s.lateReserved t x seg m).cache.ways seg x m .object
      ∨ ((∀ w ∈ s.cache.ways, w.2.seg ≠ seg)
        ∧ (s.lateReserved t x seg m).cache.full = min 65535 (s.cache.full + 1)) := by
  have hgiven (l : List Nat) : (s.giveBack t l).cache = s.cache := by simp
  simp only [State.lateReserved]
  generalize hgone : seg :: afterSeg (heldSegs s.claim.held) seg = gone
  have hwritten := State.writeHolding_recorded (s := s.giveBack t gone) (by rwa [hgiven]) seg x m .object []
  rw [hgiven] at hwritten
  generalize hmoved : ((s.giveBack t gone).writeHolding seg x m .object []).endClaim t = u
  have hu : u.chooseExpected.cache = ((s.giveBack t gone).writeHolding seg x m .object []).cache := by
    rw [← hmoved]; simp
  obtain hsame | ⟨tag, hunpin⟩ := (u.chooseExpected.newAuthority_claim t).2
  · rw [hsame, hu]
    exact hwritten.imp_right (fun ⟨hnone, hfull⟩ => ⟨hnone, by rw [hfull]⟩)
  · rw [hunpin, hu]
    exact hwritten.imp (fun h => h.unpin tag _) (fun ⟨hnone, hfull⟩ => ⟨hnone, by rw [PeerCache.unpin, hfull]⟩)

/-- The RELEASE of the segments given back is on the queue. -/
theorem State.lateReserved_release {s : State} (t x seg : Nat) (m : Mark) (hroom : s.line.tx.length < 24) :
    ∃ e ∈ (s.lateReserved t x seg m).line.tx, e.dest = 255 ∧ e.content = .fixed (.release (s.objectedOn seg)) := by
  have hgiven : (⟨255, .fixed (.release (s.objectedOn seg)), 0, false, false⟩ : TxEntry)
      ∈ (s.giveBack t (s.objectedOn seg)).line.tx := by
    rw [State.giveBack_of_ne_nil s t (by simp [State.objectedOn]), State.send_release t _ (by simpa using hroom),
      State.enqueue_tx]
    simp
  refine ⟨⟨255, .fixed (.release (s.objectedOn seg)), 0, false, false⟩, ?_, rfl, rfl⟩
  refine State.release_stays_on_newAuthority t ?_ rfl
  rw [(State.chooseExpected_frame _).2.2.2.2.2.1]
  exact State.release_stays_on_endClaim t (by simpa [State.objectedOn] using hgiven) rfl

/-- On a list without repetition the segments given back are the objected entry and those after it. -/
theorem State.objectedOn_of_split {s : State} {seg : Nat} {before after : List HeldEntry} {e : HeldEntry}
    (hsplit : s.claim.held = before ++ e :: after) (hseg : e.seg = seg) (hnodup : (heldSegs s.claim.held).Nodup) :
    s.objectedOn seg = heldSegs (e :: after)
      ∧ s.claim.held.filter (fun g => !(s.objectedOn seg).contains g.seg) = before := by
  have hsegs : heldSegs s.claim.held = heldSegs before ++ heldSegs (e :: after) := by
    rw [hsplit, heldSegs_append]
  rw [hsegs] at hnodup
  have hdisjoint := List.disjoint_of_nodup_append hnodup
  have hgone : s.objectedOn seg = heldSegs (e :: after) := by
    have hbefore : seg ∉ heldSegs before := fun h => hdisjoint h (by simp [heldSegs, hseg])
    have hlist : heldSegs (e :: after) = seg :: heldSegs after := by simp [heldSegs, hseg]
    rw [State.objectedOn, hsegs, hlist, afterSeg_append hbefore]
  refine ⟨hgone, ?_⟩
  rw [hgone, hsplit, List.filter_append, List.filter_eq_self.2, List.filter_eq_nil_iff.2, List.append_nil]
  · intro g hg
    have hin : g.seg ∈ heldSegs (e :: after) := List.mem_map_of_mem hg
    rw [List.contains_iff_mem.2 hin]
    decide
  · intro g hg
    have hout : g.seg ∉ heldSegs (e :: after) := hdisjoint (List.mem_map_of_mem hg)
    simpa using hout

/-! ## A late objection to a segment not held (R79, R83) -/

theorem State.lateOther_cache (s : State) (x seg : Nat) (m : Mark) :
    (s.lateOther x seg m).cache = (s.writeHolding seg x m .object []).cache := by
  simp only [State.lateOther]
  split <;> simp

theorem State.lateOther_reports (s : State) (x seg : Nat) (m : Mark) :
    (s.lateOther x seg m).claim.reports = s.claim.reports
      ∧ (s.lateOther x seg m).claim.held = s.claim.held := by
  simp only [State.lateOther]
  split
  · obtain ⟨-, hheld, -, hreports⟩ := State.enterBlocked_claim (s.writeHolding seg x m .object []) seg x
    rw [hheld, hreports, State.writeHolding_reports, State.writeHolding_held]
    exact ⟨rfl, rfl⟩
  · rw [State.writeHolding_reports, State.writeHolding_held]
    exact ⟨rfl, rfl⟩

/-- A wait on another segment, and no wait, stand. -/
theorem State.lateOther_of_elsewhere {s : State} (x : Nat) {seg : Nat} (m : Mark)
    (h : s.claim.record.waitSeg ≠ some seg) : (s.lateOther x seg m).claim.record = s.claim.record := by
  have hclaim := State.writeHolding_claim_of_not_blocked (ClaimRecord.blockedOn_of_seg h) x m .object []
  have hnot : ¬((s.writeHolding seg x m .object []).claim.record.state = .contested
      ∧ (s.writeHolding seg x m .object []).claim.record.waitSeg = some seg) := by
    rw [hclaim]
    exact fun hboth => h hboth.2
  have hlate : s.lateOther x seg m = s.writeHolding seg x m .object [] := if_neg hnot
  rw [hlate, hclaim]

/-- A CONTESTED wait on the segment becomes BLOCKED behind the objector. -/
theorem State.lateOther_of_contested {s : State} (x : Nat) {seg : Nat} (m : Mark)
    (hstate : s.claim.record.state = .contested) (hseg : s.claim.record.waitSeg = some seg) :
    (s.lateOther x seg m).claim.record
        = { s.claim.record.toIdle with state := .blocked, waitSeg := some seg, holder := some x }
      ∧ (s.lateOther x seg m).claim.peerWait = Table.find s.claim.reports x := by
  have hclaim := State.writeHolding_claim_of_not_blocked
    (ClaimRecord.blockedOn_of_state (by rw [hstate]; nofun) seg) x m .object []
  obtain ⟨hrecord, -, hpeer, -⟩ := State.enterBlocked_claim (s.writeHolding seg x m .object []) seg x
  have hyes : (s.writeHolding seg x m .object []).claim.record.state = .contested
      ∧ (s.writeHolding seg x m .object []).claim.record.waitSeg = some seg := by
    rw [hclaim]
    exact ⟨hstate, hseg⟩
  have hlate : s.lateOther x seg m = (s.writeHolding seg x m .object []).enterBlocked seg x := if_pos hyes
  rw [hlate, hrecord, hpeer, hclaim]
  exact ⟨rfl, rfl⟩

/-! ## Reports kept (R103) -/

theorem State.holdConflict_reports (s : State) (t x seg : Nat) (detail : Option Nat) :
    (s.holdConflict t x seg detail).claim.reports = s.claim.reports
      ∧ (s.holdConflict t x seg detail).claim.held = s.claim.held := by
  unfold State.holdConflict
  split
  · exact ⟨rfl, rfl⟩
  · exact State.haltWith_reports _ t _

theorem State.lateObjection_reports (s : State) (t x edition seg : Nat) (why : Reason) :
    (s.lateObjection t x edition seg why).claim.reports = s.claim.reports := by
  unfold State.lateObjection
  split
  · split
    · exact s.lateReserved_reports t x seg _
    · exact (s.holdConflict_reports t x seg none).1
    · exact (s.lateOther_reports x seg _).1
  · split
    · simp
    · rfl

theorem State.objectHeld_reports (s : State) (t x seg : Nat) (m : Mark) :
    (s.objectHeld t x seg m).claim.reports = s.claim.reports := by
  unfold State.objectHeld
  simp only
  split
  · rw [(State.enterBlocked_claim _ _ _).2.2.2, State.writeHolding_reports, State.endClaim_reports]
  · rw [State.writeHolding_reports, State.endClaim_reports]

theorem State.takeObject_reports (s : State) (t x edition number seg : Nat) (why : Reason) (r : PeerReport) :
    Table.find (s.takeObject t x edition number seg why r).claim.reports x = some r := by
  have hfiled := (s.fileReport_claim x r).2.2.2.2
  have hsame : (s.takeObject t x edition number seg why r).claim.reports = (s.fileReport x r).claim.reports := by
    unfold State.takeObject
    simp only
    split
    · split
      · exact State.objectHeld_reports _ t x seg _
      · exact State.objectHeld_reports _ t x seg _
      · rw [(State.enterContested_claim _ _ _).2.2.2, State.endClaim_reports]
      · simp only [State.objectEdition, State.setClaim_claim, State.editionMismatch_frame, State.endClaim_reports]
    · exact State.lateObjection_reports _ t x edition seg why
  rw [hsame, hfiled]

end Sys2Proof.Machine

namespace Sys2Proof.Proofs

open Sys2Proof.Machine Sys2Proof.Safety

/-- R75 to R77: an objection matched to the pending claim ends it with a WITHDRAW. -/
theorem matched_objection_withdraws (s : State) (t x edition number seg : Nat) (why : Reason) (r : PeerReport)
    (h : s.claim.record.matched number seg = true) :
    (s.takeObject t x edition number seg why r).claim.held = s.claim.held
      ∧ (s.takeObject t x edition number seg why r).claim.record.segs = []
      ∧ (s.takeObject t x edition number seg why r).claim.record.windowTimer = none
      ∧ (s.line.tx.length < 24 → ∃ e ∈ (s.takeObject t x edition number seg why r).line.tx,
          e.dest = 255 ∧ e.content = .fixed (.withdraw s.claim.record.number)) := by
  obtain ⟨hpending, -⟩ := ClaimRecord.pending_of_matched h
  have hended : ((s.fileReport x r).endClaim t).claim = (s.fileReport x r).claim.ended s.line.tx :=
    State.endClaim_claim t hpending
  have hqueue (hroom : s.line.tx.length < 24) := State.withdraw_on_queue (s := s.fileReport x r) t h hroom
  have hheld {m : Mark} (hm : why.heldMark = some m) :
      (s.takeObject t x edition number seg why r).claim.held = s.claim.held
        ∧ (s.takeObject t x edition number seg why r).claim.record.segs = []
        ∧ (s.takeObject t x edition number seg why r).claim.record.windowTimer = none
        ∧ (s.takeObject t x edition number seg why r).line = ((s.fileReport x r).endClaim t).line := by
    rw [State.takeObject_of_matched_held t x edition r h hm]
    obtain ⟨hclaim, hline, -⟩ := State.objectHeld_spec (s := s.fileReport x r) t x seg m hpending
    obtain ⟨hrecord, hheld, -, -⟩ := State.enterBlocked_claim ((s.fileReport x r).endClaim t) seg x
    rw [hclaim, hline]
    split
    · rw [hrecord, hheld, hended]
      exact ⟨rfl, rfl, rfl, rfl⟩
    · exact ⟨rfl, rfl, rfl, rfl⟩
  cases why with
  | heldReserved | heldOccupied =>
    obtain ⟨hheld, hsegs, htimer, hline⟩ := hheld rfl
    rw [hline]
    exact ⟨hheld, hsegs, htimer, hqueue⟩
  | precedence =>
    rw [State.takeObject_of_matched_precedence t x edition r h]
    obtain ⟨hrecord, hheld, -, -⟩ := State.enterContested_claim ((s.fileReport x r).endClaim t) seg ⟨x, none⟩
    rw [hrecord, hheld, hended, (State.enterContested_frame _ _ _).2.2.2.2.2.2.1]
    exact ⟨rfl, rfl, rfl, hqueue⟩
  | edition =>
    rw [State.takeObject_of_matched_edition t x edition r h]
    simp only [State.objectEdition, State.setClaim_claim, State.setClaim_line, State.editionMismatch_frame, hended]
    exact ⟨rfl, rfl, rfl, hqueue⟩

/-- R75, R121: a matching HELD objection. -/
theorem held_objection_matched (s : State) (t x seg : Nat) (m : Mark) (h : s.claim.record.state.isPending = true) :
    (s.claim.record.segs.head? = some seg →
        (s.objectHeld t x seg m).claim.record.state = .blocked ∧ (s.objectHeld t x seg m).claim.record.waitSeg = some seg
        ∧ (s.objectHeld t x seg m).claim.record.holder = some x
        ∧ (s.objectHeld t x seg m).claim.peerWait = Table.find s.claim.reports x)
      ∧ (s.claim.record.segs.head? ≠ some seg → (s.objectHeld t x seg m).claim.record.state = .idle)
      ∧ (InOwnSets s.cache.ways → Recorded (s.objectHeld t x seg m).cache.ways seg x m .object
          ∨ ((∀ w ∈ s.cache.ways, w.2.seg ≠ seg)
            ∧ (s.objectHeld t x seg m).cache.full = min 65535 (s.cache.full + 1))) := by
  obtain ⟨hclaim, -, hcache⟩ := State.objectHeld_spec t x seg m h
  refine ⟨fun hhead => ?_, fun hhead => ?_, fun hsets => ?_⟩
  · obtain ⟨hrecord, -, hpeer, -⟩ := State.enterBlocked_claim (s.endClaim t) seg x
    rw [hclaim, if_pos hhead, hrecord, hpeer, State.endClaim_reports]
    exact ⟨rfl, rfl, rfl, rfl⟩
  · rw [hclaim, if_neg hhead]
    rfl
  · have hended : (s.endClaim t).cache = s.cache := by simp
    have hwritten := State.writeHolding_recorded (s := s.endClaim t) (by rwa [hended]) seg x m .object []
    rw [hcache]
    rw [hended] at hwritten
    exact hwritten.imp_right (fun ⟨hnone, hfull⟩ => ⟨hnone, by rw [hfull]⟩)

end Sys2Proof.Proofs
end

section
/-! PROOFS. An OBJECT ends the claim it matches, or is taken as late (R75 to R79). -/

-- One declaration at a time: side by side they need more threads than the check's memory holds.
set_option Elab.async false

namespace Sys2Proof.Proofs

open Sys2Proof.Machine Sys2Proof.Safety

/-- R78: a late HELD objection to a RESERVED segment. -/
theorem late_objection_to_reserved (s : State) (t x seg : Nat) (m : Mark) :
    (∀ e ∈ (s.lateReserved t x seg m).claim.held, e ∈ s.claim.held)
      ∧ (∀ n ∈ s.objectedOn seg, n ∉ heldSegs (s.lateReserved t x seg m).claim.held)
      ∧ (∀ before e after, s.claim.held = before ++ e :: after → e.seg = seg → (heldSegs s.claim.held).Nodup →
          (s.lateReserved t x seg m).claim.held = before
          ∧ (s.line.tx.length < 24 → ∃ g ∈ (s.lateReserved t x seg m).line.tx,
              g.dest = 255 ∧ g.content = .fixed (.release (heldSegs (e :: after))))) := by
  rw [State.lateReserved_held]
  refine ⟨fun e he => (List.mem_filter.1 he).1, fun n hn hheld => ?_, fun before e after hsplit hseg hnodup => ?_⟩
  · obtain ⟨e, he, rfl⟩ := List.mem_map.1 hheld
    have hout := (List.mem_filter.1 he).2
    rw [List.contains_iff_mem.2 hn] at hout
    cases hout
  · obtain ⟨hgone, hkept⟩ := State.objectedOn_of_split hsplit hseg hnodup
    rw [← hgone]
    exact ⟨hkept, fun hroom => State.lateReserved_release t x seg m hroom⟩

/-- R79, R95, R96: a late HELD objection to an OCCUPIED segment with a new pair. -/
theorem late_objection_to_occupied (s : State) (t x seg : Nat) (h : s.resp.hasPair seg x = false) :
    (s.holdConflict t x seg none).resp = s.resp.addPair seg x
      ∧ (s.control.state ≠ .setup → (s.holdConflict t x seg none).control.state = .halted
          ∧ Cause.holdConflict ∈ (s.holdConflict t x seg none).control.causes)
      ∧ (s.notice.fault = none → ∃ r, (s.holdConflict t x seg none).notice.fault = some r ∧ r.kind = .holdConflict
          ∧ r.station = some x ∧ r.seg = some seg)
      ∧ (RoomFor s.notice .holdConflict 1 →
          { Notice.plain .holdConflict t with seg := some seg, station := some x }
            ∈ (s.holdConflict t x seg none).notice.queue)
      ∧ (s.orders.cancelMark = none → (s.holdConflict t x seg none).cache = s.cache) := by
  rw [State.holdConflict_of_new t none h]
  refine ⟨State.haltWith_resp _ _ _, fun hs => State.haltWith_control t _ hs, fun hfault => ?_, fun hroom => ?_,
    fun hmark => State.haltWith_cache_of_unmarked t _ hmark⟩
  · obtain ⟨r, hr, hkind, -, hseg, hstation, -⟩ := State.haltWith_fault
      (s := s.setResp (s.resp.addPair seg x)) t (holdConflictReport x seg none) hfault
    exact ⟨r, hr, hkind, hstation, hseg⟩
  · exact State.haltWith_notice (s := s.setResp (s.resp.addPair seg x)) t (holdConflictReport x seg none) hroom

/-- Settles O57: an objection is filed, then matched (R75 to R77) or taken as late (R78, R79), case by case. -/
theorem objectionsEndClaims : Obligations.ObjectionsEndClaims := by
  intro s f time number seg w u why rest hrx hbody
  refine ⟨_, exec_objectReceived hrx hbody, ?_⟩
  have hrest := State.popFrame_rx hrx
  obtain ⟨-, -, -, hcontrol, hparams, -, hclaim, hresp, hcache, -, horders, hlift, hnotice⟩ := s.popFrame_frame
  rw [← hcontrol, ← hparams, ← hclaim, ← hresp, ← hcache, ← horders, ← hlift, ← hnotice, ← s.popFrame_tx]
  clear hrx hcontrol hparams hclaim hresp hcache horders hlift hnotice
  generalize s.popFrame = v at *
  refine ⟨by rw [(State.takeObject_receptionKept _ _ _ _ _ _ _ _).1]; exact hrest, State.takeObject_reports _ _ _ _ _ _ _ _,
    by simp, fun hmatched => ?_, fun hlate => ?_⟩
  · obtain ⟨hpending, -⟩ := ClaimRecord.pending_of_matched hmatched
    obtain ⟨hheld, hsegs, htimer, hqueue⟩ :=
      matched_objection_withdraws v time f.source f.edition number seg why ⟨w, u⟩ hmatched
    refine ⟨hheld, hsegs, htimer, hqueue, fun hwhy => ?_, fun hwhy => ?_, fun hwhy => ?_⟩
    · rw [State.takeObject_of_matched_held _ _ _ _ hmatched (Reason.heldMark_of_held hwhy)]
      obtain ⟨hblocked, hidle, hwritten⟩ := held_objection_matched (v.fileReport f.source ⟨w, u⟩) time f.source seg
        (if why = .heldReserved then .reserved else .occupied) hpending
      rw [(v.fileReport_claim f.source ⟨w, u⟩).2.2.2.2] at hblocked
      exact ⟨hblocked, hidle, fun hsound => hwritten (inOwnSets_of_cacheSound hsound)⟩
    · rw [hwhy, State.takeObject_of_matched_precedence _ _ _ _ hmatched]
      obtain ⟨hrecord, -, -, -⟩ :=
        State.enterContested_claim ((v.fileReport f.source ⟨w, u⟩).endClaim time) seg ⟨f.source, none⟩
      rw [hrecord]
      exact ⟨rfl, rfl, rfl, by simp, by simp⟩
    · rw [hwhy, State.takeObject_of_matched_edition _ _ _ _ hmatched]
      have hended : ((v.fileReport f.source ⟨w, u⟩).endClaim time).claim = _ := State.endClaim_claim time hpending
      simp only [State.objectEdition, State.setClaim_claim, State.editionMismatch_frame, hended]
      exact ⟨rfl, by simp, by simp⟩
  · rw [State.takeObject_of_late _ _ _ _ _ hlate]
    obtain ⟨hrecord, hheld, -, hretry, hfiled⟩ := v.fileReport_claim f.source ⟨w, u⟩
    obtain ⟨-, -, -, hcontrol, -, -, hline, hresp, hcache, -, horders, -, -, hnotice⟩ :=
      v.fileReport_frame f.source ⟨w, u⟩
    rw [← hrecord, ← hheld, ← hretry, ← hcontrol, ← hline, ← hresp, ← hcache, ← horders, ← hnotice]
    clear hrecord hheld hretry hcontrol hline hresp hcache horders hnotice hlate hrest
    generalize v.fileReport f.source ⟨w, u⟩ = q at *
    refine ⟨fun hwhy => ?_, fun hwhy => ?_, fun hwhy => ?_⟩
    · have hm := Reason.heldMark_of_held hwhy
      refine ⟨fun hown => ?_, fun hown => ?_, fun hown hnew hmoving => ?_, fun hown hnew => ?_, fun hown hknown => ?_⟩
      · rw [State.lateObjection_of_reserved _ _ _ hm hown]
        obtain ⟨hsub, hout, hsplit⟩ := late_objection_to_reserved q time f.source seg
          (if why = .heldReserved then .reserved else .occupied)
        exact ⟨hsub, hout, hsplit, fun hpending => State.lateReserved_idle time f.source seg _ hpending,
          fun hsound => State.lateReserved_cache (inOwnSets_of_cacheSound hsound) time f.source seg _⟩
      · rw [State.lateObjection_of_free _ _ _ hm hown]
        refine ⟨(State.lateOther_reports _ _ _ _).2, by simp, by simp, by simp, fun hsound => ?_, fun helse => ?_,
          fun hstate hseg => ?_⟩
        · rw [State.lateOther_cache]
          exact State.writeHolding_recorded (inOwnSets_of_cacheSound hsound) seg f.source _ .object []
        · exact State.lateOther_of_elsewhere f.source _ helse
        · obtain ⟨hrecord, hpeer⟩ := State.lateOther_of_contested f.source
            (if why = .heldReserved then .reserved else .occupied) hstate hseg
          rw [hrecord, hpeer, hfiled]
          exact ⟨rfl, rfl, rfl, rfl, rfl⟩
      · rw [State.lateObjection_of_occupied _ _ _ hm hown]
        obtain ⟨-, hhalted, hfault, -, -⟩ := late_objection_to_occupied q time f.source seg hnew
        obtain ⟨hstate, hcause⟩ := hhalted (by
          obtain h | h := hmoving <;> rw [h] <;> nofun)
        exact ⟨(State.holdConflict_reports _ _ _ _ _).2, hstate, hcause, hfault⟩
      · rw [State.lateObjection_of_occupied _ _ _ hm hown]
        obtain ⟨hresp, -, -, hqueued, hcache⟩ :=
          late_objection_to_occupied q time f.source seg hnew
        exact ⟨(State.holdConflict_reports _ _ _ _ _).2, hresp, hqueued, hcache⟩
      · rw [State.lateObjection_of_occupied _ _ _ hm hown, State.holdConflict_of_known _ _ hknown]
        exact ⟨rfl, rfl, rfl, rfl, rfl, rfl, rfl⟩
    · rw [hwhy]
      exact ⟨rfl, rfl, rfl, rfl, rfl⟩
    · rw [hwhy]
      have hmismatch : q.lateObjection time f.source f.edition seg .edition
          = q.editionMismatch time f.source f.edition := rfl
      rw [hmismatch]
      refine ⟨by simp, by simp, by simp, by simp, by simp, by simp,
        State.mem_editionMismatch _ _ _ _, fun hmarked => ?_, fun hnew hroom => State.editionMismatch_queue _ _ hnew hroom⟩
      rw [State.editionMismatch_of_marked _ _ hmarked]
      exact ⟨rfl, rfl⟩

end Sys2Proof.Proofs
end

section
/-! PROOFS. The Lane Responder's part of a BEACON: the conflict checks, the omission check and the edition (R94 to R97). -/

-- One declaration at a time: side by side they need more threads than the check's memory holds.
set_option Elab.async false

namespace Sys2Proof.Machine

open Sys2Proof.Safety

/-! ## The conflict set under the checks (R94, R95) -/

/-- Whether a listed segment makes a new pair: it is on the own held list and its pair is not in the set. -/
def LaneResponder.newPair (u : LaneResponder) (x : Nat) (own : List HeldEntry) (e : HeldEntry) : Bool :=
  decide (e.seg ∈ heldSegs own) && !u.hasPair e.seg x

/-- The responder after the check of one listed segment, and after those of several. -/
def LaneResponder.checked (u : LaneResponder) (x : Nat) (own : List HeldEntry) (e : HeldEntry) : LaneResponder :=
  if u.newPair x own e then u.addPair e.seg x else u

def LaneResponder.checkedAll (u : LaneResponder) (x : Nat) (own listed : List HeldEntry) : LaneResponder :=
  listed.foldl (fun u e => u.checked x own e) u

theorem LaneResponder.hasPair_iff (u : LaneResponder) (seg x : Nat) : u.hasPair seg x = true ↔ ⟨seg, x⟩ ∈ u.conflicts := by
  simp [LaneResponder.hasPair]

/-- What one more pair does: it joins the set, or the set is full and the overflow mark is set. -/
theorem LaneResponder.addPair_cases (u : LaneResponder) (seg x : Nat) :
    (u.conflicts.length < 32 ∧ u.addPair seg x = { u with conflicts := u.conflicts ++ [⟨seg, x⟩] })
      ∨ (32 ≤ u.conflicts.length ∧ u.addPair seg x = { u with overflow := true }) := by
  by_cases h : u.conflicts.length < 32
  · exact .inl ⟨h, if_pos h⟩
  · exact .inr ⟨by omega, if_neg h⟩

/-- What the checks make of the responder `u`: the set grows, by pairs of the beacon's station and held segments alone. -/
structure PairsAdded (x : Nat) (own listed : List HeldEntry) (u v : LaneResponder) : Prop where
  kept : ∀ p ∈ u.conflicts, p ∈ v.conflicts
  added : ∀ p ∈ v.conflicts, p ∈ u.conflicts
    ∨ (p.station = x ∧ p.seg ∈ heldSegs listed ∧ p.seg ∈ heldSegs own)
  overflow : u.overflow = true → v.overflow = true
  marks : v.editionMarks = u.editionMarks
  full : 32 ≤ u.conflicts.length → v.conflicts = u.conflicts

theorem PairsAdded.checked (u : LaneResponder) (x : Nat) (own : List HeldEntry) (e : HeldEntry) (rest : List HeldEntry) :
    PairsAdded x own (e :: rest) u (u.checked x own e) := by
  have hsame : PairsAdded x own (e :: rest) u u := ⟨fun _ h => h, fun _ h => .inl h, id, rfl, fun _ => rfl⟩
  unfold LaneResponder.checked
  split
  next hnew =>
    have hseg : e.seg ∈ heldSegs own := by
      simp only [LaneResponder.newPair, Bool.and_eq_true, decide_eq_true_eq] at hnew
      exact hnew.1
    obtain ⟨hlen, hadd⟩ | ⟨hlen, hadd⟩ := u.addPair_cases e.seg x
    · rw [hadd]
      refine ⟨fun p hp => List.mem_append_left _ hp, fun p hp => ?_, id, rfl, fun h => by omega⟩
      obtain hp | hp := List.mem_append.1 hp
      · exact .inl hp
      · rw [List.mem_singleton.1 hp]
        exact .inr ⟨rfl, by simp [heldSegs], hseg⟩
    · rw [hadd]
      exact ⟨fun _ h => h, fun _ h => .inl h, fun _ => rfl, rfl, fun _ => rfl⟩
  · exact hsame

theorem pairsAdded_checkedAll (u : LaneResponder) (x : Nat) (own listed : List HeldEntry) :
    PairsAdded x own listed u (u.checkedAll x own listed) := by
  induction listed generalizing u with
  | nil => exact ⟨fun _ h => h, fun _ h => .inl h, id, rfl, fun _ => rfl⟩
  | cons e rest ih =>
    obtain ⟨hkept, hadded, hover, hmarks, hfull⟩ := PairsAdded.checked u x own e rest
    obtain ⟨gkept, gadded, gover, gmarks, gfull⟩ := ih (u.checked x own e)
    refine ⟨fun p hp => gkept p (hkept p hp), fun p hp => ?_, fun h => gover (hover h), gmarks.trans hmarks, fun h => ?_⟩
    · obtain hp | ⟨hstation, hlisted, hown⟩ := gadded p hp
      · exact hadded p hp
      · exact .inr ⟨hstation, by simp only [heldSegs, List.map_cons, List.mem_cons] at hlisted ⊢; exact .inr hlisted, hown⟩
    · exact (gfull (by rw [hfull h]; exact h)).trans (hfull h)

/-- A listed segment of the held list has its pair in the set, or the set has overflowed. -/
theorem pair_checkedAll (u : LaneResponder) (x : Nat) {own listed : List HeldEntry} {e : HeldEntry} (he : e ∈ listed)
    (hown : e.seg ∈ heldSegs own) :
    ⟨e.seg, x⟩ ∈ (u.checkedAll x own listed).conflicts ∨ (u.checkedAll x own listed).overflow = true := by
  induction listed generalizing u with
  | nil => cases he
  | cons g rest ih =>
    obtain ⟨hkept, -, hover, -, -⟩ := pairsAdded_checkedAll (u.checked x own g) x own rest
    obtain rfl | he := List.mem_cons.1 he
    · have hnow : ⟨e.seg, x⟩ ∈ (u.checked x own e).conflicts ∨ (u.checked x own e).overflow = true := by
        cases hpair : u.hasPair e.seg x with
        | true =>
          have hsame : u.checked x own e = u := by simp [LaneResponder.checked, LaneResponder.newPair, hpair]
          exact .inl (by rw [hsame]; exact (u.hasPair_iff _ _).1 hpair)
        | false =>
          have hadd : u.checked x own e = u.addPair e.seg x := by
            simp [LaneResponder.checked, LaneResponder.newPair, hpair, hown]
          rw [hadd]
          obtain ⟨-, h⟩ | ⟨-, h⟩ := u.addPair_cases e.seg x <;> rw [h] <;> simp
      exact hnow.imp (hkept _) hover
    · exact ih _ he

/-- With room for all of them every listed segment of the held list has its pair in the set. -/
theorem pair_checkedAll_of_room (u : LaneResponder) (x : Nat) {own listed : List HeldEntry} {e : HeldEntry} (he : e ∈ listed)
    (hown : e.seg ∈ heldSegs own) (hroom : u.conflicts.length + listed.length ≤ 32) :
    ⟨e.seg, x⟩ ∈ (u.checkedAll x own listed).conflicts := by
  induction listed generalizing u with
  | nil => cases he
  | cons g rest ih =>
    rw [List.length_cons] at hroom
    have hstep : (u.checked x own g).conflicts.length ≤ u.conflicts.length + 1
        ∧ (g.seg ∈ heldSegs own → ⟨g.seg, x⟩ ∈ (u.checked x own g).conflicts) := by
      have hlt : u.conflicts.length < 32 := by omega
      cases hpair : u.hasPair g.seg x with
      | true =>
        have hsame : u.checked x own g = u := by simp [LaneResponder.checked, LaneResponder.newPair, hpair]
        rw [hsame]
        exact ⟨by omega, fun _ => (u.hasPair_iff _ _).1 hpair⟩
      | false =>
        have hadd : u.addPair g.seg x = { u with conflicts := u.conflicts ++ [⟨g.seg, x⟩] } := if_pos hlt
        by_cases hg : g.seg ∈ heldSegs own
        · have hchecked : u.checked x own g = u.addPair g.seg x := by
            simp [LaneResponder.checked, LaneResponder.newPair, hpair, hg]
          rw [hchecked, hadd]
          exact ⟨by simp, fun _ => by simp⟩
        · have hsame : u.checked x own g = u := by simp [LaneResponder.checked, LaneResponder.newPair, hg]
          rw [hsame]
          exact ⟨by omega, fun h => absurd h hg⟩
    obtain rfl | he := List.mem_cons.1 he
    · exact (pairsAdded_checkedAll (u.checked x own e) x own rest).kept _ (hstep.2 hown)
    · exact ih (u.checked x own g) he (by omega)

/-- A new pair that finds the set full sets the overflow mark. -/
theorem overflow_checkedAll (u : LaneResponder) (x : Nat) {own listed : List HeldEntry} {e : HeldEntry} (he : e ∈ listed)
    (hown : e.seg ∈ heldSegs own) (hnew : u.hasPair e.seg x = false) (hfull : 32 ≤ u.conflicts.length) :
    (u.checkedAll x own listed).overflow = true := by
  refine (pair_checkedAll u x he hown).resolve_left fun hpair => ?_
  rw [(pairsAdded_checkedAll u x own listed).full hfull, ← LaneResponder.hasPair_iff, hnew] at hpair
  cases hpair

/-! ## The checks on the state (R94, R96) -/

/-- The state after the conflict checks of the listed segments. -/
def State.conflictChecks (s : State) (t x : Nat) (own listed : List HeldEntry) : State :=
  listed.foldl (fun s e => s.conflictCheck t x own e) s

theorem State.conflictChecks_cons (s : State) (t x : Nat) (own : List HeldEntry) (e : HeldEntry) (rest : List HeldEntry) :
    s.conflictChecks t x own (e :: rest) = (s.conflictCheck t x own e).conflictChecks t x own rest := rfl

theorem State.conflictChecks_append (s : State) (t x : Nat) (own before after : List HeldEntry) :
    s.conflictChecks t x own (before ++ after) = (s.conflictChecks t x own before).conflictChecks t x own after :=
  List.foldl_append

theorem markOf_of_held {held : List HeldEntry} {seg : Nat} (h : seg ∈ heldSegs held) : ∃ m, markOf held seg = some m := by
  cases hm : markOf held seg with
  | some m => exact ⟨m, rfl⟩
  | none => exact absurd h (TrackKept.not_held_of_markOf hm)

theorem held_of_markOf {held : List HeldEntry} {seg : Nat} {m : Mark} (h : markOf held seg = some m) : seg ∈ heldSegs held := by
  obtain ⟨e, he, -⟩ := Option.map_eq_some_iff.1 h
  exact List.mem_map.2 ⟨e, List.mem_of_find?_eq_some he, by simpa using List.find?_some he⟩

theorem State.conflictCheck_of_quiet {s : State} (t : Nat) {x : Nat} {own : List HeldEntry} {e : HeldEntry}
    (h : s.resp.newPair x own e = false) : s.conflictCheck t x own e = s := by
  unfold State.conflictCheck
  split
  · rfl
  next m hm =>
    refine State.holdConflict_of_known t _ ?_
    simpa [LaneResponder.newPair, held_of_markOf hm] using h

/-- The report of a new pair names both marks (R96). -/
theorem State.conflictCheck_of_new {s : State} (t : Nat) {x : Nat} {own : List HeldEntry} {e : HeldEntry} {m : Mark}
    (h : s.resp.newPair x own e = true) (hm : markOf own e.seg = some m) :
    s.conflictCheck t x own e
      = (s.setResp (s.resp.addPair e.seg x)).haltWith t
          (holdConflictReport x e.seg (some (pairDetail m.code e.mark.code))) := by
  simp only [LaneResponder.newPair, Bool.and_eq_true, Bool.not_eq_true'] at h
  simp only [State.conflictCheck, hm]
  exact State.holdConflict_of_new t _ h.2

/-- A check does nothing, or it is a new pair's. -/
theorem State.conflictCheck_cases (s : State) (t x : Nat) (own : List HeldEntry) (e : HeldEntry) :
    (s.resp.newPair x own e = false ∧ s.conflictCheck t x own e = s)
      ∨ (s.resp.newPair x own e = true ∧ ∃ m, markOf own e.seg = some m ∧ s.conflictCheck t x own e
          = (s.setResp (s.resp.addPair e.seg x)).haltWith t
              (holdConflictReport x e.seg (some (pairDetail m.code e.mark.code)))) := by
  cases h : s.resp.newPair x own e with
  | false => exact .inl ⟨rfl, State.conflictCheck_of_quiet t h⟩
  | true =>
    have hown : e.seg ∈ heldSegs own := by
      simp only [LaneResponder.newPair, Bool.and_eq_true, decide_eq_true_eq] at h
      exact h.1
    obtain ⟨m, hm⟩ := markOf_of_held hown
    exact .inr ⟨rfl, m, hm, State.conflictCheck_of_new t h hm⟩

theorem State.conflictCheck_resp (s : State) (t x : Nat) (own : List HeldEntry) (e : HeldEntry) :
    (s.conflictCheck t x own e).resp = s.resp.checked x own e := by
  obtain ⟨h, heq⟩ | ⟨h, m, -, heq⟩ := s.conflictCheck_cases t x own e
  · rw [heq, LaneResponder.checked, if_neg (by rw [h]; decide)]
  · rw [heq, LaneResponder.checked, if_pos h, State.haltWith_resp, State.setResp_resp]

theorem State.conflictChecks_resp (s : State) (t x : Nat) (own listed : List HeldEntry) :
    (s.conflictChecks t x own listed).resp = s.resp.checkedAll x own listed := by
  induction listed generalizing s with
  | nil => rfl
  | cons e rest ih =>
    rw [State.conflictChecks_cons, ih, State.conflictCheck_resp]
    rfl

/-! ## What the checks leave -/

/-- The Claim Engine but for the end of the claim or wait in hand. -/
structure ClaimStays (s t : State) : Prop where
  held : t.claim.held = s.claim.held
  reports : t.claim.reports = s.claim.reports
  record : t.claim.record = s.claim.record ∨ t.claim.record = s.claim.record.toIdle

namespace ClaimStays

variable {s t u : State}

theorem of_claim (h : t.claim = s.claim) : ClaimStays s t := ⟨by rw [h], by rw [h], .inl (by rw [h])⟩

theorem of_idle (h : t.claim = s.claim.idle) : ClaimStays s t := ⟨by rw [h]; rfl, by rw [h]; rfl, .inr (by rw [h]; rfl)⟩

theorem trans (h : ClaimStays s t) (g : ClaimStays t u) : ClaimStays s u := by
  refine ⟨g.held.trans h.held, g.reports.trans h.reports, ?_⟩
  obtain h | h := h.record <;> obtain g | g := g.record
  · exact .inl (g.trans h)
  · exact .inr (by rw [g, h])
  · exact .inr (g.trans h)
  · exact .inr (by rw [g, h]; rfl)

theorem foldl {α : Type} {f : State → α → State} (h : ∀ s a, ClaimStays s (f s a)) (l : List α) (s : State) :
    ClaimStays s (l.foldl f s) := by
  induction l generalizing s with
  | nil => exact .of_claim rfl
  | cons a l ih => exact (h s a).trans (ih _)

end ClaimStays

theorem ReceptionKept.foldl {α : Type} {f : State → α → State} (h : ∀ s a, ReceptionKept s (f s a)) (l : List α) (s : State) :
    ReceptionKept s (l.foldl f s) := by
  induction l generalizing s with
  | nil => exact .of_line rfl
  | cons a l ih => exact (h s a).trans (ih _)

theorem State.haltWith_claimStays (s : State) (t : Nat) (r : HaltReport) : ClaimStays s (s.haltWith t r) := by
  obtain h | h := (s.haltWith_claim t r).1
  · exact .of_claim h
  · exact ⟨by rw [h]; rfl, by rw [h]; rfl, .inr (by rw [h]; rfl)⟩

theorem State.conflictCheck_claimStays (s : State) (t x : Nat) (own : List HeldEntry) (e : HeldEntry) :
    ClaimStays s (s.conflictCheck t x own e) := by
  obtain ⟨-, heq⟩ | ⟨-, m, -, heq⟩ := s.conflictCheck_cases t x own e <;> rw [heq]
  · exact .of_claim rfl
  · exact (ClaimStays.of_claim (s := s) (t := s.setResp (s.resp.addPair e.seg x)) rfl).trans (State.haltWith_claimStays _ t _)

theorem State.conflictCheck_receptionKept (s : State) (t x : Nat) (own : List HeldEntry) (e : HeldEntry) :
    ReceptionKept s (s.conflictCheck t x own e) := by
  obtain ⟨-, heq⟩ | ⟨-, m, -, heq⟩ := s.conflictCheck_cases t x own e <;> rw [heq]
  · exact .of_line rfl
  · exact State.haltWith_receptionKept (s.setResp (s.resp.addPair e.seg x)) t _

theorem State.conflictChecks_centre (s : State) (t x : Nat) (own listed : List HeldEntry) :
    (s.conflictChecks t x own listed).pos.centre = s.pos.centre := by
  refine foldl_keeps (fun s : State => s.pos.centre) _ (fun s e => ?_) listed s
  obtain ⟨-, heq⟩ | ⟨-, m, -, heq⟩ := s.conflictCheck_cases t x own e
  · simp only [heq]
  · simp only [heq]
    exact (State.haltWith_bodyKept (s.setResp (s.resp.addPair e.seg x)) t _).2.1

/-- Without a segment of the held list the checks do nothing. -/
theorem State.conflictChecks_of_none {s : State} (t x : Nat) {own listed : List HeldEntry}
    (h : ∀ e ∈ listed, e.seg ∉ heldSegs own) : s.conflictChecks t x own listed = s := by
  induction listed generalizing s with
  | nil => rfl
  | cons e rest ih =>
    have hquiet : s.resp.newPair x own e = false := by
      simp [LaneResponder.newPair, h e (by simp)]
    rw [State.conflictChecks_cons, State.conflictCheck_of_quiet t hquiet]
    exact ih fun g hg => h g (by simp [hg])

/-! ## The halt of a new pair (R26, R96) -/

/-- Outside SETUP a new pair leaves the station in HALTED with the cause. -/
theorem State.conflictChecks_halts {s : State} (t x : Nat) {own listed : List HeldEntry} (hs : s.control.state ≠ .setup)
    (h : (s.control.state = .halted ∧ Cause.holdConflict ∈ s.control.causes) ∨ ∃ e ∈ listed, s.resp.newPair x own e = true) :
    (s.conflictChecks t x own listed).control.state = .halted
      ∧ Cause.holdConflict ∈ (s.conflictChecks t x own listed).control.causes := by
  induction listed generalizing s with
  | nil =>
    obtain h | ⟨e, he, -⟩ := h
    · exact h
    · cases he
  | cons g rest ih =>
    rw [State.conflictChecks_cons]
    obtain ⟨hquiet, heq⟩ | ⟨-, m, -, heq⟩ := s.conflictCheck_cases t x own g
    · rw [heq]
      refine ih hs (h.imp_right fun ⟨e, he, hnew⟩ => ⟨e, (List.mem_cons.1 he).resolve_left ?_, hnew⟩)
      rintro rfl
      rw [hquiet] at hnew
      cases hnew
    · rw [heq]
      have hhalted := State.haltWith_control (s := s.setResp (s.resp.addPair g.seg x)) t
        (holdConflictReport x g.seg (some (pairDetail m.code g.mark.code))) hs
      exact ih (by rw [hhalted.1]; nofun) (.inl hhalted)

/-! ## The notices of the checks -/

theorem State.haltWith_added_of_standing {s : State} (t : Nat) (r : HaltReport) (hr : r.notice ≠ .drift)
    (hs : s.control.state = .halted ∨ s.control.state = .setup) :
    NoticesAdded 1 s (s.haltWith t r)
      ∧ ((s.haltWith t r).control.state = .halted ∨ (s.haltWith t r).control.state = .setup) := by
  have hraised : NoticesAdded 1 s ((s.raise { Notice.plain r.notice t with
      seg := r.seg, station := r.station, detail := r.detail }).offerFault
        { kind := r.fault, time := t, station := r.station, seg := r.seg, detail := r.faultDetail }) :=
    (State.raise_added s _ (by simpa [Notice.plain] using hr)).trans (State.offerFault_added _ _)
  unfold State.haltWith
  obtain hs | hs := hs <;> simp only [State.halt, State.offerFault_frame, State.raise_frame, hs]
  · exact ⟨hraised.then_same rfl, .inl (by simpa [State.addCause] using hs)⟩
  · exact ⟨hraised, .inr (by simp)⟩

theorem State.haltWith_added (s : State) (t : Nat) (r : HaltReport) (hr : r.notice ≠ .drift) :
    NoticesAdded 4 s (s.haltWith t r) :=
  ((State.raise_added s _ (by simpa [Notice.plain] using hr)).trans
    ((State.offerFault_added _ _).trans (State.halt_added _ t r.cause)))

/-- In HALTED and SETUP each check raises one notice at most. -/
theorem State.conflictChecks_added_of_standing {s : State} (t x : Nat) (own listed : List HeldEntry)
    (hs : s.control.state = .halted ∨ s.control.state = .setup) :
    NoticesAdded listed.length s (s.conflictChecks t x own listed) := by
  induction listed generalizing s with
  | nil => exact .of_same 0 rfl
  | cons g rest ih =>
    rw [State.conflictChecks_cons, List.length_cons]
    obtain ⟨-, heq⟩ | ⟨-, m, -, heq⟩ := s.conflictCheck_cases t x own g <;> rw [heq]
    · exact (ih hs).mono (by omega)
    · obtain ⟨hadded, hstands⟩ := State.haltWith_added_of_standing (s := s.setResp (s.resp.addPair g.seg x)) t
        (holdConflictReport x g.seg (some (pairDetail m.code g.mark.code))) nofun hs
      refine NoticesAdded.mono (k := 1 + rest.length) ?_ (by omega)
      exact (hadded.after_same (s := s) rfl).trans (ih hstands)

/-- The first halt adds three notices to one for each check. -/
theorem State.conflictChecks_added (s : State) (t x : Nat) (own listed : List HeldEntry) :
    NoticesAdded (listed.length + 3) s (s.conflictChecks t x own listed) := by
  by_cases hs : s.control.state = .halted ∨ s.control.state = .setup
  · exact (State.conflictChecks_added_of_standing t x own listed hs).mono (by omega)
  induction listed generalizing s with
  | nil => exact .of_same _ rfl
  | cons g rest ih =>
    rw [State.conflictChecks_cons, List.length_cons]
    obtain ⟨-, heq⟩ | ⟨-, m, -, heq⟩ := s.conflictCheck_cases t x own g <;> rw [heq]
    · exact (ih s hs).mono (by omega)
    · have hhalted := State.haltWith_control (s := s.setResp (s.resp.addPair g.seg x)) t
        (holdConflictReport x g.seg (some (pairDetail m.code g.mark.code))) (fun h => hs (.inr h))
      have hadded := State.haltWith_added (s.setResp (s.resp.addPair g.seg x)) t
        (holdConflictReport x g.seg (some (pairDetail m.code g.mark.code))) nofun
      refine NoticesAdded.mono (k := 4 + rest.length) ?_ (by omega)
      exact (hadded.after_same (s := s) rfl).trans (State.conflictChecks_added_of_standing t x own rest (.inl hhalted.1))

/-- The notice of a listed segment's new pair is queued where there is room for all of them. -/
theorem State.conflictChecks_notice {s : State} (t x : Nat) {own listed : List HeldEntry} {e : HeldEntry} {m : Mark}
    (he : e ∈ listed) (hnodup : (heldSegs listed).Nodup) (hm : markOf own e.seg = some m)
    (hnew : s.resp.hasPair e.seg x = false) (hroom : RoomFor s.notice .holdConflict (listed.length + 4)) :
    { Notice.plain .holdConflict t with
        seg := some e.seg, station := some x, detail := some (pairDetail m.code e.mark.code) }
      ∈ (s.conflictChecks t x own listed).notice.queue := by
  obtain ⟨before, after, rfl⟩ := List.append_of_mem he
  rw [List.length_append, List.length_cons] at hroom
  have hstill : (s.conflictChecks t x own before).resp.newPair x own e = true := by
    have hout : e.seg ∉ heldSegs before := fun h => by
      rw [heldSegs_append] at hnodup
      exact List.disjoint_of_nodup_append hnodup h (by simp [heldSegs])
    rw [LaneResponder.newPair, decide_eq_true (held_of_markOf hm), Bool.true_and, Bool.not_eq_true', ← Bool.not_eq_true,
      LaneResponder.hasPair_iff, State.conflictChecks_resp]
    intro hpair
    obtain hold | ⟨-, hlisted, -⟩ := (pairsAdded_checkedAll s.resp x own before).added _ hpair
    · rw [← LaneResponder.hasPair_iff, hnew] at hold
      cases hold
    · exact hout hlisted
  have hroom' := (s.conflictChecks_added t x own before).room (m := 1) (x := .holdConflict)
    ⟨hroom.1, by have := hroom.2; omega⟩
  have hraised := State.haltWith_notice
    (s := (s.conflictChecks t x own before).setResp ((s.conflictChecks t x own before).resp.addPair e.seg x)) t
    (holdConflictReport x e.seg (some (pairDetail m.code e.mark.code))) hroom'
  rw [State.conflictChecks_append, State.conflictChecks_cons]
  refine (State.conflictChecks_added _ t x own after).mem ?_
  rw [State.conflictCheck_of_new t hstill hm]
  exact hraised

/-- An empty Fault Record captures the first new pair, the segment and the station alone (R96, R191). -/
theorem State.conflictChecks_fault {s : State} (t x : Nat) {own listed : List HeldEntry} {e : HeldEntry}
    (hfirst : listed.find? (s.resp.newPair x own) = some e) (hfault : s.notice.fault = none) :
    ∃ r, (s.conflictChecks t x own listed).notice.fault = some r ∧ r.kind = .holdConflict ∧ r.time = t
      ∧ r.seg = some e.seg ∧ r.station = some x ∧ r.detail = none := by
  induction listed with
  | nil => cases hfirst
  | cons g rest ih =>
    rw [State.conflictChecks_cons]
    obtain ⟨hquiet, heq⟩ | ⟨hnew, m, -, heq⟩ := s.conflictCheck_cases t x own g <;> rw [heq]
    · rw [List.find?_cons_of_neg (by rw [hquiet]; decide)] at hfirst
      exact ih hfirst
    · rw [List.find?_cons_of_pos hnew] at hfirst
      cases hfirst
      obtain ⟨r, hr, hkind, htime, hseg, hstation, hdetail⟩ := State.haltWith_fault
        (s := s.setResp (s.resp.addPair e.seg x)) t
        (holdConflictReport x e.seg (some (pairDetail m.code e.mark.code))) hfault
      obtain ⟨q, hq, qkind, qtime, -, -, -, qstation, qseg, qdetail⟩ :=
        (State.conflictChecks_added ((s.setResp (s.resp.addPair e.seg x)).haltWith t
          (holdConflictReport x e.seg (some (pairDetail m.code e.mark.code)))) t x own rest).fault r hr
      exact ⟨q, hq, qkind.trans hkind, qtime.trans htime, qseg.trans hseg, qstation.trans hstation, qdetail.trans hdetail⟩

end Sys2Proof.Machine
end

section
/-! PROOFS. What the Lane Responder makes of a BEACON (R94 to R97), and the cache's part of a BEACON and of a RELEASE (R117 to
R120). -/

-- One declaration at a time: side by side they need more threads than the check's memory holds.
set_option Elab.async false

namespace Sys2Proof.Machine

open Sys2Proof.Safety

/-! ## The omission check and the edition (R94, R95, R97) -/

/-- The conflict set without the pairs of `x` whose segment is not listed. -/
def LaneResponder.withoutOmitted (u : LaneResponder) (x : Nat) (listed : List Nat) : LaneResponder :=
  { u with conflicts := u.conflicts.filter (fun p => !(p.station == x && !listed.contains p.seg)) }

theorem LaneResponder.mem_withoutOmitted {u : LaneResponder} {x : Nat} {listed : List Nat} {p : ConflictPair} :
    p ∈ (u.withoutOmitted x listed).conflicts ↔ p ∈ u.conflicts ∧ (p.station = x → p.seg ∈ listed) := by
  rw [LaneResponder.withoutOmitted, List.mem_filter]
  refine and_congr_right fun _ => ?_
  simp only [Bool.not_eq_true', Bool.and_eq_false_iff, beq_eq_false_iff_ne, Bool.not_eq_false', List.contains_iff_mem]
  exact imp_iff_not_or.symm

theorem State.omissionCheck_resp (s : State) (x : Nat) (listed : List Nat) :
    (s.omissionCheck x listed).resp = s.resp.withoutOmitted x listed := by
  simp [State.omissionCheck, LaneResponder.withoutOmitted]

/-- A pair that stays, or the overflow mark, keeps the halting causes as they are (R95). -/
theorem State.omissionCheck_control {s : State} {x : Nat} {listed : List Nat}
    (h : (∃ p, p ∈ (s.resp.withoutOmitted x listed).conflicts) ∨ s.resp.overflow = true) :
    (s.omissionCheck x listed).control = s.control := by
  have hkeep : ((s.resp.withoutOmitted x listed).conflicts.isEmpty && !s.resp.overflow) = false := by
    obtain ⟨p, hp⟩ | hover := h
    · rw [List.isEmpty_eq_false_iff.2 (List.ne_nil_of_mem hp), Bool.false_and]
    · rw [hover, Bool.not_true, Bool.and_false]
  have hsame : s.omissionCheck x listed = s.setResp (s.resp.withoutOmitted x listed) :=
    if_neg (by rw [← Bool.not_eq_true] at hkeep; exact hkeep)
  rw [hsame, State.setResp_control]

/-- The Lane Responder's part of a BEACON before the edition is compared. -/
def State.conflictsSettled (s : State) (t x : Nat) (listed : List HeldEntry) : State :=
  (s.conflictChecks t x s.claim.held listed).omissionCheck x (heldSegs listed)

theorem State.responderBeacon_eq (s : State) (t x edition : Nat) (listed : List HeldEntry) :
    s.responderBeacon t x edition listed
      = if edition = s.pos.edition then s.conflictsSettled t x listed
        else (s.conflictsSettled t x listed).editionMismatch t x edition := rfl

theorem State.conflictsSettled_resp (s : State) (t x : Nat) (listed : List HeldEntry) :
    (s.conflictsSettled t x listed).resp
      = (s.resp.checkedAll x s.claim.held listed).withoutOmitted x (heldSegs listed) := by
  rw [State.conflictsSettled, State.omissionCheck_resp, State.conflictChecks_resp]

theorem State.conflictsSettled_of_none {s : State} (t x : Nat) {listed : List HeldEntry}
    (h : ∀ e ∈ listed, e.seg ∉ heldSegs s.claim.held) :
    s.conflictsSettled t x listed = s.omissionCheck x (heldSegs listed) := by
  rw [State.conflictsSettled, State.conflictChecks_of_none t x h]

/-- What holds of the settled conflicts holds after the comparison of the editions, for what it leaves alone. -/
theorem State.responderBeacon_kept (s : State) (t x edition : Nat) (listed : List HeldEntry) :
    (s.responderBeacon t x edition listed).control = (s.conflictsSettled t x listed).control
      ∧ (s.responderBeacon t x edition listed).claim = (s.conflictsSettled t x listed).claim
      ∧ (s.responderBeacon t x edition listed).cache = (s.conflictsSettled t x listed).cache
      ∧ (s.responderBeacon t x edition listed).pos = (s.conflictsSettled t x listed).pos
      ∧ (s.responderBeacon t x edition listed).line = (s.conflictsSettled t x listed).line
      ∧ (s.responderBeacon t x edition listed).resp.conflicts = (s.conflictsSettled t x listed).resp.conflicts
      ∧ (s.responderBeacon t x edition listed).resp.overflow = (s.conflictsSettled t x listed).resp.overflow := by
  rw [State.responderBeacon_eq]
  split
  · exact ⟨rfl, rfl, rfl, rfl, rfl, rfl, rfl⟩
  · refine ⟨by simp, by simp, by simp, by simp, by simp, ?_, ?_⟩
    all_goals
      unfold State.editionMismatch
      split
      · rfl
      · simp

theorem State.editionMismatch_added (s : State) (t x edition : Nat) : NoticesAdded 1 s (s.editionMismatch t x edition) := by
  unfold State.editionMismatch
  split
  · exact .of_same 1 rfl
  · exact (State.raise_added (s.setResp { s.resp with editionMarks := insertNum s.resp.editionMarks x }) _
      (by simp [Notice.plain])).after_same rfl

theorem State.responderBeacon_added (s : State) (t x edition : Nat) (listed : List HeldEntry) :
    NoticesAdded 1 (s.conflictChecks t x s.claim.held listed) (s.responderBeacon t x edition listed) := by
  rw [State.responderBeacon_eq]
  have hsettled : (s.conflictsSettled t x listed).notice = (s.conflictChecks t x s.claim.held listed).notice := by
    simp [State.conflictsSettled]
  split
  · exact .of_same 1 hsettled
  · exact (State.editionMismatch_added _ t x edition).after_same hsettled

theorem State.conflictsSettled_marks (s : State) (t x : Nat) (listed : List HeldEntry) :
    (s.conflictsSettled t x listed).resp.editionMarks = s.resp.editionMarks := by
  rw [State.conflictsSettled_resp]
  exact (pairsAdded_checkedAll s.resp x s.claim.held listed).marks

theorem State.responderBeacon_claimStays (s : State) (t x edition : Nat) (listed : List HeldEntry) :
    ClaimStays s (s.responderBeacon t x edition listed) := by
  have hchecks : ClaimStays s (s.conflictChecks t x s.claim.held listed) :=
    ClaimStays.foldl (fun s e => s.conflictCheck_claimStays t x _ e) listed s
  exact hchecks.trans (.of_claim (by rw [(s.responderBeacon_kept t x edition listed).2.1]; simp [State.conflictsSettled]))

theorem State.responderBeacon_receptionKept (s : State) (t x edition : Nat) (listed : List HeldEntry) :
    ReceptionKept s (s.responderBeacon t x edition listed) := by
  have hchecks : ReceptionKept s (s.conflictChecks t x s.claim.held listed) :=
    ReceptionKept.foldl (fun s e => s.conflictCheck_receptionKept t x _ e) listed s
  exact hchecks.trans (.of_line (by
    rw [(s.responderBeacon_kept t x edition listed).2.2.2.2.1]; simp [State.conflictsSettled]))

theorem State.responderBeacon_centre (s : State) (t x edition : Nat) (listed : List HeldEntry) :
    (s.responderBeacon t x edition listed).pos.centre = s.pos.centre := by
  rw [(s.responderBeacon_kept t x edition listed).2.2.2.1, ← s.conflictChecks_centre t x s.claim.held listed]
  simp [State.conflictsSettled]

/-- Without a listed segment of the held list the responder leaves the Claim Engine and the cache as they are. -/
theorem State.responderBeacon_of_none {s : State} (t x edition : Nat) {listed : List HeldEntry}
    (h : ∀ e ∈ listed, e.seg ∉ heldSegs s.claim.held) :
    (s.responderBeacon t x edition listed).claim = s.claim ∧ (s.responderBeacon t x edition listed).cache = s.cache := by
  obtain ⟨-, hclaim, hcache, -⟩ := s.responderBeacon_kept t x edition listed
  rw [hclaim, hcache, State.conflictsSettled_of_none t x h]
  simp

/-! ## A holding written among other entries (R117) -/

theorem Table.mem_insert_of_ne {α : Type} {t : Table α} (ht : Table.wf t = true) {k : Nat} {w : Nat × α} (h : w ∈ t)
    (hne : w.1 ≠ k) (v : α) : w ∈ Table.insert t k v := by
  refine Table.mem_of_find ?_
  rw [Table.find_insert_ne t k w.1 v hne]
  exact Table.find_of_mem ht h

theorem mem_of_foldl_older (e : Nat × CacheEntry) (l : List (Nat × CacheEntry)) : l.foldl older e ∈ e :: l := by
  induction l generalizing e with
  | nil => simp
  | cons g l ih =>
    have hmem := ih (older e g)
    rw [List.foldl_cons]
    have hfirst : older e g = e ∨ older e g = g := by
      unfold older
      split
      · exact .inr rfl
      · exact .inl rfl
    obtain h | h := hfirst <;> rw [h] at hmem ⊢
    · exact List.cons_subset_cons e (List.subset_cons_self g l) hmem
    · exact List.mem_cons_of_mem _ hmem

/-- A victim stands in the set, and holds no entry or one whose segment is not barred. -/
theorem victim_spec {ways : Table CacheEntry} {set k : Nat} {barred : List Nat} (h : victim ways set barred = some k) :
    k / 4 = set ∧ (Table.find ways k = none ∨ ∃ e, (k, e) ∈ ways ∧ e.seg ∉ barred) := by
  unfold victim at h
  split at h
  next j hfirst =>
    cases h
    have hmem := List.mem_of_find?_eq_some hfirst
    have hfree := List.find?_some hfirst
    simp only [List.map_cons, List.map_nil, List.mem_cons, List.not_mem_nil, or_false] at hmem
    exact ⟨by omega, .inl (by simpa using hfree)⟩
  · unfold oldestUnpinned at h
    split at h
    · cases h
    next e rest hfilter =>
      cases h
      have hmem : rest.foldl older e ∈ e :: rest := mem_of_foldl_older e rest
      rw [← hfilter, List.mem_filter] at hmem
      obtain ⟨hin, htest⟩ := hmem
      simp only [Bool.and_eq_true, beq_iff_eq, Bool.not_eq_true', ← Bool.not_eq_true, List.contains_iff_mem] at htest
      obtain ⟨⟨⟨hset, -⟩, -⟩, hout⟩ := htest
      exact ⟨hset, .inr ⟨_, hin, hout⟩⟩

/-- What the writes of a BEACON of `x` rely on and keep: the table in its form, each entry in its set. -/
structure WaysSound (ways : Table CacheEntry) : Prop where
  wf : Table.wf ways = true
  sets : InOwnSets ways

/-- One holding written: no entry is new but the written one, and no entry of another segment is lost that is barred, or
where the written segment has an entry already. -/
structure HoldingWritten (seg x : Nat) (barred : List Nat) (c d : PeerCache) : Prop where
  sound : WaysSound d.ways
  new : ∀ w ∈ d.ways, w ∈ c.ways ∨ (w.2.seg = seg ∧ w.2.holder = x)
  stays : ∀ w ∈ c.ways, w.2.seg ≠ seg → (w.2.seg ∈ barred ∨ ∃ v ∈ c.ways, v.2.seg = seg) → w ∈ d.ways
  full : d.full = c.full ∨ d.full = min 65535 (c.full + 1)

theorem inOwnSets_insert {ways : Table CacheEntry} (h : InOwnSets ways) {k : Nat} {e : CacheEntry} (hk : k / 4 = cacheSet e.seg) :
    InOwnSets (Table.insert ways k e) := by
  intro w hw
  obtain rfl | hw := Table.mem_insert _ _ _ _ hw
  · exact hk
  · exact h w hw

theorem State.writeHolding_written {s : State} (hs : WaysSound s.cache.ways) (seg x : Nat) (m : Mark) (source : Source)
    (barred : List Nat) : HoldingWritten seg x barred s.cache (s.writeHolding seg x m source barred).cache := by
  obtain ⟨hwf, hsets⟩ := hs
  unfold State.writeHolding
  split
  next k e hfound =>
    obtain ⟨hmem, hseg, hset⟩ := mem_of_findEntry hfound
    have hwritten : HoldingWritten seg x barred s.cache { s.cache with
        ways := Table.insert s.cache.ways k
          { e with holder := x, mark := some m, status := .held, age := 0, source := some source } } := by
      refine ⟨⟨Table.wf_insert _ _ _ hwf, inOwnSets_insert hsets (by rw [hset, ← hseg])⟩, fun w hw => ?_,
        fun w hw hother _ => Table.mem_insert_of_ne hwf hw ?_ _, .inl rfl⟩
      · obtain rfl | hw := Table.mem_insert _ _ _ _ hw
        · exact .inr ⟨hseg, rfl⟩
        · exact .inl hw
      · rintro rfl
        have hsame : some w.2 = some e := (Table.find_of_mem hwf hw).symm.trans (Table.find_of_mem hwf hmem)
        exact hother (by rw [Option.some.inj hsame, hseg])
    simp only
    split
    · rw [(State.cacheReport_frame _ _ _).2.2.2.2.2.2.2.2.1]
      exact hwritten
    · exact hwritten
  next hmissing =>
    have hnone := (findEntry_eq_none hsets seg).1 hmissing
    split
    next k hvictim =>
      obtain ⟨hset, hold⟩ := victim_spec hvictim
      refine ⟨⟨Table.wf_insert _ _ _ hwf, inOwnSets_insert hsets hset⟩, fun w hw => ?_,
        fun w hw _ hother => Table.mem_insert_of_ne hwf hw ?_ _, .inl rfl⟩
      · obtain rfl | hw := Table.mem_insert _ _ _ _ hw
        · exact .inr ⟨rfl, rfl⟩
        · exact .inl hw
      · rintro rfl
        have hfind : Table.find s.cache.ways w.1 = some w.2 := Table.find_of_mem hwf hw
        have hbarred : w.2.seg ∈ barred := hother.resolve_right fun ⟨v, hv, hseg⟩ => hnone v hv hseg
        obtain hfree | ⟨e, he, hout⟩ := hold
        · rw [hfree] at hfind
          cases hfind
        · rw [Table.find_of_mem hwf he] at hfind
          exact hout (by rw [Option.some.inj hfind]; exact hbarred)
    · exact ⟨⟨hwf, hsets⟩, fun w hw => .inl hw, fun w hw _ _ => hw, .inr rfl⟩

end Sys2Proof.Machine
end

section
/-! PROOFS. Ways freed one after another, and the cache after a BEACON and after a RELEASE (R118 to R120). -/

-- One declaration at a time: side by side they need more threads than the check's memory holds.
set_option Elab.async false

namespace Sys2Proof.Machine

open Sys2Proof.Safety

/-! ## Ways freed (R118, R120) -/

/-- What an entry becomes when it is freed: a placeholder if pinned, otherwise nothing. -/
def freedEntry (source : Option Source) (e : CacheEntry) : Option CacheEntry :=
  if e.pins.isEmpty then none else some (e.placeholder source)

theorem Table.find_erase_ne {α : Type} (t : Table α) {k j : Nat} (h : j ≠ k) :
    Table.find (Table.erase t k) j = Table.find t j := by
  induction t with
  | nil => rfl
  | cons e t ih =>
    unfold Table.erase at ih ⊢
    by_cases hk : e.1 = k
    · rw [List.filter_cons_of_neg (by simpa using hk), ih]
      simp [Table.find, show e.1 ≠ j by omega]
    · rw [List.filter_cons_of_pos (by simpa using hk)]
      simp only [Table.find, ih]

theorem find_freedWays (ways : Table CacheEntry) (source : Option Source) (k j : Nat) :
    Table.find (freedWays ways source k) j
      = if j = k then (Table.find ways k).bind (freedEntry source) else Table.find ways j := by
  unfold freedWays freedEntry
  cases hk : Table.find ways k with
  | none =>
    simp only [Option.bind_none]
    split
    next h => rw [h, hk]
    · rfl
  | some e =>
    by_cases hj : j = k
    · subst hj
      rw [if_pos rfl]
      simp only [Option.bind_some]
      split
      · exact Table.find_erase_self ways j
      · exact Table.find_insert_self ways j _
    · rw [if_neg hj]
      simp only
      split
      · exact Table.find_erase_ne ways hj
      · exact Table.find_insert_ne ways k j _ hj

/-- Ways freed one after another: each of them once, the others as they were. -/
theorem find_freed {source : Option Source} {l : List Nat} (hl : l.Nodup) (s : State) (j : Nat) :
    Table.find (l.foldl (fun s k => s.freeWay source k) s).cache.ways j
      = if j ∈ l then (Table.find s.cache.ways j).bind (freedEntry source) else Table.find s.cache.ways j := by
  induction l generalizing s with
  | nil => rfl
  | cons k l ih =>
    obtain ⟨hk, hrest⟩ := List.nodup_cons.1 hl
    rw [List.foldl_cons, ih hrest, State.freeWay_ways, find_freedWays]
    by_cases hj : j = k
    · subst hj
      simp [hk]
    · simp [hj]

theorem Table.nodup_keys {α : Type} {t : Table α} (ht : Table.wf t = true) : (t.map Prod.fst).Nodup := by
  rw [Table.wf_iff] at ht
  exact (List.pairwise_map.2 ht).imp Nat.ne_of_lt

theorem waysOf_nodup {ways : Table CacheEntry} (hw : Table.wf ways = true) (x : Nat) (p : Nat → Bool) :
    (waysOf ways x p).Nodup :=
  (Table.nodup_keys hw).sublist (List.filter_sublist.map _)

theorem mem_waysOf {ways : Table CacheEntry} (hw : Table.wf ways = true) {x : Nat} {p : Nat → Bool} {k : Nat} {e : CacheEntry}
    (hfind : Table.find ways k = some e) : k ∈ waysOf ways x p ↔ e.holder = x ∧ p e.seg = true := by
  rw [waysOf, List.mem_map]
  constructor
  · rintro ⟨⟨j, g⟩, hmem, rfl⟩
    obtain ⟨hin, htest⟩ := List.mem_filter.1 hmem
    rw [Table.find_of_mem hw hin] at hfind
    cases hfind
    simpa using htest
  · rintro ⟨hholder, hp⟩
    exact ⟨(k, e), List.mem_filter.2 ⟨Table.mem_of_find hfind, by simp [hholder, hp]⟩, rfl⟩

/-- An entry that names the holder and passes the test is freed, every other stands. -/
theorem find_freed_waysOf {s : State} (hw : Table.wf s.cache.ways = true) (source : Option Source) (x : Nat) (p : Nat → Bool)
    {k : Nat} {e : CacheEntry} (hfind : Table.find s.cache.ways k = some e) :
    Table.find ((waysOf s.cache.ways x p).foldl (fun s k => s.freeWay source k) s).cache.ways k
      = if e.holder = x ∧ p e.seg = true then freedEntry source e else some e := by
  rw [find_freed (waysOf_nodup hw x p), hfind]
  simp only [mem_waysOf hw hfind, Option.bind_some]

theorem find_freed_of_none {s : State} (hw : Table.wf s.cache.ways = true) (source : Option Source) (x : Nat) (p : Nat → Bool)
    {k : Nat} (hfind : Table.find s.cache.ways k = none) :
    Table.find ((waysOf s.cache.ways x p).foldl (fun s k => s.freeWay source k) s).cache.ways k = none := by
  rw [find_freed (waysOf_nodup hw x p), hfind]
  simp

/-! ## The omission sweep (R119) -/

theorem State.sweep_wf {s : State} (hw : Table.wf s.cache.ways = true) (x : Nat) (listed : List Nat) :
    Table.wf (s.sweep x listed).cache.ways = true :=
  ((Narrows.refl s).sweep x listed).cache.sorted hw

theorem State.freeWay_full (s : State) (source : Option Source) (k : Nat) : (s.freeWay source k).cache.full = s.cache.full := by
  unfold State.freeWay
  split <;> simp [State.setWays]

theorem State.sweep_full (s : State) (x : Nat) (listed : List Nat) : (s.sweep x listed).cache.full = s.cache.full :=
  foldl_keeps (fun u : State => u.cache.full) _ (fun u k => u.freeWay_full _ k) _ s

/-- Every entry after the sweep is an old one, or the placeholder of one that was not listed. -/
theorem State.mem_sweep {s : State} (hw : Table.wf s.cache.ways = true) {x : Nat} {listed : List Nat} {w : Nat × CacheEntry}
    (h : w ∈ (s.sweep x listed).cache.ways) :
    (w ∈ s.cache.ways ∧ (w.2.holder = x → w.2.seg ∈ listed))
      ∨ (w.2.holder = 0 ∧ ∃ e, (w.1, e) ∈ s.cache.ways ∧ e.seg = w.2.seg) := by
  obtain ⟨k, g⟩ := w
  have hfound := Table.find_of_mem (State.sweep_wf hw x listed) h
  cases hold : Table.find s.cache.ways k with
  | none =>
    rw [State.sweep, find_freed_of_none hw _ _ _ hold] at hfound
    cases hfound
  | some e =>
    rw [State.sweep, find_freed_waysOf hw _ _ _ hold] at hfound
    split at hfound
    · unfold freedEntry at hfound
      split at hfound
      · cases hfound
      · cases hfound
        exact .inr ⟨rfl, e, Table.mem_of_find hold, rfl⟩
    next hkeeps =>
      cases hfound
      refine .inl ⟨Table.mem_of_find hold, fun hx => ?_⟩
      by_contra hout
      exact hkeeps ⟨hx, by simpa using hout⟩

/-- The entries of the listed segments stand. -/
theorem State.mem_sweep_of_listed {s : State} (hw : Table.wf s.cache.ways = true) (x : Nat) {listed : List Nat}
    {w : Nat × CacheEntry} (h : w ∈ s.cache.ways) (hlisted : w.2.seg ∈ listed) : w ∈ (s.sweep x listed).cache.ways := by
  refine Table.mem_of_find ?_
  have hkeeps : ¬(w.2.holder = x ∧ (!listed.contains w.2.seg) = true) := by simp [hlisted]
  rw [State.sweep, find_freed_waysOf hw _ _ _ (Table.find_of_mem hw h), if_neg hkeeps]

theorem State.sweep_sound {s : State} (hs : WaysSound s.cache.ways) (x : Nat) (listed : List Nat) :
    WaysSound (s.sweep x listed).cache.ways := by
  obtain ⟨hwf, hsets⟩ := hs
  refine ⟨State.sweep_wf hwf x listed, fun w hw => ?_⟩
  obtain ⟨hold, -⟩ | ⟨-, e, he, hseg⟩ := State.mem_sweep hwf hw
  · exact hsets w hold
  · rw [← hseg]
    exact hsets _ he

/-! ## The listed segments written (R119) -/

/-- A count of the cache-full cases that has grown, or stands at its top. -/
def Grown (old new : Nat) : Prop := old < new ∨ new = 65535

theorem grown_of_step {old mid new : Nat} (hmid : mid = old ∨ Grown old mid) (hnew : new = min 65535 (mid + 1)) :
    Grown old new := by
  unfold Grown at *
  omega

theorem grown_step {old mid new : Nat} (hmid : Grown old mid) (hnew : new = mid ∨ new = min 65535 (mid + 1)) :
    Grown old new := by
  unfold Grown at *
  omega

/-- The cache has an entry for a segment. -/
def HasEntry (ways : Table CacheEntry) (seg : Nat) : Prop := ∃ w ∈ ways, w.2.seg = seg

theorem State.refresh_of_entry {s : State} (hs : WaysSound s.cache.ways) (x : Nat) {e : HeldEntry}
    (h : HasEntry s.cache.ways e.seg) : s.refresh x e = s.writeHolding e.seg x e.mark .beacon [] := by
  refine if_pos (Option.isSome_iff_ne_none.2 fun hnone => ?_)
  obtain ⟨w, hw, hseg⟩ := h
  exact (findEntry_eq_none hs.sets e.seg).1 hnone w hw hseg

theorem State.refresh_of_none {s : State} (hs : WaysSound s.cache.ways) (x : Nat) {e : HeldEntry}
    (h : ¬HasEntry s.cache.ways e.seg) : s.refresh x e = s := by
  have hnone := (findEntry_eq_none hs.sets e.seg).2 fun w hw hseg => h ⟨w, hw, hseg⟩
  exact if_neg (by rw [hnone]; decide)

theorem State.fill_of_entry {s : State} (hs : WaysSound s.cache.ways) (x : Nat) (barred : List Nat) {e : HeldEntry}
    (h : HasEntry s.cache.ways e.seg) : s.fill x barred e = s := by
  refine if_neg fun hnone => ?_
  obtain ⟨w, hw, hseg⟩ := h
  exact (findEntry_eq_none hs.sets e.seg).1 (by simpa using hnone) w hw hseg

theorem State.fill_of_none {s : State} (hs : WaysSound s.cache.ways) (x : Nat) (barred : List Nat) {e : HeldEntry}
    (h : ¬HasEntry s.cache.ways e.seg) : s.fill x barred e = s.writeHolding e.seg x e.mark .beacon barred := by
  have hnone := (findEntry_eq_none hs.sets e.seg).2 fun w hw hseg => h ⟨w, hw, hseg⟩
  exact if_pos (by rw [hnone]; rfl)

theorem Recorded.hasEntry {ways : Table CacheEntry} {seg x : Nat} {m : Mark} {source : Source}
    (h : Recorded ways seg x m source) : HasEntry ways seg := by
  obtain ⟨w, hw, hseg, -⟩ := h
  exact ⟨w, hw, hseg⟩

/-- A segment that has an entry is recorded when it is refreshed (R119 step 2). -/
theorem State.refresh_recorded {s : State} (hs : WaysSound s.cache.ways) (x : Nat) {e : HeldEntry}
    (h : HasEntry s.cache.ways e.seg) : Recorded (s.refresh x e).cache.ways e.seg x e.mark .beacon := by
  rw [State.refresh_of_entry hs x h]
  refine (State.writeHolding_recorded hs.sets e.seg x e.mark .beacon []).resolve_right fun ⟨hnone, _⟩ => ?_
  obtain ⟨w, hw, hseg⟩ := h
  exact hnone w hw hseg

/-- A refreshed segment leaves the entries of the others, and no segment gains an entry. -/
theorem State.refresh_others {s : State} (hs : WaysSound s.cache.ways) (x : Nat) (e : HeldEntry) :
    WaysSound (s.refresh x e).cache.ways
      ∧ (∀ w ∈ (s.refresh x e).cache.ways, w ∈ s.cache.ways ∨ (w.2.seg = e.seg ∧ w.2.holder = x))
      ∧ (∀ w ∈ s.cache.ways, w.2.seg ≠ e.seg → w ∈ (s.refresh x e).cache.ways)
      ∧ (∀ n, HasEntry (s.refresh x e).cache.ways n ↔ HasEntry s.cache.ways n)
      ∧ (s.refresh x e).cache.full = s.cache.full := by
  by_cases hentry : HasEntry s.cache.ways e.seg
  · obtain ⟨hsound, hnew, hstays, -⟩ := State.writeHolding_written hs e.seg x e.mark .beacon []
    have hrecorded := (State.refresh_recorded hs x hentry).hasEntry
    have hfull : (s.writeHolding e.seg x e.mark .beacon []).cache.full = s.cache.full := by
      unfold State.writeHolding
      split
      · simp only
        split <;> simp [State.setWays]
      next hmissing =>
        obtain ⟨w, hw, hseg⟩ := hentry
        exact absurd hseg ((findEntry_eq_none hs.sets e.seg).1 hmissing w hw)
    rw [State.refresh_of_entry hs x hentry] at hrecorded ⊢
    have hkeeps : ∀ w ∈ s.cache.ways, w.2.seg ≠ e.seg → w ∈ (s.writeHolding e.seg x e.mark .beacon []).cache.ways :=
      fun w hw hother => hstays w hw hother (.inr hentry)
    refine ⟨hsound, hnew, hkeeps, fun n => ⟨?_, ?_⟩, hfull⟩
    · rintro ⟨w, hw, rfl⟩
      obtain hold | ⟨hseg, -⟩ := hnew w hw
      · exact ⟨w, hold, rfl⟩
      · rw [hseg]; exact hentry
    · rintro ⟨w, hw, rfl⟩
      by_cases hother : w.2.seg = e.seg
      · rw [hother]; exact hrecorded
      · exact ⟨w, hkeeps w hw hother, rfl⟩
  · rw [State.refresh_of_none hs x hentry]
    exact ⟨hs, fun w hw => .inl hw, fun w hw _ => hw, fun _ => Iff.rfl, rfl⟩

theorem Recorded.of_mem {c d : Table CacheEntry} {seg x : Nat} {m : Mark} {source : Source} (h : Recorded c seg x m source)
    (hstays : ∀ w ∈ c, w.2.seg = seg → w ∈ d) : Recorded d seg x m source := by
  obtain ⟨w, hw, hseg, hrest⟩ := h
  exact ⟨w, hstays w hw hseg, hseg, hrest⟩

/-- The state after the refreshing of the listed segments. -/
def State.refreshAll (s : State) (x : Nat) (l : List HeldEntry) : State := l.foldl (fun s e => s.refresh x e) s

theorem State.refreshAll_cons (s : State) (x : Nat) (e : HeldEntry) (l : List HeldEntry) :
    s.refreshAll x (e :: l) = (s.refresh x e).refreshAll x l := rfl

theorem State.refreshAll_spec {s : State} (hs : WaysSound s.cache.ways) (x : Nat) (l : List HeldEntry) :
    WaysSound (s.refreshAll x l).cache.ways
      ∧ (∀ w ∈ (s.refreshAll x l).cache.ways, w ∈ s.cache.ways ∨ (w.2.seg ∈ heldSegs l ∧ w.2.holder = x))
      ∧ (∀ w ∈ s.cache.ways, w.2.seg ∉ heldSegs l → w ∈ (s.refreshAll x l).cache.ways)
      ∧ (∀ n, HasEntry (s.refreshAll x l).cache.ways n ↔ HasEntry s.cache.ways n)
      ∧ (s.refreshAll x l).cache.full = s.cache.full := by
  induction l generalizing s with
  | nil => exact ⟨hs, fun w hw => .inl hw, fun w hw _ => hw, fun _ => Iff.rfl, rfl⟩
  | cons e l ih =>
    obtain ⟨hsound, hnew, hstays, hentries, hfull⟩ := State.refresh_others hs x e
    obtain ⟨gsound, gnew, gstays, gentries, gfull⟩ := ih hsound
    rw [State.refreshAll_cons]
    refine ⟨gsound, fun w hw => ?_, fun w hw hout => ?_, fun n => (gentries n).trans (hentries n), gfull.trans hfull⟩
    · obtain hw | ⟨hseg, hx⟩ := gnew w hw
      · refine (hnew w hw).imp_right fun ⟨hseg, hx⟩ => ⟨?_, hx⟩
        simp [heldSegs, hseg]
      · exact .inr ⟨List.mem_cons_of_mem _ hseg, hx⟩
    · simp only [heldSegs, List.map_cons, List.mem_cons, not_or] at hout
      exact gstays w (hstays w hw hout.1) hout.2

/-- Each listed segment that has an entry is recorded. -/
theorem State.refreshAll_recorded {s : State} (hs : WaysSound s.cache.ways) (x : Nat) {l : List HeldEntry}
    (hnodup : (heldSegs l).Nodup) {e : HeldEntry} (he : e ∈ l) (h : HasEntry s.cache.ways e.seg) :
    Recorded (s.refreshAll x l).cache.ways e.seg x e.mark .beacon := by
  induction l generalizing s with
  | nil => cases he
  | cons g l ih =>
    obtain ⟨hout, hrest⟩ := List.nodup_cons.1 hnodup
    obtain ⟨hsound, -, -, hentries, -⟩ := State.refresh_others hs x g
    rw [State.refreshAll_cons]
    obtain rfl | he := List.mem_cons.1 he
    · obtain ⟨-, -, hstays, -, -⟩ := State.refreshAll_spec hsound x l
      exact (State.refresh_recorded hs x h).of_mem fun w hw hseg => hstays w hw (by rw [hseg]; exact hout)
    · exact ih hsound hrest he ((hentries _).2 h)

/-- The state after the filling of the listed segments. -/
def State.fillAll (s : State) (x : Nat) (barred : List Nat) (l : List HeldEntry) : State :=
  l.foldl (fun s e => s.fill x barred e) s

theorem State.fillAll_cons (s : State) (x : Nat) (barred : List Nat) (e : HeldEntry) (l : List HeldEntry) :
    s.fillAll x barred (e :: l) = (s.fill x barred e).fillAll x barred l := rfl

theorem State.fill_others {s : State} (hs : WaysSound s.cache.ways) (x : Nat) (barred : List Nat) (e : HeldEntry) :
    WaysSound (s.fill x barred e).cache.ways
      ∧ (∀ w ∈ (s.fill x barred e).cache.ways, w ∈ s.cache.ways ∨ (w.2.seg = e.seg ∧ w.2.holder = x))
      ∧ (∀ w ∈ s.cache.ways, w.2.seg ∈ barred → w ∈ (s.fill x barred e).cache.ways)
      ∧ ((s.fill x barred e).cache.full = s.cache.full ∨ (s.fill x barred e).cache.full = min 65535 (s.cache.full + 1)) := by
  by_cases hentry : HasEntry s.cache.ways e.seg
  · rw [State.fill_of_entry hs x barred hentry]
    exact ⟨hs, fun w hw => .inl hw, fun w hw _ => hw, .inl rfl⟩
  · rw [State.fill_of_none hs x barred hentry]
    obtain ⟨hsound, hnew, hstays, hfull⟩ := State.writeHolding_written hs e.seg x e.mark .beacon barred
    exact ⟨hsound, hnew, fun w hw hbarred => hstays w hw (fun hseg => hentry ⟨w, hw, hseg⟩) (.inl hbarred), hfull⟩

theorem State.fillAll_spec {s : State} (hs : WaysSound s.cache.ways) (x : Nat) (barred : List Nat) (l : List HeldEntry) :
    WaysSound (s.fillAll x barred l).cache.ways
      ∧ (∀ w ∈ (s.fillAll x barred l).cache.ways, w ∈ s.cache.ways ∨ (w.2.seg ∈ heldSegs l ∧ w.2.holder = x))
      ∧ (∀ w ∈ s.cache.ways, w.2.seg ∈ barred → w ∈ (s.fillAll x barred l).cache.ways)
      ∧ (∀ old, Grown old s.cache.full → Grown old (s.fillAll x barred l).cache.full) := by
  induction l generalizing s with
  | nil => exact ⟨hs, fun w hw => .inl hw, fun w hw _ => hw, fun _ h => h⟩
  | cons e l ih =>
    obtain ⟨hsound, hnew, hstays, hfull⟩ := State.fill_others hs x barred e
    obtain ⟨gsound, gnew, gstays, gfull⟩ := ih hsound
    rw [State.fillAll_cons]
    refine ⟨gsound, fun w hw => ?_, fun w hw hbarred => gstays w (hstays w hw hbarred) hbarred,
      fun old hold => gfull old (grown_step hold hfull)⟩
    obtain hw | ⟨hseg, hx⟩ := gnew w hw
    · refine (hnew w hw).imp_right fun ⟨hseg, hx⟩ => ⟨?_, hx⟩
      simp [heldSegs, hseg]
    · exact .inr ⟨List.mem_cons_of_mem _ hseg, hx⟩

/-- Each listed segment is recorded, or it had no entry and the count of the cache-full cases has grown. -/
theorem State.fillAll_recorded {s : State} (hs : WaysSound s.cache.ways) (x old : Nat) {barred : List Nat} {l : List HeldEntry}
    (hold : s.cache.full = old ∨ Grown old s.cache.full) {e : HeldEntry} (he : e ∈ l) (hbarred : e.seg ∈ barred)
    (hnodup : (heldSegs l).Nodup)
    (h : Recorded s.cache.ways e.seg x e.mark .beacon ∨ ¬HasEntry s.cache.ways e.seg) :
    Recorded (s.fillAll x barred l).cache.ways e.seg x e.mark .beacon ∨ Grown old (s.fillAll x barred l).cache.full := by
  induction l generalizing s with
  | nil => cases he
  | cons g l ih =>
    obtain ⟨hout, hrest⟩ := List.nodup_cons.1 hnodup
    obtain ⟨hsound, hnew, hstays, hfull⟩ := State.fill_others hs x barred g
    obtain ⟨-, -, gstays, gfull⟩ := State.fillAll_spec hsound x barred l
    rw [State.fillAll_cons]
    obtain rfl | he := List.mem_cons.1 he
    · obtain hrecorded | hnone := h
      · exact .inl ((hrecorded.of_mem fun w hw hseg => hstays w hw (by rw [hseg]; exact hbarred)).of_mem
          fun w hw hseg => gstays w hw (by rw [hseg]; exact hbarred))
      · rw [State.fill_of_none hs x barred hnone] at gstays gfull ⊢
        obtain hrecorded | ⟨-, hcache⟩ := State.writeHolding_recorded hs.sets e.seg x e.mark .beacon barred
        · exact .inl (hrecorded.of_mem fun w hw hseg => gstays w hw (by rw [hseg]; exact hbarred))
        · exact .inr (gfull old (grown_of_step hold (by rw [hcache])))
    · refine ih hsound ?_ he hrest ?_
      · obtain hsame | hstep := hfull
        · rw [hsame]; exact hold
        · exact .inr (grown_of_step hold hstep)
      · refine h.imp (fun hrecorded => hrecorded.of_mem fun w hw hseg => hstays w hw (by rw [hseg]; exact hbarred))
          (fun hnone ⟨w, hw, hseg⟩ => ?_)
        obtain hin | ⟨hsame, -⟩ := hnew w hw
        · exact hnone ⟨w, hin, hseg⟩
        · exact hout (by rw [← hsame, hseg]; exact List.mem_map_of_mem he)

/-! ## A BEACON at the cache (R119) -/

theorem State.cacheBeacon_eq (s : State) (x : Nat) (listed : List HeldEntry) (skip : List Nat) :
    s.cacheBeacon x listed skip
      = ((s.sweep x (heldSegs listed)).refreshAll x (listed.filter (fun e => !skip.contains e.seg))).fillAll x
          (heldSegs (listed.filter (fun e => !skip.contains e.seg))) (listed.filter (fun e => !skip.contains e.seg)) := rfl

/-- After a BEACON the cache names its source for the listed segments alone. -/
theorem State.cacheBeacon_named {s : State} (hs : WaysSound s.cache.ways) {x : Nat} (hx : x ≠ 0) (listed : List HeldEntry)
    (skip : List Nat) {w : Nat × CacheEntry} (hw : w ∈ (s.cacheBeacon x listed skip).cache.ways) (hholder : w.2.holder = x) :
    w.2.seg ∈ heldSegs listed := by
  rw [State.cacheBeacon_eq] at hw
  have hsub : ∀ n ∈ heldSegs (listed.filter (fun e => !skip.contains e.seg)), n ∈ heldSegs listed :=
    fun n hn => (List.filter_sublist.map _).subset hn
  have hswept := State.sweep_sound hs x (heldSegs listed)
  obtain ⟨hsound, hnew, -⟩ := State.refreshAll_spec hswept x (listed.filter (fun e => !skip.contains e.seg))
  obtain ⟨-, gnew, -⟩ := State.fillAll_spec hsound x (heldSegs (listed.filter (fun e => !skip.contains e.seg)))
    (listed.filter (fun e => !skip.contains e.seg))
  obtain hw | ⟨hseg, -⟩ := gnew w hw
  · obtain hw | ⟨hseg, -⟩ := hnew w hw
    · obtain ⟨-, hlisted⟩ | ⟨hfree, -⟩ := State.mem_sweep hs.wf hw
      · exact hlisted hholder
      · exact absurd (hholder.symm.trans hfree) hx
    · exact hsub _ hseg
  · exact hsub _ hseg

/-- With none of its segments on the own held list each is recorded, or had no entry and found no victim. -/
theorem State.cacheBeacon_recorded {s : State} (hs : WaysSound s.cache.ways) (x : Nat) {listed : List HeldEntry}
    (hnodup : (heldSegs listed).Nodup) {e : HeldEntry} (he : e ∈ listed) :
    Recorded (s.cacheBeacon x listed []).cache.ways e.seg x e.mark .beacon
      ∨ (¬HasEntry s.cache.ways e.seg ∧ Grown s.cache.full (s.cacheBeacon x listed []).cache.full) := by
  have hall : listed.filter (fun e => !([] : List Nat).contains e.seg) = listed := by simp
  rw [State.cacheBeacon_eq, hall]
  have hlisted : e.seg ∈ heldSegs listed := List.mem_map_of_mem he
  have hswept := State.sweep_sound hs x (heldSegs listed)
  obtain ⟨hsound, -, -, hentries, hfull⟩ := State.refreshAll_spec hswept x listed
  obtain ⟨-, -, gstays, -⟩ := State.fillAll_spec hsound x (heldSegs listed) listed
  by_cases hentry : HasEntry (s.sweep x (heldSegs listed)).cache.ways e.seg
  · exact .inl ((State.refreshAll_recorded hswept x hnodup he hentry).of_mem
      fun w hw hseg => gstays w hw (by rw [hseg]; exact hlisted))
  · have hnone : ¬HasEntry s.cache.ways e.seg := fun ⟨w, hw, hseg⟩ =>
      hentry ⟨w, State.mem_sweep_of_listed hs.wf x hw (by rw [hseg]; exact hlisted), hseg⟩
    have hfilled := State.fillAll_recorded hsound x s.cache.full (.inl (hfull.trans (s.sweep_full x _))) he hlisted hnodup
      (.inr fun h => hentry ((hentries _).1 h))
    exact hfilled.imp_right fun hgrown => ⟨hnone, hgrown⟩

end Sys2Proof.Machine
end

section
/-! PROOFS. A BEACON, ENQUIRE, RELEASE, WITHDRAW or RELAY taken, the cache sound where its table matters (R81 to R83, R93 to
R97, R100, R101, R103, R110, R119, R120). -/

-- One declaration at a time: side by side they need more threads than the check's memory holds.
set_option Elab.async false

namespace Sys2Proof.Machine

open Sys2Proof.Safety

/-! ## The Claim Engine while the cache takes a BEACON (R118, R119) -/

theorem State.freeWay_claimStays (s : State) (source : Option Source) (k : Nat) : ClaimStays s (s.freeWay source k) :=
  (s.freeWay_claim source k).elim .of_claim .of_idle

theorem State.writeHolding_claimStays (s : State) (seg x : Nat) (m : Mark) (source : Source) (barred : List Nat) :
    ClaimStays s (s.writeHolding seg x m source barred) :=
  (s.writeHolding_claim seg x m source barred).elim .of_claim fun h => .of_idle h.1

theorem State.refresh_claimStays (s : State) (x : Nat) (e : HeldEntry) : ClaimStays s (s.refresh x e) := by
  unfold State.refresh
  split
  · exact s.writeHolding_claimStays _ x _ _ _
  · exact .of_claim rfl

theorem State.fill_claimStays (s : State) (x : Nat) (barred : List Nat) (e : HeldEntry) : ClaimStays s (s.fill x barred e) := by
  unfold State.fill
  split
  · exact s.writeHolding_claimStays _ x _ _ _
  · exact .of_claim rfl

theorem State.cacheBeacon_claimStays (s : State) (x : Nat) (listed : List HeldEntry) (skip : List Nat) :
    ClaimStays s (s.cacheBeacon x listed skip) :=
  (ClaimStays.foldl (fun s k => s.freeWay_claimStays (some .beacon) k) _ s).trans
    ((ClaimStays.foldl (fun s e => s.refresh_claimStays x e) _ _).trans
      (ClaimStays.foldl (fun s e => s.fill_claimStays x _ e) _ _))

/-- What leaves the Claim Engine alone wherever it is as in `c` leaves it alone repeated. -/
theorem foldl_claim {α : Type} {f : State → α → State} {c : ClaimEngine} (h : ∀ s a, s.claim = c → (f s a).claim = c)
    (l : List α) {s : State} (hs : s.claim = c) : (l.foldl f s).claim = c := by
  induction l generalizing s with
  | nil => exact hs
  | cons a l ih => exact ih (h s a hs)

theorem State.freeWay_claim_of_elsewhere {s : State} (source : Option Source) {k : Nat}
    (h : ∀ e, Table.find s.cache.ways k = some e → s.claim.record.blockedOn e.seg = false) :
    (s.freeWay source k).claim = s.claim := by
  unfold State.freeWay
  split
  · rfl
  next e he =>
    have hno := h e he
    simp only [State.cacheReport, State.setWays_frame, hno, Bool.false_and, Bool.false_eq_true, if_false]

/-- A freed way keeps its segment. -/
theorem seg_of_find_freedWays {ways : Table CacheEntry} {source : Option Source} {k j : Nat} {e : CacheEntry}
    (h : Table.find (freedWays ways source k) j = some e) : ∃ g, Table.find ways j = some g ∧ g.seg = e.seg := by
  rw [find_freedWays] at h
  split at h
  next hj =>
    subst hj
    obtain ⟨g, hg, hfreed⟩ := Option.bind_eq_some_iff.1 h
    unfold freedEntry at hfreed
    split at hfreed
    · cases hfreed
    · cases hfreed
      exact ⟨g, hg, rfl⟩
  · exact ⟨e, h, rfl⟩

/-- Ways freed of other segments than the wait's leave the Claim Engine alone. -/
theorem freed_claim {source : Option Source} {l : List Nat} {s : State}
    (h : ∀ k ∈ l, ∀ e, Table.find s.cache.ways k = some e → s.claim.record.blockedOn e.seg = false) :
    (l.foldl (fun s k => s.freeWay source k) s).claim = s.claim := by
  induction l generalizing s with
  | nil => rfl
  | cons k l ih =>
    have hfirst := State.freeWay_claim_of_elsewhere source (h k List.mem_cons_self)
    rw [List.foldl_cons, ih, hfirst]
    intro j hj e he
    rw [State.freeWay_ways] at he
    obtain ⟨g, hg, hseg⟩ := seg_of_find_freedWays he
    rw [hfirst, ← hseg]
    exact h j (List.mem_cons_of_mem _ hj) g hg

/-- No wait, and a wait behind the source on a listed segment, stand while the cache takes the BEACON. -/
theorem State.cacheBeacon_claim {s : State} (hw : Table.wf s.cache.ways = true) {x : Nat} {listed : List HeldEntry}
    (skip : List Nat) (h : ∀ n, s.claim.record.blockedOn n = true → s.claim.record.holder = some x ∧ n ∈ heldSegs listed) :
    (s.cacheBeacon x listed skip).claim = s.claim := by
  have hswept : (s.sweep x (heldSegs listed)).claim = s.claim := by
    refine freed_claim fun k hk e he => ?_
    obtain ⟨-, hout⟩ := (mem_waysOf hw he).1 hk
    rw [← Bool.not_eq_true]
    intro hblocked
    simp [(h e.seg hblocked).2] at hout
  have hwritten (u : State) (seg : Nat) (m : Mark) (barred : List Nat) (hu : u.claim = s.claim) :
      (u.writeHolding seg x m .beacon barred).claim = s.claim := by
    obtain hsame | ⟨-, hblocked, y, hne, hholder⟩ := u.writeHolding_claim seg x m .beacon barred
    · rw [hsame, hu]
    · rw [hu] at hblocked hholder
      rw [(h seg hblocked).1] at hholder
      exact absurd (Option.some.inj hholder).symm hne
  have hrefreshed (l : List HeldEntry) : ((s.sweep x (heldSegs listed)).refreshAll x l).claim = s.claim := by
    refine foldl_claim (fun u e hu => ?_) l hswept
    unfold State.refresh
    split
    · exact hwritten u _ _ _ hu
    · exact hu
  rw [State.cacheBeacon_eq]
  refine foldl_claim (fun u e hu => ?_) _ (hrefreshed _)
  unfold State.fill
  split
  · exact hwritten u _ _ _ hu
  · exact hu

/-! ## A BEACON at the Claim Engine (R81 to R83, R103, R110) -/

theorem State.claimBeacon_of_blocked {s : State} (t x : Nat) (b : BeaconBody) {n : Nat}
    (hstate : s.claim.record.state = .blocked) (hseg : s.claim.record.waitSeg = some n) :
    s.claimBeacon t x b = (s.fileReport x ⟨b.waitingFor, b.urgency⟩).beaconBlocked x n (heldSegs b.held) := by
  obtain ⟨hrecord, -⟩ := s.fileReport_claim x ⟨b.waitingFor, b.urgency⟩
  simp only [State.claimBeacon, hrecord, hstate, hseg]

theorem State.claimBeacon_of_contested {s : State} (t x : Nat) (b : BeaconBody) {n : Nat}
    (hstate : s.claim.record.state = .contested) (hseg : s.claim.record.waitSeg = some n) :
    s.claimBeacon t x b
      = if (heldSegs b.held).contains n then (s.fileReport x ⟨b.waitingFor, b.urgency⟩).enterBlocked n x
        else s.fileReport x ⟨b.waitingFor, b.urgency⟩ := by
  obtain ⟨hrecord, -⟩ := s.fileReport_claim x ⟨b.waitingFor, b.urgency⟩
  simp only [State.claimBeacon, hrecord, hstate, hseg]

theorem State.claimBeacon_of_holdoff {s : State} (t x : Nat) (b : BeaconBody) (hstate : s.claim.record.state = .holdoff) :
    s.claimBeacon t x b = (s.fileReport x ⟨b.waitingFor, b.urgency⟩).beaconHoldoff x b.waitingFor := by
  obtain ⟨hrecord, -⟩ := s.fileReport_claim x ⟨b.waitingFor, b.urgency⟩
  simp only [State.claimBeacon, hrecord, hstate]

theorem State.claimBeacon_of_pending {s : State} (t x : Nat) (b : BeaconBody) {n : Nat}
    (hpending : s.claim.record.state.isPending = true)
    (hfirst : s.claim.record.segs.find? (fun n => (heldSegs b.held).contains n) = some n) :
    s.claimBeacon t x b = (s.fileReport x ⟨b.waitingFor, b.urgency⟩).beaconEndsClaim t x n := by
  obtain ⟨hrecord, -⟩ := s.fileReport_claim x ⟨b.waitingFor, b.urgency⟩
  cases hstate : s.claim.record.state with
  | queuedR1 | windowR1 | queuedR2 | windowR2 => simp only [State.claimBeacon, hrecord, hstate, hfirst]
  | idle | blocked | contested | holdoff =>
    rw [hstate] at hpending
    cases hpending

/-- An idle record with no segments stays idle. -/
theorem State.claimBeacon_of_idle {s : State} (t x : Nat) (b : BeaconBody) {r : ClaimRecord}
    (h : s.claim.record = r.toIdle) : (s.claimBeacon t x b).claim.record.state = .idle := by
  obtain ⟨hrecord, -⟩ := s.fileReport_claim x ⟨b.waitingFor, b.urgency⟩
  simp only [State.claimBeacon, hrecord, h, ClaimRecord.toIdle, List.find?_nil]

theorem State.toIdle_reports (s : State) : s.toIdle.claim.reports = s.claim.reports ∧ s.toIdle.claim.held = s.claim.held := by
  rw [State.toIdle_idle]
  exact ⟨rfl, rfl⟩

theorem State.beaconEndsClaim_reports (s : State) (t x n : Nat) :
    (s.beaconEndsClaim t x n).claim.reports = s.claim.reports ∧ (s.beaconEndsClaim t x n).claim.held = s.claim.held := by
  unfold State.beaconEndsClaim
  split
  · obtain ⟨-, hheld, -, hreports⟩ := State.enterBlocked_claim (s.endClaim t) n x
    rw [hheld, hreports, State.endClaim_reports, State.endClaim_held]
    exact ⟨rfl, rfl⟩
  · rw [State.endClaim_reports, State.endClaim_held]
    exact ⟨rfl, rfl⟩

/-- Whatever else it does, the BEACON's report is filed and the held list stays. -/
theorem State.claimBeacon_reports (s : State) (t x : Nat) (b : BeaconBody) :
    (s.claimBeacon t x b).claim.reports = Table.insert s.claim.reports x ⟨b.waitingFor, b.urgency⟩
      ∧ (s.claimBeacon t x b).claim.held = s.claim.held := by
  have hfiled : ∀ u : State, u.claim.reports = (s.fileReport x ⟨b.waitingFor, b.urgency⟩).claim.reports
      ∧ u.claim.held = (s.fileReport x ⟨b.waitingFor, b.urgency⟩).claim.held →
      u.claim.reports = Table.insert s.claim.reports x ⟨b.waitingFor, b.urgency⟩ ∧ u.claim.held = s.claim.held :=
    fun u h => h
  refine hfiled _ ?_
  unfold State.claimBeacon
  simp only
  split
  · unfold State.beaconBlocked
    split
    · split
      · exact ⟨rfl, rfl⟩
      · exact State.toIdle_reports _
    · split
      · exact State.toIdle_reports _
      · exact ⟨rfl, rfl⟩
  · split
    · obtain ⟨-, hheld, -, hreports⟩ := State.enterBlocked_claim (s.fileReport x ⟨b.waitingFor, b.urgency⟩) _ x
      exact ⟨hreports, hheld⟩
    · exact ⟨rfl, rfl⟩
  · unfold State.beaconHoldoff
    split
    · exact ⟨rfl, rfl⟩
    · split
      · exact State.toIdle_reports _
      · exact ⟨rfl, rfl⟩
  · split
    · exact ⟨rfl, rfl⟩
    · exact State.beaconEndsClaim_reports _ t x _

theorem State.beaconEndsClaim_line (s : State) (t x n : Nat) :
    (s.beaconEndsClaim t x n).line = (s.endClaim t).line ∧ (s.beaconEndsClaim t x n).notice = (s.endClaim t).notice := by
  unfold State.beaconEndsClaim
  split <;> simp

/-- Only the end of a claim reaches the line and the notices. -/
theorem State.claimBeacon_line (s : State) (t x : Nat) (b : BeaconBody) :
    ReceptionKept s (s.claimBeacon t x b) ∧ NoticesAdded 1 s (s.claimBeacon t x b) := by
  have hfiled : ∀ u : State, ReceptionKept (s.fileReport x ⟨b.waitingFor, b.urgency⟩) u
      ∧ NoticesAdded 1 (s.fileReport x ⟨b.waitingFor, b.urgency⟩) u → ReceptionKept s u ∧ NoticesAdded 1 s u :=
    fun u h => ⟨(ReceptionKept.of_line rfl).trans h.1, h.2.after_same rfl⟩
  have hsame : ∀ u v : State, v.line = u.line → v.notice = u.notice → ReceptionKept u v ∧ NoticesAdded 1 u v :=
    fun u v hline hnotice => ⟨.of_line hline, .of_same 1 hnotice⟩
  refine hfiled _ ?_
  unfold State.claimBeacon
  simp only
  split
  · exact hsame _ _ (by simp) (by simp)
  · split
    · exact hsame _ _ (by simp) (by simp)
    · exact hsame _ _ rfl rfl
  · exact hsame _ _ (by simp) (by simp)
  · split
    · exact hsame _ _ rfl rfl
    · obtain ⟨hline, hnotice⟩ := State.beaconEndsClaim_line (s.fileReport x ⟨b.waitingFor, b.urgency⟩) t x _
      exact ⟨(State.endClaim_receptionKept _ t).trans (.of_line hline), (State.endClaim_added _ t).then_same hnotice⟩

end Sys2Proof.Machine
end

section
/-! PROOFS. The frames of peers taken from the buffer (R43): what of the statement on them holds in every state, and what
holds where the cache is sound (R81 to R83, R93 to R97, R100, R101, R103, R110, R119, R120). -/

-- One declaration at a time: side by side they need more threads than the check's memory holds.
set_option Elab.async false

namespace Sys2Proof.Machine

open Sys2Proof.Safety

/-! ## The blocks of a BEACON in turn (R43, R99) -/

/-- The segments the cache passes over, those of the own held list (R119). -/
def State.skipped (s : State) (b : BeaconBody) : List Nat :=
  (heldSegs b.held).filter (fun n => (heldSegs s.claim.held).contains n)

theorem State.takeBeacon_eq (s : State) (t x edition : Nat) (b : BeaconBody) :
    s.takeBeacon t x edition b
      = ((s.responderBeacon t x edition b.held).cacheBeacon x b.held (s.skipped b)).claimBeacon t x b := rfl

theorem State.skipped_of_free {s : State} {b : BeaconBody} (h : ∀ e ∈ b.held, e.seg ∉ heldSegs s.claim.held) :
    s.skipped b = [] := by
  refine List.filter_eq_nil_iff.2 fun n hn => ?_
  obtain ⟨e, he, rfl⟩ := List.mem_map.1 hn
  simpa using h e he

theorem State.takeBeacon_blocks (s : State) (t x edition : Nat) (b : BeaconBody) :
    (s.takeBeacon t x edition b).control = (s.responderBeacon t x edition b.held).control
      ∧ (s.takeBeacon t x edition b).resp = (s.responderBeacon t x edition b.held).resp
      ∧ (s.takeBeacon t x edition b).pos = (s.responderBeacon t x edition b.held).pos
      ∧ (s.takeBeacon t x edition b).cache
          = ((s.responderBeacon t x edition b.held).cacheBeacon x b.held (s.skipped b)).cache := by
  rw [State.takeBeacon_eq]
  simp

theorem State.takeBeacon_added (s : State) (t x edition : Nat) (b : BeaconBody) :
    NoticesAdded 1 (s.responderBeacon t x edition b.held) (s.takeBeacon t x edition b) := by
  rw [State.takeBeacon_eq]
  exact (State.claimBeacon_line _ t x b).2.after_same (by simp)

/-! ## The cache over the halts of the conflict checks (R125) -/

theorem WaysSound.unpin {c : PeerCache} (h : WaysSound c.ways) (tag : Nat) (p : Nat → Bool) :
    WaysSound (c.unpin tag p).ways := by
  refine ⟨?_, fun w hw => ?_⟩
  · have hwf := h.wf
    rw [Table.wf_iff] at hwf ⊢
    refine List.pairwise_filterMap.2 (hwf.imp fun hlt u hu v hv => ?_)
    have hkey {w g : Nat × CacheEntry} (hg : unpinEntry tag p w = some g) : g.1 = w.1 := by
      simp only [unpinEntry] at hg
      split at hg
      · split at hg <;> cases hg
        rfl
      · cases hg; rfl
    rw [hkey hu, hkey hv]
    exact hlt
  · obtain ⟨v, hv, hkey, hseg, -⟩ := mem_unpin hw
    rw [← hkey, ← hseg]
    exact h.sets v hv

theorem State.conflictCheck_waysSound {s : State} (h : WaysSound s.cache.ways) (t x : Nat) (own : List HeldEntry)
    (e : HeldEntry) : WaysSound (s.conflictCheck t x own e).cache.ways := by
  obtain ⟨-, heq⟩ | ⟨-, m, -, heq⟩ := s.conflictCheck_cases t x own e <;> rw [heq]
  · exact h
  · obtain hsame | ⟨tag, hunpin⟩ := (State.haltWith_claim (s.setResp (s.resp.addPair e.seg x)) t
      (holdConflictReport x e.seg (some (pairDetail m.code e.mark.code)))).2
    · rw [hsame]; exact h
    · rw [hunpin]; exact h.unpin tag _

theorem State.responderBeacon_waysSound {s : State} (h : WaysSound s.cache.ways) (t x edition : Nat)
    (listed : List HeldEntry) : WaysSound (s.responderBeacon t x edition listed).cache.ways := by
  have hchecks (own : List HeldEntry) : WaysSound (s.conflictChecks t x own listed).cache.ways := by
    induction listed generalizing s with
    | nil => exact h
    | cons e rest ih => exact ih (State.conflictCheck_waysSound h t x own e)
  rw [(s.responderBeacon_kept t x edition listed).2.2.1]
  simpa [State.conflictsSettled] using hchecks s.claim.held

theorem waysSound_of_cacheSound {c : PeerCache} (h : CacheSound c) : WaysSound c.ways :=
  ⟨h.1, inOwnSets_of_cacheSound h⟩

end Sys2Proof.Machine

namespace Sys2Proof.Proofs

open Sys2Proof.Machine Sys2Proof.Safety

/-! ## BEACON -/

/-- R43, R99, R103: the frame is gone, the report is filed, and the held list, the position and the lift stay. -/
theorem beacon_is_filed (s : State) (t x edition : Nat) (b : BeaconBody) :
    (s.takeBeacon t x edition b).line.rx = s.line.rx
      ∧ Table.find (s.takeBeacon t x edition b).claim.reports x = some ⟨b.waitingFor, b.urgency⟩
      ∧ (∀ y, y ≠ x → Table.find (s.takeBeacon t x edition b).claim.reports y = Table.find s.claim.reports y)
      ∧ (s.takeBeacon t x edition b).claim.held = s.claim.held
      ∧ (s.takeBeacon t x edition b).pos.centre = s.pos.centre ∧ (s.takeBeacon t x edition b).lift = s.lift := by
  obtain ⟨-, -, hpos, -⟩ := s.takeBeacon_blocks t x edition b
  have hstays := (s.responderBeacon_claimStays t x edition b.held).trans
    (State.cacheBeacon_claimStays (s.responderBeacon t x edition b.held) x b.held (s.skipped b))
  obtain ⟨hreports, hheld⟩ := State.claimBeacon_reports
    ((s.responderBeacon t x edition b.held).cacheBeacon x b.held (s.skipped b)) t x b
  have hreception := (s.responderBeacon_receptionKept t x edition b.held).trans (ReceptionKept.trans
    (t := (s.responderBeacon t x edition b.held).cacheBeacon x b.held (s.skipped b)) (.of_line (by simp))
    (State.claimBeacon_line _ t x b).1)
  refine ⟨hreception.1, ?_, fun y hy => ?_, ?_, by rw [hpos, State.responderBeacon_centre], by simp⟩
  · rw [State.takeBeacon_eq, hreports, Table.find_insert_self]
  · rw [State.takeBeacon_eq, hreports, Table.find_insert_ne _ _ _ _ hy, hstays.reports]
  · rw [State.takeBeacon_eq, hheld, hstays.held]

/-- R82: the holder's omission, and another station's listing, end a BLOCKED wait. -/
theorem beacon_ends_wait (s : State) (t x edition : Nat) (b : BeaconBody) {n y : Nat}
    (hstate : s.claim.record.state = .blocked) (hseg : s.claim.record.waitSeg = some n)
    (hholder : s.claim.record.holder = some y)
    (h : (y = x ∧ n ∉ heldSegs b.held) ∨ (y ≠ x ∧ n ∈ heldSegs b.held)) :
    (s.takeBeacon t x edition b).claim.record.state = .idle := by
  have hstays := (s.responderBeacon_claimStays t x edition b.held).trans
    (State.cacheBeacon_claimStays (s.responderBeacon t x edition b.held) x b.held (s.skipped b))
  rw [State.takeBeacon_eq]
  generalize (s.responderBeacon t x edition b.held).cacheBeacon x b.held (s.skipped b) = u at hstays ⊢
  obtain hrecord | hrecord := hstays.record
  · rw [State.claimBeacon_of_blocked t x b (by rw [hrecord]; exact hstate) (by rw [hrecord]; exact hseg)]
    have hfiled : (u.fileReport x ⟨b.waitingFor, b.urgency⟩).claim.record.holder = some y :=
      (congrArg ClaimRecord.holder hrecord).trans hholder
    unfold State.beaconBlocked
    rw [hfiled]
    obtain ⟨rfl, hout⟩ | ⟨hne, hin⟩ := h
    · rw [if_pos rfl, if_neg (by simpa using hout)]
      exact State.toIdle_recordState _
    · rw [if_neg (fun h => hne (Option.some.inj h)), if_pos (List.contains_iff_mem.2 hin)]
      exact State.toIdle_recordState _
  · exact State.claimBeacon_of_idle t x b hrecord

/-- R94, R95: the conflict set after a BEACON: pairs of other stations and of listed segments stay, new ones are the
source's on held segments, and a new pair joins the set or sets the overflow mark. -/
theorem beacon_conflict_set (s : State) (t x edition : Nat) (b : BeaconBody) :
    (∀ p ∈ s.resp.conflicts, p.station ≠ x ∨ p.seg ∈ heldSegs b.held →
        p ∈ (s.takeBeacon t x edition b).resp.conflicts)
      ∧ (∀ p ∈ (s.takeBeacon t x edition b).resp.conflicts, p ∈ s.resp.conflicts
          ∨ (p.station = x ∧ p.seg ∈ heldSegs b.held ∧ p.seg ∈ heldSegs s.claim.held))
      ∧ (∀ p ∈ (s.takeBeacon t x edition b).resp.conflicts, p.station = x → p.seg ∈ heldSegs b.held)
      ∧ (∀ e ∈ b.held, e.seg ∈ heldSegs s.claim.held →
          (s.resp.conflicts.length + b.held.length ≤ 32 → ⟨e.seg, x⟩ ∈ (s.takeBeacon t x edition b).resp.conflicts)
          ∧ (s.resp.hasPair e.seg x = false → 32 ≤ s.resp.conflicts.length →
              (s.takeBeacon t x edition b).resp.overflow = true)) := by
  obtain ⟨-, hresp, -⟩ := s.takeBeacon_blocks t x edition b
  obtain ⟨-, -, -, -, -, hconflicts, hoverflow⟩ := s.responderBeacon_kept t x edition b.held
  obtain ⟨hkept, hadded, -⟩ := pairsAdded_checkedAll s.resp x s.claim.held b.held
  rw [hresp, hconflicts, hoverflow, State.conflictsSettled_resp]
  simp only [LaneResponder.mem_withoutOmitted]
  refine ⟨fun p hp hstays => ⟨hkept p hp, fun hx => hstays.resolve_left (not_not.2 hx)⟩,
    fun p hp => hadded p hp.1, fun p hp hx => hp.2 hx, fun e he hown => ⟨fun hroom => ?_, fun hnew hfull => ?_⟩⟩
  · exact ⟨pair_checkedAll_of_room s.resp x he hown hroom, fun _ => List.mem_map_of_mem he⟩
  · exact overflow_checkedAll s.resp x he hown hnew hfull

/-- R94, R96, R191: a listed segment of the held list that makes a new pair halts the station, its notice names both marks,
and an empty Fault Record captures the first. -/
theorem beacon_hold_conflict (s : State) (t x edition : Nat) (b : BeaconBody) {e : HeldEntry} (he : e ∈ b.held)
    (hown : e.seg ∈ heldSegs s.claim.held) (hnew : s.resp.hasPair e.seg x = false) :
    (s.control.state ≠ .setup → (s.takeBeacon t x edition b).control.state = .halted
        ∧ Cause.holdConflict ∈ (s.takeBeacon t x edition b).control.causes)
      ∧ ((heldSegs b.held).Nodup → RoomFor s.notice .holdConflict (b.held.length + 4) → ∀ m,
          markOf s.claim.held e.seg = some m →
          { Notice.plain .holdConflict t with
              seg := some e.seg, station := some x, detail := some (pairDetail m.code e.mark.code) }
            ∈ (s.takeBeacon t x edition b).notice.queue)
      ∧ (b.held.find? (s.resp.newPair x s.claim.held) = some e → s.notice.fault = none →
          ∃ r, (s.takeBeacon t x edition b).notice.fault = some r ∧ r.kind = .holdConflict ∧ r.time = t
            ∧ r.seg = some e.seg ∧ r.station = some x ∧ r.detail = none) := by
  have hadded := (s.responderBeacon_added t x edition b.held).trans (s.takeBeacon_added t x edition b)
  refine ⟨fun hs => ?_, fun hnodup hroom m hm => ?_, fun hfirst hfault => ?_⟩
  · obtain ⟨hcontrol, -⟩ := s.takeBeacon_blocks t x edition b
    obtain ⟨hsettled, -⟩ := s.responderBeacon_kept t x edition b.held
    have hchecks : (s.conflictsSettled t x b.held).control = (s.conflictChecks t x s.claim.held b.held).control := by
      refine State.omissionCheck_control ?_
      rw [State.conflictChecks_resp]
      exact (pair_checkedAll s.resp x he hown).imp_left fun hpair =>
        ⟨_, LaneResponder.mem_withoutOmitted.2 ⟨hpair, fun _ => List.mem_map_of_mem he⟩⟩
    rw [hcontrol, hsettled, hchecks]
    exact State.conflictChecks_halts t x hs (.inr ⟨e, he, by simp [LaneResponder.newPair, hown, hnew]⟩)
  · exact hadded.mem (State.conflictChecks_notice t x he hnodup hm hnew hroom)
  · obtain ⟨r, hr, hkind, htime, hseg, hstation, hdetail⟩ := State.conflictChecks_fault t x hfirst hfault
    obtain ⟨q, hq, qkind, qtime, -, -, -, qstation, qseg, qdetail⟩ := hadded.fault r hr
    exact ⟨q, hq, qkind.trans hkind, qtime.trans htime, qseg.trans hseg, qstation.trans hstation, qdetail.trans hdetail⟩

/-- R97: another edition marks the source, and only another edition. -/
theorem beacon_edition (s : State) (t x edition : Nat) (b : BeaconBody) :
    (edition = s.pos.edition → (s.takeBeacon t x edition b).resp.editionMarks = s.resp.editionMarks)
      ∧ (edition ≠ s.pos.edition → x ∈ (s.takeBeacon t x edition b).resp.editionMarks)
      ∧ ((∀ e ∈ b.held, e.seg ∉ heldSegs s.claim.held) → edition ≠ s.pos.edition → x ∉ s.resp.editionMarks →
          RoomFor s.notice .editionMismatch 1 →
          { Notice.plain .editionMismatch t with station := some x, detail := some edition }
            ∈ (s.takeBeacon t x edition b).notice.queue) := by
  obtain ⟨-, hresp, -⟩ := s.takeBeacon_blocks t x edition b
  rw [hresp, State.responderBeacon_eq]
  refine ⟨fun hsame => ?_, fun hother => ?_, fun hfree hother hnew hroom => (s.takeBeacon_added t x edition b).mem ?_⟩
  · rw [if_pos hsame, State.conflictsSettled_marks]
  · rw [if_neg hother]
    exact State.mem_editionMismatch _ _ _ _
  · have hnotice : (s.conflictsSettled t x b.held).notice = s.notice := by
      rw [State.conflictsSettled_of_none t x hfree]
      simp
    rw [State.responderBeacon_eq, if_neg hother, State.editionMismatch_queue t edition
      (by rw [State.conflictsSettled_marks]; exact hnew) (by rw [hnotice]; exact hroom)]
    simp

/-- R119: a sound cache names the source for the listed segments alone, and where none of them is held by this station each
is recorded, or had no entry and is counted. -/
theorem beacon_at_sound_cache (s : State) (t x edition : Nat) (b : BeaconBody) (hs : CacheSound s.cache) (hx : x ≠ 0) :
    (∀ w ∈ (s.takeBeacon t x edition b).cache.ways, w.2.holder = x → w.2.seg ∈ heldSegs b.held)
      ∧ ((∀ e ∈ b.held, e.seg ∉ heldSegs s.claim.held) → (heldSegs b.held).Nodup → ∀ e ∈ b.held,
          Recorded (s.takeBeacon t x edition b).cache.ways e.seg x e.mark .beacon
          ∨ ((∀ w ∈ s.cache.ways, w.2.seg ≠ e.seg)
            ∧ (s.cache.full < (s.takeBeacon t x edition b).cache.full
              ∨ (s.takeBeacon t x edition b).cache.full = 65535))) := by
  obtain ⟨-, -, -, hcache⟩ := s.takeBeacon_blocks t x edition b
  have hsound := State.responderBeacon_waysSound (waysSound_of_cacheSound hs) t x edition b.held
  rw [hcache]
  refine ⟨fun w hw hholder => State.cacheBeacon_named hsound hx b.held _ hw hholder, fun hfree hnodup e he => ?_⟩
  obtain ⟨-, hsame⟩ := State.responderBeacon_of_none t x edition hfree
  have hrecorded := State.cacheBeacon_recorded hsound x hnodup he
  rw [State.skipped_of_free hfree]
  rw [hsame] at hrecorded
  exact hrecorded.imp_right fun ⟨hnone, hgrown⟩ => ⟨fun w hw hseg => hnone ⟨w, hw, hseg⟩, hgrown⟩

/-- R82, R103, R104: with a sound cache the wait behind a source that still lists its segment goes on. The refutation of the
statement on peer frames turns on this premise. -/
theorem wait_goes_on_of_cacheSound (s : State) (t x edition : Nat) (b : BeaconBody) (hs : CacheSound s.cache)
    (hfree : ∀ e ∈ b.held, e.seg ∉ heldSegs s.claim.held) {n : Nat} (hstate : s.claim.record.state = .blocked)
    (hseg : s.claim.record.waitSeg = some n) (hholder : s.claim.record.holder = some x) (hlisted : n ∈ heldSegs b.held) :
    (s.takeBeacon t x edition b).claim.record = s.claim.record
      ∧ (s.takeBeacon t x edition b).claim.peerWait = some ⟨b.waitingFor, b.urgency⟩ := by
  obtain ⟨hclaim, hcache⟩ := State.responderBeacon_of_none t x edition hfree
  have hkept : ((s.responderBeacon t x edition b.held).cacheBeacon x b.held (s.skipped b)).claim = s.claim := by
    rw [State.cacheBeacon_claim (by rw [hcache]; exact hs.1) (s.skipped b), hclaim]
    rw [hclaim]
    intro k hk
    simp only [ClaimRecord.blockedOn, Bool.and_eq_true, beq_iff_eq, hseg, Option.some.injEq] at hk
    exact ⟨hholder, hk.2 ▸ hlisted⟩
  rw [State.takeBeacon_eq]
  generalize (s.responderBeacon t x edition b.held).cacheBeacon x b.held (s.skipped b) = u at hkept ⊢
  have hgoes : (u.fileReport x ⟨b.waitingFor, b.urgency⟩).claim.record.holder = some x := by
    change u.claim.record.holder = some x
    rw [hkept, hholder]
  rw [State.claimBeacon_of_blocked t x b (by rw [hkept]; exact hstate) (by rw [hkept]; exact hseg), State.beaconBlocked,
    if_pos hgoes, if_pos (List.contains_iff_mem.2 hlisted)]
  refine ⟨by rw [← hkept]; rfl, if_pos ?_⟩
  rw [hkept]
  exact ⟨hstate, hholder⟩

/-- R81, R83, R110: a pending claim, a CONTESTED wait and a holdoff at a BEACON that lists no segment of the held list. -/
theorem beacon_at_claim (s : State) (t x edition : Nat) (b : BeaconBody)
    (hfree : ∀ e ∈ b.held, e.seg ∉ heldSegs s.claim.held) (hw : Table.wf s.cache.ways = true)
    (hstate : s.claim.record.state ≠ .blocked) :
    (s.claim.record.state.isPending = true → ∀ n,
        s.claim.record.segs.find? (fun n => (heldSegs b.held).contains n) = some n →
        (s.takeBeacon t x edition b).claim.record.segs = []
        ∧ (s.claim.record.segs.head? = some n →
            (s.takeBeacon t x edition b).claim.record.state = .blocked
            ∧ (s.takeBeacon t x edition b).claim.record.waitSeg = some n
            ∧ (s.takeBeacon t x edition b).claim.record.holder = some x
            ∧ (s.takeBeacon t x edition b).claim.peerWait = some ⟨b.waitingFor, b.urgency⟩)
        ∧ (s.claim.record.segs.head? ≠ some n → (s.takeBeacon t x edition b).claim.record.state = .idle))
      ∧ (∀ n, s.claim.record.state = .contested → s.claim.record.waitSeg = some n → n ∈ heldSegs b.held →
          (s.takeBeacon t x edition b).claim.record.state = .blocked
          ∧ (s.takeBeacon t x edition b).claim.record.waitSeg = some n
          ∧ (s.takeBeacon t x edition b).claim.record.holder = some x
          ∧ (s.takeBeacon t x edition b).claim.peerWait = some ⟨b.waitingFor, b.urgency⟩)
      ∧ (∀ h, s.claim.record.state = .holdoff → s.claim.record.holdoff = some h → h.partner = x →
          (h.phase = .waiting → b.waitingFor ≠ h.partnerSeg →
            (s.takeBeacon t x edition b).claim.record.state = .idle
            ∧ (s.takeBeacon t x edition b).claim.record.holdoff = none
            ∧ (s.takeBeacon t x edition b).claim.waited = s.claim.waited)
          ∧ (h.phase = .stopping ∨ b.waitingFor = h.partnerSeg →
            (s.takeBeacon t x edition b).claim.record = s.claim.record)) := by
  obtain ⟨hclaim, hcache⟩ := State.responderBeacon_of_none t x edition hfree
  have hkept : ((s.responderBeacon t x edition b.held).cacheBeacon x b.held (s.skipped b)).claim = s.claim := by
    rw [State.cacheBeacon_claim (by rw [hcache]; exact hw) (s.skipped b), hclaim]
    rw [hclaim]
    intro k hk
    rw [ClaimRecord.blockedOn_of_state hstate] at hk
    cases hk
  rw [State.takeBeacon_eq]
  generalize (s.responderBeacon t x edition b.held).cacheBeacon x b.held (s.skipped b) = u at hkept ⊢
  rw [← hkept]
  obtain ⟨hrecord, -, hwaited, -, hfiled⟩ := u.fileReport_claim x ⟨b.waitingFor, b.urgency⟩
  refine ⟨fun hpending n hfirst => ?_, fun n hcontested hseg hlisted => ?_, fun h hholdoff hsome hpartner => ?_⟩
  · rw [State.claimBeacon_of_pending t x b hpending hfirst]
    have hended : ((u.fileReport x ⟨b.waitingFor, b.urgency⟩).endClaim t).claim = _ := State.endClaim_claim t hpending
    obtain ⟨hblocked, -, hpeer, -⟩ :=
      State.enterBlocked_claim ((u.fileReport x ⟨b.waitingFor, b.urgency⟩).endClaim t) n x
    unfold State.beaconEndsClaim
    rw [hrecord]
    split
    next hhead =>
      rw [hblocked, hpeer, State.endClaim_reports, hfiled]
      exact ⟨rfl, fun _ => ⟨rfl, rfl, rfl, rfl⟩, fun hother => absurd hhead hother⟩
    next hhead =>
      rw [hended]
      exact ⟨rfl, fun hfirst => absurd hfirst hhead, fun _ => rfl⟩
  · obtain ⟨hblocked, -, hpeer, -⟩ := State.enterBlocked_claim (u.fileReport x ⟨b.waitingFor, b.urgency⟩) n x
    rw [State.claimBeacon_of_contested t x b hcontested hseg, if_pos (List.contains_iff_mem.2 hlisted), hblocked, hpeer,
      hfiled]
    exact ⟨rfl, rfl, rfl, rfl⟩
  · rw [State.claimBeacon_of_holdoff t x b hholdoff]
    unfold State.beaconHoldoff
    rw [hrecord, hsome]
    simp only
    refine ⟨fun hphase hother => ?_, fun hstands => ?_⟩
    · rw [if_pos ⟨hphase, hpartner, hother⟩, State.toIdle_idle]
      exact ⟨rfl, rfl, hwaited⟩
    · have hnot : ¬(h.phase = .waiting ∧ h.partner = x ∧ b.waitingFor ≠ h.partnerSeg) := fun ⟨hphase, _, hother⟩ =>
        hstands.elim (fun hstop => by rw [hphase] at hstop; cases hstop) hother
      rw [if_neg hnot]
      rfl

/-! ## The other kinds -/

/-- R93: an ENQUIRE that names a held segment is answered by a BEACON, any other by nothing. -/
theorem enquire_is_answered (s : State) (t : Nat) (segs : List Nat) :
    ((∀ n ∈ segs, n ∉ heldSegs s.claim.held) → (s.takeEnquire t segs).line.tx = s.line.tx)
      ∧ ((∃ n ∈ segs, n ∈ heldSegs s.claim.held) → s.line.tx.length < 24 →
          ∃ e ∈ (s.takeEnquire t segs).line.tx, e.content = .beacon ∧ e.kind = 1)
      ∧ (s.takeEnquire t segs).line.rx = s.line.rx ∧ (s.takeEnquire t segs).notice = s.notice := by
  have hany : segs.any (fun n => (heldSegs s.claim.held).contains n) = true ↔ ∃ n ∈ segs, n ∈ heldSegs s.claim.held := by
    simp
  unfold State.takeEnquire
  refine ⟨fun hnone => ?_, fun hsome hroom => ?_, ?_, ?_⟩
  · rw [if_neg fun h => (hany.1 h).elim fun n hn => hnone n hn.1 hn.2]
  · rw [if_pos (hany.2 hsome)]
    obtain ⟨e, he, hbeacon⟩ := State.offerBeacon_on_queue t hroom
    exact ⟨e, he, hbeacon, TxEntry.kind_of_beacon hbeacon⟩
  · split
    · exact (s.offer_receptionKept t 255 .beacon).1
    · rfl
  · split
    · exact (s.offerBeacon_kept t).1
    · rfl

/-- R120: the entries of the source for the listed segments are freed, each other stands; R82: a BLOCKED wait on one ends. -/
theorem release_is_taken (s : State) (x : Nat) (segs : List Nat) (hs : CacheSound s.cache) :
    (∀ k, Table.find s.cache.ways k = none → Table.find (s.takeRelease x segs).cache.ways k = none)
      ∧ (∀ k e, Table.find s.cache.ways k = some e →
          Table.find (s.takeRelease x segs).cache.ways k
            = if e.holder = x ∧ e.seg ∈ segs then freedEntry (some .release) e else some e)
      ∧ (∀ n, s.claim.record.state = .blocked → s.claim.record.holder = some x → s.claim.record.waitSeg = some n →
          n ∈ segs → (s.takeRelease x segs).claim.record.state = .idle)
      ∧ (s.takeRelease x segs).claim.held = s.claim.held := by
  have hcache : (s.takeRelease x segs).cache
      = ((waysOf s.cache.ways x (fun n => segs.contains n)).foldl (fun s k => s.freeWay (some .release) k) s).cache := by
    simp [State.takeRelease, State.cacheRelease]
  have hstays : ClaimStays s (s.cacheRelease x segs) :=
    ClaimStays.foldl (fun s k => s.freeWay_claimStays (some .release) k) _ s
  rw [hcache]
  refine ⟨fun k hk => find_freed_of_none hs.1 _ x _ hk, fun k e hk => ?_, fun n hstate hholder hseg hlisted => ?_, ?_⟩
  · rw [find_freed_waysOf hs.1 _ x _ hk]
    simp only [List.contains_iff_mem]
  · unfold State.takeRelease
    generalize s.cacheRelease x segs = u at hstays ⊢
    obtain hrecord | hrecord := hstays.record
    · have hends : u.claimRelease x segs = u.toIdle := by
        simp only [State.claimRelease, hrecord, hstate, hseg, hholder, List.contains_iff_mem, hlisted, and_self, if_true]
      rw [hends]
      exact State.toIdle_recordState _
    · simp only [State.claimRelease, hrecord, ClaimRecord.toIdle]
  · unfold State.takeRelease State.claimRelease
    rw [← hstays.held]
    split
    · split
      · exact (State.toIdle_reports _).2
      · rfl
    · rfl

/-- R83, R100: a WITHDRAW of the rival, with its number or with none recorded, ends a CONTESTED wait, and nothing else does. -/
theorem withdraw_is_taken (s : State) (x number : Nat) :
    (∀ n, s.claim.record.state = .contested → s.claim.record.rival = some ⟨x, n⟩ → n = none ∨ n = some number →
        (s.takeWithdraw x number).claim.record.state = .idle)
      ∧ (s.claim.record.state ≠ .contested → (s.takeWithdraw x number).claim = s.claim)
      ∧ (∀ r, s.claim.record.rival = some r → r.station ≠ x → (s.takeWithdraw x number).claim = s.claim) := by
  refine ⟨fun n hstate hrival hnumber => ?_, fun hstate => ?_, fun r hrival hother => ?_⟩
  · simp only [State.takeWithdraw, hstate, hrival]
    rw [if_pos ⟨trivial, hnumber⟩]
    exact State.toIdle_recordState _
  · unfold State.takeWithdraw
    split
    next hcontested _ => exact absurd hcontested hstate
    · rfl
  · unfold State.takeWithdraw
    split
    next q _ hq =>
      rw [hrival] at hq
      cases hq
      rw [if_neg fun h => hother h.1]
    · rfl

/-- R101: a RELAY is reported with its source, its destination and its payload. -/
theorem relay_is_reported (s : State) (t x dest : Nat) (payload : List Byte) (hroom : RoomFor s.notice .relayReceived 1) :
    (s.takeRelay t x dest payload).notice.queue
      = s.notice.queue ++ [{ Notice.plain .relayReceived t with
          station := some x, detail := some dest, payload := some payload }] :=
  State.raise_queue hroom

end Sys2Proof.Proofs
end

section
/-! PROOFS. A BEACON taken with a cache table out of its form (R82, R119): the statement on peer frames fails there. -/

-- One declaration at a time: side by side they need more threads than the check's memory holds.
set_option Elab.async false

namespace Sys2Proof.Proofs

open Sys2Proof.Machine Sys2Proof.Safety

/-- An entry for a segment that station 5 holds. -/
def heldBy5 (seg : Nat) : CacheEntry := ⟨seg, 5, some .occupied, .held, 0, [], some .beacon⟩

/-- Two entries under the number of one way, for segment 15 and for segment 31 of the same set: a table out of its form
(R115), which `CacheSound` excludes. -/
def doubledWay : Table CacheEntry := [(60, heldBy5 15), (60, heldBy5 31)]

/-- The BEACON of station 5, which lists segment 15 and not segment 31. -/
def beaconOf5 : Frame := ⟨255, 5, 1, .beacon ⟨15, 0, .forward, .running, 0, 0, 0, [⟨15, .occupied⟩]⟩⟩

/-- Station 9 in RUNNING, BLOCKED on segment 15 behind station 5, whose BEACON is the head of the receive buffer. -/
def behindDoubledWay : State :=
  { State.reset with
    control := { State.reset.control with state := .running, number := 9 }
    line := { State.reset.line with rx := [⟨beaconOf5, 40⟩] }
    claim := { State.reset.claim with
      record := { ClaimRecord.initial with state := .blocked, waitSeg := some 15, holder := some 5 } }
    cache := { State.reset.cache with ways := doubledWay } }

theorem behindDoubledWay_waits :
    behindDoubledWay.line.rx = ⟨beaconOf5, 40⟩ :: []
      ∧ behindDoubledWay.claim.record.state = .blocked ∧ behindDoubledWay.claim.record.waitSeg = some 15
      ∧ behindDoubledWay.claim.record.holder = some 5
      ∧ (∀ e ∈ ([⟨15, .occupied⟩] : List HeldEntry), e.seg ∉ heldSegs behindDoubledWay.claim.held)
      ∧ ¬CacheSound behindDoubledWay.cache := by decide +kernel

/-- The sweep means to free the entry for segment 31; the way's number leads it to the entry for segment 15, whose freeing
is reported, and the wait ends. -/
theorem behindDoubledWay_stops_waiting :
    ∃ t, exec .beaconReceived behindDoubledWay = .next t ∧ t.claim.record.state = .idle :=
  ⟨behindDoubledWay.takeKind 1, rfl, by decide +kernel⟩

/-- Refutes O54: of the wait behind a holder that still lists its segment it asks that the record stays, without the
premise that the cache is sound; with one way doubled in the table the sweep of R119 ends that wait. With the premise it goes
on (`wait_goes_on_of_cacheSound`). -/
theorem not_peerFramesAreTaken : ¬ Obligations.PeerFramesAreTaken := by
  intro h
  obtain ⟨hrx, hblocked, hseg, hholder, hfree, -⟩ := behindDoubledWay_waits
  obtain ⟨u, hu, hidle⟩ := behindDoubledWay_stops_waiting
  obtain ⟨t, ht, -, -, -, -, -, -, -, -, -, -, -, -, -, -, hwait, -⟩ :=
    (h behindDoubledWay beaconOf5 40 [] hrx).1 _ rfl
  have hsame : t = u := by
    rw [hu] at ht
    cases ht
    rfl
  have hrecord := ((hwait hfree).1 15 hblocked hseg hholder (by simp [heldSegs])).1
  rw [hsame] at hrecord
  rw [hrecord, hblocked] at hidle
  cases hidle

end Sys2Proof.Proofs
end

section
/-! PROOFS. FORGET_STATION: what its four steps do to the cache, the responder, the causes and the Claim Engine (R102, R110,
R128; log 26). -/

-- One declaration at a time: side by side they need more threads than the check's memory holds.
set_option Elab.async false

namespace Sys2Proof.Machine

open Sys2Proof.Safety

/-! ## The holdings (R118, R128 item 1) -/

/-- Every way whose entry names `n` as its holder. -/
def holdingsOf (ways : Table CacheEntry) (n : Nat) : List Nat := waysOf ways n (fun _ => true)

theorem holdingsOf_length (ways : Table CacheEntry) (n : Nat) :
    (holdingsOf ways n).length = ways.countP (fun w => w.2.holder == n) := by
  simp [holdingsOf, waysOf, List.countP_eq_length_filter]

@[simp] theorem State.forgetHoldings_frame (s : State) (ways : List Nat) :
    (s.forgetHoldings ways).control = s.control ∧ (s.forgetHoldings ways).resp = s.resp
      ∧ (s.forgetHoldings ways).port = s.port :=
  ⟨foldl_keeps State.control _ (fun _ _ => by simp) _ _, foldl_keeps State.resp _ (fun _ _ => by simp) _ _,
    foldl_keeps State.port _ (fun _ _ => by simp) _ _⟩

/-- The reports of the freed ways end a wait or leave the Claim Engine as it is. -/
theorem State.forgetHoldings_claim (s : State) (ways : List Nat) :
    (s.forgetHoldings ways).claim = s.claim ∨ (s.forgetHoldings ways).claim = s.claim.idle := by
  induction ways generalizing s with
  | nil => exact .inl rfl
  | cons k ways ih =>
    obtain hrest | hrest := ih (s.freeWay none k) <;> obtain hfirst | hfirst := s.freeWay_claim none k <;>
      rw [hfirst] at hrest
    · exact .inl hrest
    · exact .inr hrest
    · exact .inr hrest
    · exact .inr hrest

theorem State.find_forgetHoldings {s : State} (hw : Table.wf s.cache.ways = true) (n : Nat) {k : Nat} {e : CacheEntry}
    (hfind : Table.find s.cache.ways k = some e) :
    Table.find (s.forgetHoldings (holdingsOf s.cache.ways n)).cache.ways k
      = if e.holder = n then freedEntry none e else some e := by
  simpa [State.forgetHoldings, holdingsOf] using find_freed_waysOf hw none n (fun _ => true) hfind

/-! ## The conflicts that remain (R102, R128 item 2) -/

/-- HOLD_CONFLICT leaves the causes, and the station stays in its state. -/
theorem State.settleConflicts_control (s : State) :
    s.settleConflicts.control.state = s.control.state
      ∧ (s.resp.conflicts = [] → s.resp.overflow = false → Cause.holdConflict ∉ s.settleConflicts.control.causes) := by
  unfold State.settleConflicts
  split
  next => exact ⟨rfl, fun _ _ => by simp [State.dropCause]⟩
  next hleft => exact ⟨rfl, fun hnone hclear => by simp [hnone, hclear] at hleft⟩

/-! ## The report and the wait (R110, R128 items 3 and 4) -/

@[simp] theorem State.forgetWait_frame (s : State) (n : Nat) :
    (s.forgetWait n).control = s.control ∧ (s.forgetWait n).resp = s.resp ∧ (s.forgetWait n).cache = s.cache
      ∧ (s.forgetWait n).port = s.port := by
  unfold State.forgetWait
  split <;> simp

/-- The report of `n` goes, and a wait on `n` with it. -/
theorem State.forgetWait_claim (s : State) (n : Nat) :
    (s.forgetWait n).claim
      = { (if s.claim.record.waitsOn n then s.claim.idle else s.claim) with reports := Table.erase s.claim.reports n } := by
  unfold State.forgetWait
  split
  · rw [State.toIdle_idle]; rfl
  · rfl

/-! ## The four steps in turn -/

theorem State.forget_eq (s : State) (n : Nat) :
    s.forget n
      = (((s.forgetHoldings (holdingsOf s.cache.ways n)).setResp (s.resp.forget n)).settleConflicts).forgetWait n := by
  rw [State.forget, (s.forgetHoldings_frame _).2.1]
  rfl

theorem State.forget_blocks (s : State) (n : Nat) :
    (s.forget n).cache = (s.forgetHoldings (holdingsOf s.cache.ways n)).cache ∧ (s.forget n).resp = s.resp.forget n
      ∧ (s.forget n).control.state = s.control.state
      ∧ ((s.resp.forget n).conflicts = [] → s.resp.overflow = false →
          Cause.holdConflict ∉ (s.forget n).control.causes) := by
  obtain ⟨hstate, hcause⟩ := State.settleConflicts_control
    ((s.forgetHoldings (holdingsOf s.cache.ways n)).setResp (s.resp.forget n))
  rw [State.forget_eq, (State.forgetWait_frame _ n).1]
  exact ⟨by simp, by simp, hstate.trans (by simp), hcause⟩

/-- A wait on `n` has ended, by the report of a freed way or, where none ended it, by the last step; the report of `n` is
gone; the waited counter and the held list stand. -/
theorem State.forget_claim (s : State) (n : Nat) :
    Table.find (s.forget n).claim.reports n = none
      ∧ (s.claim.record.waitsOn n = true → (s.forget n).claim.record.state = .idle)
      ∧ (s.forget n).claim.waited = s.claim.waited ∧ (s.forget n).claim.held = s.claim.held := by
  rw [State.forget_eq, State.forgetWait_claim]
  simp only [State.settleConflicts_frame, State.setResp_claim]
  refine ⟨Table.find_erase_self _ n, ?_⟩
  obtain hclaim | hclaim := s.forgetHoldings_claim (holdingsOf s.cache.ways n) <;> rw [hclaim]
  · split
    next => exact ⟨fun _ => rfl, rfl, rfl⟩
    next hno => exact ⟨fun hwaits => absurd hwaits hno, rfl, rfl⟩
  · exact ⟨fun _ => rfl, rfl, rfl⟩

/-! ## The command -/

theorem exec_forgetStation {s u : State} {n : Byte} (h : s.executing 24 [n] = some u) (hs : u.control.state ≠ .setup) :
    exec (.forgetStation [n]) s
      = .next ((u.forgetStation n.toNat).state.placeReply
          ⟨24, (u.forgetStation n.toNat).status, (u.forgetStation n.toNat).results⟩) :=
  congrArg _ (State.hostCommand_taken State.forgetStation h (by simp [notSetup, hs]) rfl)

theorem State.forgetStation_of_station (s : State) {n : Nat} (h : 1 ≤ n ∧ n ≤ 60) :
    s.forgetStation n = ⟨s.forget n, .done, byte (s.cache.ways.countP (fun w => w.2.holder == n))⟩ := by
  rw [State.forgetStation, if_pos ((stationOk_iff n).2 h), ← holdingsOf_length]
  rfl

theorem State.forgetStation_of_no_station (s : State) {n : Nat} (h : ¬(1 ≤ n ∧ n ≤ 60)) :
    s.forgetStation n = ⟨s, .refusedArgument, []⟩ := by
  rw [State.forgetStation, if_neg (by rwa [stationOk_iff])]
  rfl

end Sys2Proof.Machine

namespace Sys2Proof.Proofs

open Sys2Proof.Machine Sys2Proof.Safety

/-- Settles O31: the refusal of a number that is no station's, and the four steps block by block. -/
theorem forgetStationForgetsEverything : Obligations.ForgetStationForgetsEverything := by
  refine fun s u n h hs => ⟨fun hbad => ?_, fun hlo hhi hsound => ?_⟩
  · rw [exec_forgetStation h hs, State.forgetStation_of_no_station u hbad]
  · obtain ⟨hcache, hresp, hstate, hcause⟩ := u.forget_blocks n.toNat
    obtain ⟨hreport, hwait, hwaited, hheld⟩ := u.forget_claim n.toNat
    refine ⟨_, by rw [exec_forgetStation h hs, State.forgetStation_of_station u ⟨hlo, hhi⟩], ?_⟩
    simp only [State.placeReply_frame]
    refine ⟨fun k e hfind => ?_, by rw [hresp]; rfl, by rw [hresp]; rfl, by rw [hresp]; rfl, fun hnone => ?_, hstate,
      hreport, hwait, hwaited, hheld, rfl⟩
    · rw [hcache, State.find_forgetHoldings hsound.1 _ hfind]
      simp only [freedEntry, List.isEmpty_iff, CacheEntry.placeholder]
    · exact hcause (hresp ▸ hnone)

end Sys2Proof.Proofs
end

section
/-! PROOFS. The row of an expired wait: the count put above the limit, the one report and the wait-limit yield (R112,
R113). -/

-- One declaration at a time: side by side they need more threads than the check's memory holds.
set_option Elab.async false

namespace Sys2Proof.Machine

/-- The expiry writes its mark, and in BLOCKED and CONTESTED the yield outstanding; the wait itself goes on. -/
theorem State.expireWait_wait_kept (s : State) (t : Nat) :
    (s.expireWait t).claim.record = s.claim.record ∧ (s.expireWait t).claim.held = s.claim.held
      ∧ (s.expireWait t).claim.waited = s.claim.waited := by
  by_cases h : s.claim.record.state = .blocked ∨ s.claim.record.state = .contested
  · rw [State.expireWait_of_wait t h]
    exact ⟨rfl, rfl, rfl⟩
  · obtain ⟨hb, hc⟩ := not_or.1 h
    rw [State.expireWait_of_other t hb hc]
    exact ⟨rfl, rfl, rfl⟩

theorem State.passWaitLimit_passed (s : State) :
    100 * s.params.waitLimit < s.passWaitLimit.claim.waited ∧ s.claim.waited ≤ s.passWaitLimit.claim.waited :=
  ⟨Nat.lt_of_succ_le (Nat.le_max_right _ _), Nat.le_max_left _ _⟩

theorem exec_waitExpired_of_clear {s : State} (hwait : s.claim.record.state.isWait = true)
    (hclear : s.claim.expired = false) : exec .waitExpired s = .next (s.passWaitLimit.expireWait s.now) := by
  change Host.Outcome.next s.waitDue = _
  rw [State.waitDue, if_pos ⟨hwait, hclear⟩]

theorem exec_waitExpired_of_marked {s : State} (hmarked : s.claim.expired = true) : exec .waitExpired s = .next s := by
  change Host.Outcome.next s.waitDue = _
  rw [State.waitDue, if_neg (by simp [hmarked])]

end Sys2Proof.Machine

namespace Sys2Proof.Proofs

open Sys2Proof.Machine Sys2Proof.Safety

/-- Settles O49: with the mark clear the row is the expiry of R112 (`wait_expires`) with the count put above the limit. -/
theorem expiredWaitIsReportedOnce : Obligations.ExpiredWaitIsReportedOnce := by
  refine fun s hwait => ⟨exec_waitExpired_of_marked, fun hclear => ?_⟩
  obtain ⟨hpassed, hcounted⟩ := s.passWaitLimit_passed
  obtain ⟨-, hexpired, hyield, hholdoff, hnotice⟩ := wait_expires s.passWaitLimit s.now hwait hclear hpassed
  obtain ⟨hrecord, hheld, hwaited⟩ := s.passWaitLimit.expireWait_wait_kept s.now
  refine ⟨_, exec_waitExpired_of_clear hwait hclear, hexpired, hwaited ▸ hpassed, hwaited ▸ hcounted, hrecord, hheld,
    hyield, hholdoff, fun hroom => ?_, ?_⟩
  · exact ⟨_, hnotice hroom, rfl, rfl, rfl, congrArg some hwaited.symm⟩
  · simp only [State.expireWait_frame]
    exact ⟨rfl, rfl, rfl, rfl⟩

end Sys2Proof.Proofs
end

section
/-! PROOFS. The cache's table (R115): insertions and removals as rearrangements of its entries, and the soundness of the
cache through each change that an operation makes of the table (R117, R118, R123 to R125, R127). -/

-- One declaration at a time: side by side they need more threads than the check's memory holds.
set_option Elab.async false

namespace Sys2Proof.Machine

open Sys2Proof.Safety

/-! ## Entries put in, taken out and passed through a function -/

theorem Table.erase_of_find_none {α : Type} {t : Table α} {k : Nat} (h : Table.find t k = none) :
    Table.erase t k = t := by
  induction t with
  | nil => rfl
  | cons w t ih =>
    rw [Table.find] at h
    split at h
    · cases h
    next hw => rw [Table.erase, List.filter_cons_of_pos (by simpa using hw), ← Table.erase, ih h]

/-- Below the first key a table has no entry. -/
theorem Table.find_of_lt {α : Type} {t : Table α} {k : Nat} (h : ∀ w ∈ t, k < w.1) : Table.find t k = none := by
  rw [Option.eq_none_iff_forall_ne_some]
  exact fun v hv => (h _ (Table.mem_of_find hv)).false

theorem Table.insert_perm {α : Type} {t : Table α} (ht : Table.wf t = true) (k : Nat) (v : α) :
    (Table.insert t k v).Perm ((k, v) :: Table.erase t k) := by
  rw [Table.wf_iff] at ht
  induction t with
  | nil => exact .refl _
  | cons w t ih =>
    obtain ⟨j, u⟩ := w
    obtain ⟨hj, hrest⟩ := List.pairwise_cons.1 ht
    rw [Table.insert]
    split
    next hlt =>
      rw [Table.erase_of_find_none (Table.find_of_lt (List.forall_mem_cons.2 ⟨hlt, fun w hw => hlt.trans (hj w hw)⟩))]
    next hle =>
      split
      next heq =>
        obtain rfl : j = k := beq_iff_eq.1 heq
        have hsame : Table.erase ((j, u) :: t) j = Table.erase t j := List.filter_cons_of_neg (by simp)
        rw [hsame, Table.erase_of_find_none (Table.find_of_lt hj)]
      next hne =>
        have hstays : Table.erase ((j, u) :: t) k = (j, u) :: Table.erase t k :=
          List.filter_cons_of_pos (by simpa using hne)
        rw [hstays]
        exact ((ih hrest).cons _).trans (.swap _ _ _)

/-- An entry of a table with what remains when it is taken out. -/
theorem Table.erase_perm {α : Type} {t : Table α} (ht : Table.wf t = true) {k : Nat} {v : α}
    (h : Table.find t k = some v) :
    t.Perm ((k, v) :: Table.erase t k) := by
  induction t with
  | nil => cases h
  | cons w t ih =>
    rw [Table.wf_iff] at ht
    obtain ⟨j, u⟩ := w
    obtain ⟨hj, hrest⟩ := List.pairwise_cons.1 ht
    rw [Table.find] at h
    split at h
    next heq =>
      cases h
      obtain rfl : j = k := beq_iff_eq.1 heq
      have hsame : Table.erase ((j, v) :: t) j = Table.erase t j := List.filter_cons_of_neg (by simp)
      rw [hsame, Table.erase_of_find_none (Table.find_of_lt hj)]
    next hne =>
      have hstays : Table.erase ((j, u) :: t) k = (j, u) :: Table.erase t k :=
        List.filter_cons_of_pos (by simpa using hne)
      rw [hstays]
      exact ((ih ((Table.wf_iff t).2 hrest) h).cons _).trans (.swap _ _ _)

theorem Table.length_erase {α : Type} {t : Table α} (ht : Table.wf t = true) {k : Nat} {v : α}
    (h : Table.find t k = some v) :
    t.length = (Table.erase t k).length + 1 :=
  (Table.erase_perm ht h).length_eq

/-- A function that keeps the keys acts on the entry of each key. -/
theorem Table.find_filterMap {α : Type} {t : Table α} (ht : Table.wf t = true) {f : Nat × α → Option (Nat × α)}
    (hf : ∀ w v, f w = some v → v.1 = w.1) (k : Nat) :
    Table.find (t.filterMap f) k = (Table.find t k).bind (fun v => (f (k, v)).map Prod.snd) := by
  rw [Table.wf_iff] at ht
  induction t with
  | nil => rfl
  | cons w t ih =>
    obtain ⟨j, v⟩ := w
    obtain ⟨hj, hrest⟩ := List.pairwise_cons.1 ht
    have hlater : j = k → Table.find (t.filterMap f) k = none := by
      rintro rfl
      refine Table.find_of_lt fun u hu => ?_
      obtain ⟨w, hw, hfw⟩ := List.mem_filterMap.1 hu
      exact hf w u hfw ▸ hj w hw
    by_cases hk : j = k
    · subst hk
      cases hfv : f (j, v) with
      | none => simp [hfv, Table.find, hlater]
      | some u => simp [hfv, Table.find, hf _ _ hfv]
    · cases hfv : f (j, v) with
      | none => simp [hfv, Table.find, hk, ih hrest]
      | some u => simp [hfv, Table.find, hf _ _ hfv, hk, ih hrest]

theorem Table.find_map {α : Type} (t : Table α) (f : α → α) (k : Nat) :
    Table.find (t.map (fun w => (w.1, f w.2))) k = (Table.find t k).map f := by
  induction t with
  | nil => rfl
  | cons w t ih =>
    simp only [List.map_cons, Table.find, ih]
    split <;> rfl

/-- The pinned entries of a set after an entry was put in. -/
theorem pinnedIn_insert {ways : Table CacheEntry} (hw : Table.wf ways = true) (k : Nat) (e : CacheEntry) (set : Nat) :
    pinnedIn (Table.insert ways k e) set
      = pinnedIn (Table.erase ways k) set + if (k / 4 == set && !e.pins.isEmpty) = true then 1 else 0 := by
  rw [pinnedIn, (Table.insert_perm hw k e).countP_eq, List.countP_cons, ← pinnedIn]

/-- The pinned entries of a set with one of its entries counted apart. -/
theorem pinnedIn_of_find {ways : Table CacheEntry} (hw : Table.wf ways = true) {k : Nat} {e : CacheEntry}
    (h : Table.find ways k = some e) (set : Nat) :
    pinnedIn ways set
      = pinnedIn (Table.erase ways k) set + if (k / 4 == set && !e.pins.isEmpty) = true then 1 else 0 := by
  rw [pinnedIn, (Table.erase_perm hw h).countP_eq, List.countP_cons, ← pinnedIn]

/-! ## The sound cache -/

/-- The soundness of the cache, with its parts named (R115, R124). -/
structure SoundEntries (ways : Table CacheEntry) : Prop where
  sorted : Table.wf ways = true
  entries : ∀ w ∈ ways, w.1 < 64 ∧ w.1 / 4 = cacheSet w.2.seg ∧ EntrySound w.2
  alone : (ways.map (fun w => w.2.seg)).Nodup
  pinned : ∀ set < 16, pinnedIn ways set ≤ 3

theorem soundEntries_iff (c : PeerCache) : SoundEntries c.ways ↔ CacheSound c :=
  ⟨fun ⟨hsorted, hentries, halone, hpinned⟩ => ⟨hsorted, hentries, halone, hpinned⟩,
    fun ⟨hsorted, hentries, halone, hpinned⟩ => ⟨hsorted, hentries, halone, hpinned⟩⟩

namespace SoundEntries

variable {ways : Table CacheEntry} {c : PeerCache}

theorem inOwnSets (h : SoundEntries ways) : InOwnSets ways := fun w hw => (h.entries w hw).2.1

/-- Two entries of one segment are one entry. -/
theorem eq_of_seg (h : SoundEntries ways) {v w : Nat × CacheEntry} (hv : v ∈ ways) (hw : w ∈ ways)
    (hseg : v.2.seg = w.2.seg) : v = w :=
  List.inj_on_of_nodup_map h.alone hv hw hseg

/-- A segment's entry is the one that the lookup finds. -/
theorem findEntry_of_mem (h : SoundEntries ways) {w : Nat × CacheEntry} (hw : w ∈ ways) :
    findEntry ways w.2.seg = some w := by
  cases hfound : findEntry ways w.2.seg with
  | none => exact absurd rfl ((findEntry_eq_none h.inOwnSets _).1 hfound w hw)
  | some v =>
    obtain ⟨hv, hseg, -⟩ := mem_of_findEntry hfound
    exact congrArg some (h.eq_of_seg hv hw hseg)

theorem nil : SoundEntries [] := by
  constructor <;> simp [Table.wf, pinnedIn]

/-- Entries that leave leave the others sound. -/
theorem sublist (h : SoundEntries ways) {rest : Table CacheEntry} (hsub : rest.Sublist ways) :
    SoundEntries rest := by
  obtain ⟨hwf, hways, halone, hpinned⟩ := h
  refine ⟨(Table.wf_iff _).2 (((Table.wf_iff _).1 hwf).sublist hsub), fun w hw => hways w (hsub.subset hw),
    halone.sublist (hsub.map _), fun set hset => (hsub.countP_le).trans (hpinned set hset)⟩

theorem erase (h : SoundEntries ways) (k : Nat) : SoundEntries (Table.erase ways k) :=
  h.sublist List.filter_sublist

/-- An entry goes into a way of its set, where its segment has no other entry and its pins find a place. -/
theorem insert (h : SoundEntries ways) {k : Nat} {e : CacheEntry} (hset : k / 4 = cacheSet e.seg)
    (he : EntrySound e) (halone : ∀ w ∈ ways, w.2.seg = e.seg → w.1 = k)
    (hpins : e.pins ≠ [] → (∃ old, Table.find ways k = some old ∧ old.pins ≠ []) ∨ pinnedIn ways (cacheSet e.seg) < 3) :
    SoundEntries (Table.insert ways k e) := by
  have hperm := Table.insert_perm h.sorted k e
  have hsub : (Table.erase ways k).Sublist ways := List.filter_sublist
  obtain ⟨hwf, hways, hnodup, hpinned⟩ := h
  refine ⟨Table.wf_insert _ _ _ hwf, fun w hw => ?_, ?_, fun set hlt => ?_⟩
  · obtain rfl | hw := Table.mem_insert _ _ _ _ hw
    · exact ⟨by dsimp only; have : cacheSet e.seg < 16 := Nat.mod_lt _ (by decide); omega, hset, he⟩
    · exact hways w hw
  · rw [(hperm.map _).nodup_iff, List.map_cons, List.nodup_cons]
    refine ⟨fun hin => ?_, hnodup.sublist (hsub.map _)⟩
    obtain ⟨w, hw, hseg⟩ := List.mem_map.1 hin
    have hkey := halone w (hsub.subset hw) hseg
    simp [Table.erase, hkey] at hw
  · have hold : pinnedIn (Table.erase ways k) set ≤ pinnedIn ways set := hsub.countP_le
    have hle := hpinned set hlt
    rw [pinnedIn_insert hwf]
    split
    next hpin =>
      simp only [Bool.and_eq_true, beq_iff_eq, Bool.not_eq_true', List.isEmpty_eq_false_iff] at hpin
      obtain ⟨rfl, hpin⟩ := hpin
      obtain ⟨old, hfind, hpin⟩ | hroom := hpins hpin
      · rwa [pinnedIn_of_find hwf hfind, if_pos (by simp [hpin])] at hle
      · rw [← hset] at hroom
        omega
    · omega

/-- Entries that stay in their ways with their segments, gain no pins and stay sound leave the cache sound. -/
theorem filterMap (h : SoundEntries ways) {f : Nat × CacheEntry → Option (Nat × CacheEntry)}
    (hf : ∀ w v, f w = some v → v.1 = w.1 ∧ v.2.seg = w.2.seg ∧ (v.2.pins ≠ [] → w.2.pins ≠ [])
      ∧ (EntrySound w.2 → EntrySound v.2)) :
    SoundEntries (ways.filterMap f) := by
  obtain ⟨hwf, hways, hnodup, hpinned⟩ := h
  refine ⟨?_, fun v hv => ?_, ?_, fun set hlt => le_trans ?_ (hpinned set hlt)⟩
  · rw [Table.wf_iff] at hwf ⊢
    refine List.Pairwise.filterMap f (fun v w hvw v' hv' w' hw' => ?_) hwf
    rw [(hf _ _ hv').1, (hf _ _ hw').1]
    exact hvw
  · obtain ⟨w, hw, hfw⟩ := List.mem_filterMap.1 hv
    obtain ⟨hkey, hseg, -, hsound⟩ := hf w v hfw
    obtain ⟨hlt, hset, he⟩ := hways w hw
    rw [hkey, hseg]
    exact ⟨hlt, hset, hsound he⟩
  · rw [List.Nodup, List.pairwise_map] at hnodup ⊢
    refine List.Pairwise.filterMap f (fun v w hvw v' hv' w' hw' => ?_) hnodup
    rw [(hf _ _ hv').2.1, (hf _ _ hw').2.1]
    exact hvw
  · simp only [pinnedIn, List.countP_filterMap]
    refine List.countP_mono_left fun w _ hpin => ?_
    cases hfw : f w with
    | none => simp [hfw] at hpin
    | some v =>
      obtain ⟨hkey, -, hpins, -⟩ := hf w v hfw
      simp only [hfw, Option.map_some, Option.getD_some, Bool.and_eq_true, beq_iff_eq, Bool.not_eq_true',
        List.isEmpty_eq_false_iff] at hpin ⊢
      exact ⟨hkey ▸ hpin.1, hpins hpin.2⟩

/-- An entry rewritten in its way: it keeps its segment, and is pinned only where it was or where the set has room. -/
theorem rewrite (h : SoundEntries ways) {k : Nat} {e f : CacheEntry} (he : (k, e) ∈ ways)
    (hseg : f.seg = e.seg) (hf : EntrySound f) (hpins : f.pins ≠ [] → e.pins ≠ [] ∨ pinnedIn ways (cacheSet e.seg) < 3) :
    SoundEntries (Table.insert ways k f) := by
  have hfind := Table.find_of_mem h.sorted he
  refine h.insert (by rw [hseg]; exact (h.entries _ he).2.1) hf (fun w hw hsame => ?_) (fun hpin => ?_)
  · rw [h.eq_of_seg hw he (hsame.trans hseg)]
  · rw [hseg]
    exact (hpins hpin).imp_left fun hold => ⟨e, hfind, hold⟩

/-- An entry of a segment without one goes into the victim way of its set. -/
theorem fillVictim (h : SoundEntries ways) {k : Nat} {e : CacheEntry} {barred : List Nat}
    (hvictim : victim ways (cacheSet e.seg) barred = some k) (hmissing : findEntry ways e.seg = none) (he : EntrySound e)
    (hpins : e.pins ≠ [] → pinnedIn ways (cacheSet e.seg) < 3) : SoundEntries (Table.insert ways k e) :=
  h.insert (victim_spec hvictim).1 he
    (fun w hw hseg => absurd hseg ((findEntry_eq_none h.inOwnSets _).1 hmissing w hw))
    (fun hpin => .inr (hpins hpin))

/-! ## The cache's own operations -/

theorem pin (h : SoundEntries c.ways) (tag seg : Nat) : SoundEntries (c.pin tag seg).ways := by
  unfold PeerCache.pin
  split
  next k e hfound =>
    obtain ⟨he, rfl, -⟩ := mem_of_findEntry hfound
    split
    · exact h
    split
    · exact h
    next hroom =>
      refine h.rewrite he rfl (fun hnone => ?_) (fun _ => ?_)
      · obtain ⟨hholder, hmark, hage, -⟩ := (h.entries _ he).2.2 hnone
        exact ⟨hholder, hmark, hage, by simp⟩
      · simpa [or_iff_not_imp_left] using hroom
  next hmissing =>
    split
    · exact h
    next hroom =>
      split
      next hvictim =>
        exact h.fillVictim (e := ⟨seg, 0, none, .none, 0, [tag], none⟩) hvictim hmissing
          (fun _ => ⟨rfl, rfl, rfl, by simp⟩) (fun _ => Nat.lt_of_not_le hroom)
      · exact h

theorem unpin (h : SoundEntries c.ways) (tag : Nat) (p : Nat → Bool) : SoundEntries (c.unpin tag p).ways := by
  refine h.filterMap (fun w v hv => ?_)
  simp only [unpinEntry] at hv
  split at hv
  · split at hv
    · cases hv
    next hkept =>
      cases hv
      refine ⟨rfl, rfl, fun hpins hnil => hpins (by simp [hnil]), fun hw hnone => ?_⟩
      obtain ⟨hholder, hmark, hage, -⟩ := hw hnone
      have hstatus : w.2.status = .none := hnone
      exact ⟨hholder, hmark, hage, by simpa [hstatus] using hkept⟩
  · cases hv
    exact ⟨rfl, rfl, id, id⟩

theorem pinPath (h : SoundEntries c.ways) (tag : Nat) (path : List Nat) :
    SoundEntries (c.pinPath tag path).ways := by
  have hpins (l : List Nat) (d : PeerCache) (hd : SoundEntries d.ways) :
      SoundEntries (l.foldl (fun d seg => d.pin tag seg) d).ways := by
    induction l generalizing d with
    | nil => exact hd
    | cons seg l ih => exact ih _ (hd.pin tag seg)
  exact hpins path _ (h.unpin tag _)

/-- A ms ages an entry, but no placeholder (R123). -/
theorem tick (h : SoundEntries c.ways) (limit : Nat) : SoundEntries (c.tick limit).ways := by
  have hmap : c.ways.map (fun w => (w.1, w.2.tick limit)) = c.ways.filterMap (fun w => some (w.1, w.2.tick limit)) :=
    (congrFun (List.filterMap_eq_map (f := fun w : Nat × CacheEntry => (w.1, w.2.tick limit))) c.ways).symm
  unfold PeerCache.tick
  rw [hmap]
  refine h.filterMap (fun w v hv => ?_)
  cases hv
  dsimp only [CacheEntry.tick]
  split
  · refine ⟨rfl, rfl, id, fun _ hnone => ?_⟩
    dsimp only at hnone
    split at hnone <;> cases hnone
  next hstale => exact ⟨rfl, rfl, id, fun _ hnone => absurd (hstale.symm.trans hnone) nofun⟩
  · exact ⟨rfl, rfl, id, id⟩

/-- A placeholder left by a pinned entry is sound (R118). -/
theorem entrySound_placeholder {e : CacheEntry} (source : Option Source) (h : e.pins ≠ []) :
    EntrySound (e.placeholder source) :=
  fun _ => ⟨rfl, rfl, rfl, h⟩

theorem freedWays (h : SoundEntries ways) (source : Option Source) (k : Nat) :
    SoundEntries (Machine.freedWays ways source k) := by
  unfold Machine.freedWays
  split
  · exact h
  next e he =>
    split
    · exact h.erase k
    next hpins =>
      have hpinned : e.pins ≠ [] := by simpa using hpins
      exact h.rewrite (Table.mem_of_find he) rfl (entrySound_placeholder source hpinned) (fun _ => .inl hpinned)

theorem writeHolding {s : State} (h : SoundEntries s.cache.ways) (seg x : Nat) (mark : Mark) (source : Source)
    (barred : List Nat) : SoundEntries (s.writeHolding seg x mark source barred).cache.ways := by
  simp only [State.writeHolding]
  split
  next k e hfound =>
    obtain ⟨he, -, -⟩ := mem_of_findEntry hfound
    have hwritten : SoundEntries (Table.insert s.cache.ways k
        { e with holder := x, mark := some mark, status := .held, age := 0, source := some source }) :=
      h.rewrite he rfl nofun .inl
    split
    · simpa [State.setWays] using hwritten
    · exact hwritten
  next hmissing =>
    split
    next hvictim =>
      exact h.fillVictim (e := ⟨seg, x, some mark, .held, 0, [], some source⟩) hvictim hmissing nofun (absurd rfl)
    · exact h

end SoundEntries

end Sys2Proof.Machine
end

section
/-! PROOFS. The queue of commands and the soundness of the cache (R115, R124) through the operations of the model: the cache's
own, the orders, a halt, the position, the lift and the control step. -/

-- One declaration at a time: side by side they need more threads than the check's memory holds.
set_option Elab.async false

namespace Sys2Proof.Machine

open Sys2Proof.Safety

/-- From `s` to `t` the queue of commands is unchanged and the cache stays sound. -/
structure QueueCacheKept (s t : State) : Prop where
  pending : t.pending = s.pending
  cache : SoundEntries s.cache.ways → SoundEntries t.cache.ways

namespace QueueCacheKept

variable {s₀ s t : State}

theorem refl (s : State) : QueueCacheKept s s := ⟨rfl, id⟩

/-- An operation that leaves the queue of commands as it is and the cache sound. -/
theorem step (h : QueueCacheKept s₀ s) (hcache : SoundEntries s.cache.ways → SoundEntries t.cache.ways)
    (hpending : t.pending = s.pending := by simp) : QueueCacheKept s₀ t :=
  ⟨hpending.trans h.pending, hcache ∘ h.cache⟩

/-- An operation that leaves the cache as it is. -/
theorem unchanged (h : QueueCacheKept s₀ s) (hcache : t.cache = s.cache := by simp)
    (hpending : t.pending = s.pending := by simp) : QueueCacheKept s₀ t :=
  h.step (fun hs => hcache ▸ hs) hpending

theorem foldl {α : Type} {f : State → α → State} (h : QueueCacheKept s₀ s)
    (hf : ∀ u x, QueueCacheKept s₀ u → QueueCacheKept s₀ (f u x)) (l : List α) : QueueCacheKept s₀ (l.foldl f s) := by
  induction l generalizing s with
  | nil => exact h
  | cons x l ih => exact ih (hf s x h)

theorem raise (h : QueueCacheKept s₀ s) (n : Notice) : QueueCacheKept s₀ (s.raise n) := h.unchanged

theorem bodyMoved (h : QueueCacheKept s₀ s) (t : Nat) (before : List Nat) : QueueCacheKept s₀ (s.bodyMoved t before) :=
  h.unchanged

/-! ## The cache's own operations (R117 to R122, R127) -/

theorem writeHolding (h : QueueCacheKept s₀ s) (seg x : Nat) (mark : Mark) (source : Source) (barred : List Nat) :
    QueueCacheKept s₀ (s.writeHolding seg x mark source barred) :=
  h.step (fun hs => hs.writeHolding seg x mark source barred)

theorem freeWay (h : QueueCacheKept s₀ s) (source : Option Source) (k : Nat) : QueueCacheKept s₀ (s.freeWay source k) :=
  h.step (fun hs => by rw [State.freeWay_ways]; exact hs.freedWays source k)

theorem invalidateWay (h : QueueCacheKept s₀ s) (k : Nat) : QueueCacheKept s₀ (s.invalidateWay k) := by
  refine h.step (fun hs => ?_)
  unfold State.invalidateWay
  split
  · exact hs
  · simpa [State.setWays] using hs.erase k

theorem cacheBeacon (h : QueueCacheKept s₀ s) (x : Nat) (listed : List HeldEntry) (skip : List Nat) :
    QueueCacheKept s₀ (s.cacheBeacon x listed skip) := by
  have hrefresh (u : State) (e : HeldEntry) (hu : QueueCacheKept s₀ u) : QueueCacheKept s₀ (u.refresh x e) := by
    unfold State.refresh
    split
    · exact hu.writeHolding _ _ _ _ _
    · exact hu
  have hfill (barred : List Nat) (u : State) (e : HeldEntry) (hu : QueueCacheKept s₀ u) :
      QueueCacheKept s₀ (u.fill x barred e) := by
    unfold State.fill
    split
    · exact hu.writeHolding _ _ _ _ _
    · exact hu
  have hswept : QueueCacheKept s₀ (s.sweep x (heldSegs listed)) := h.foldl (fun _ k hu => hu.freeWay (some .beacon) k) _
  exact (hswept.foldl hrefresh _).foldl (hfill _) _

theorem cacheRelease (h : QueueCacheKept s₀ s) (x : Nat) (segs : List Nat) : QueueCacheKept s₀ (s.cacheRelease x segs) :=
  h.foldl (fun _ k hu => hu.freeWay (some .release) k) _

theorem cacheJoin (h : QueueCacheKept s₀ s) (segs : List Nat) : QueueCacheKept s₀ (s.cacheJoin segs) :=
  h.foldl (fun _ k hu => hu.freeWay none k) _

/-! ## Orders (R125, R160, R165) -/

theorem removeOrder (h : QueueCacheKept s₀ s) (tag : Nat) : QueueCacheKept s₀ (s.removeOrder tag) := by
  refine h.step (fun hs => ?_)
  have hcache : (s.removeOrder tag).cache = s.cache.unpin tag (fun _ => true) := by simp [State.removeOrder]
  rw [hcache]
  exact hs.unpin tag _

theorem orderDone (h : QueueCacheKept s₀ s) (t : Nat) (o : Order) : QueueCacheKept s₀ (s.orderDone t o) :=
  (h.removeOrder o.tag).raise _

theorem orderCancelled (h : QueueCacheKept s₀ s) (t : Nat) (o : Order) : QueueCacheKept s₀ (s.orderCancelled t o) :=
  (h.removeOrder o.tag).raise _

theorem orderFailed (h : QueueCacheKept s₀ s) (t : Nat) (o : Order) (why : FailReason) (seg : Option Nat) :
    QueueCacheKept s₀ (s.orderFailed t o why seg) := (h.removeOrder o.tag).raise _

theorem cancelMarked (h : QueueCacheKept s₀ s) (t : Nat) (o : Order) : QueueCacheKept s₀ (s.cancelMarked t o) :=
  unchanged (h.orderCancelled t o) rfl rfl

/-! ## Halts (R26, R27, R34) -/

theorem haltOrders (h : QueueCacheKept s₀ s) (t : Nat) : QueueCacheKept s₀ (s.haltOrders t) := by
  unfold State.haltOrders
  split
  · exact h
  split
  · exact h.cancelMarked t _
  · exact h.unchanged

theorem enterHalted (h : QueueCacheKept s₀ s) (t : Nat) : QueueCacheKept s₀ (s.enterHalted t) := haltOrders h.unchanged t

theorem halt (h : QueueCacheKept s₀ s) (t : Nat) (c : Cause) : QueueCacheKept s₀ (s.halt t c) := by
  have hcause : QueueCacheKept s₀ (s.addCause c) := h.unchanged
  unfold State.halt
  split
  · exact h
  · exact hcause
  all_goals exact hcause.enterHalted t

theorem haltWith (h : QueueCacheKept s₀ s) (t : Nat) (r : HaltReport) : QueueCacheKept s₀ (s.haltWith t r) :=
  halt h.unchanged t r.cause

theorem overrunCheck (h : QueueCacheKept s₀ s) (t : Nat) : QueueCacheKept s₀ (s.overrunCheck t) := by
  unfold State.overrunCheck
  split
  case h_3 => exact h
  all_goals
    split
    · exact h.unchanged
    split
    · exact h
    · exact haltWith h.unchanged t _

theorem newAuthority (h : QueueCacheKept s₀ s) (t : Nat) : QueueCacheKept s₀ (s.newAuthority t) := overrunCheck h.unchanged t

theorem stopRelease (h : QueueCacheKept s₀ s) (t : Nat) : QueueCacheKept s₀ (s.stopRelease t) := newAuthority h.unchanged t

/-! ## The position (R11 to R20) -/

theorem positionLost (h : QueueCacheKept s₀ s) (t seg : Nat) : QueueCacheKept s₀ (s.positionLost t seg) :=
  haltWith h.unchanged t _

theorem reckon (h : QueueCacheKept s₀ s) (t um : Nat) : QueueCacheKept s₀ (s.reckon t um) := by
  simp only [State.reckon]
  split
  · exact h
  split
  · exact positionLost h.unchanged t _
  · exact h.unchanged

theorem missCheck (h : QueueCacheKept s₀ s) (t : Nat) : QueueCacheKept s₀ (s.missCheck t) := by
  unfold State.missCheck
  split
  · exact h
  split
  · exact h
  split
  · exact h
  split
  · exact h.unchanged
  split
  · exact h.positionLost t _
  · exact h

theorem positionStep (h : QueueCacheKept s₀ s) (t pulses : Nat) : QueueCacheKept s₀ (s.positionStep t pulses) :=
  bodyMoved (missCheck (reckon h.unchanged t _) t) t _

theorem mappedRead (h : QueueCacheKept s₀ s) (t : Nat) (m : Marker) : QueueCacheKept s₀ (s.mappedRead t m) := by
  simp only [State.mappedRead]
  split
  · exact h
  split
  · exact h.haltWith t _
  split
  · exact h.haltWith t _
  split
  · exact h.haltWith t _
  · exact h.unchanged

theorem tagRead (h : QueueCacheKept s₀ s) (t code : Nat) : QueueCacheKept s₀ (s.tagRead t code) := by
  unfold State.tagRead
  split
  · exact h.unchanged
  split
  · exact h.mappedRead t _
  · exact h.unchanged

/-! ## The lift (R164, R168 to R172) -/

theorem liftSuccess (h : QueueCacheKept s₀ s) (t : Nat) : QueueCacheKept s₀ (s.liftSuccess t) := by
  simp only [State.liftSuccess]
  split
  · exact h.unchanged
  split
  · exact h.unchanged
  · exact orderDone h.unchanged t _

theorem judgeSensors (h : QueueCacheKept s₀ s) (t : Nat) : QueueCacheKept s₀ (s.judgeSensors t) := by
  have hreached : QueueCacheKept s₀ (s.liftReached t) := by
    simp only [State.liftReached]
    split
    · exact liftSuccess h.unchanged t
    · exact liftSuccess h.unchanged t
    all_goals exact h
  unfold State.judgeSensors
  split
  · exact hreached
  · exact hreached
  · exact h

theorem beginLift (h : QueueCacheKept s₀ s) (t tag : Nat) (action : EndAction) :
    QueueCacheKept s₀ (s.beginLift t tag action) := by
  simp only [State.beginLift]
  split
  · exact judgeSensors h.unchanged t
  · exact judgeSensors h.unchanged t
  · exact liftSuccess h.unchanged t
  · exact liftSuccess h.unchanged t
  · exact h

theorem liftTimeout (h : QueueCacheKept s₀ s) (t : Nat) : QueueCacheKept s₀ (s.liftTimeout t) := by
  simp only [State.liftTimeout]
  split
  · exact h.unchanged
  split
  · exact h.unchanged
  · exact orderFailed h.unchanged t _ _ _

/-! ## The figures, the drive and the latch (R134 to R140, R143, R145, R147) -/

theorem figuresStep (h : QueueCacheKept s₀ s) (t : Nat) : QueueCacheKept s₀ (s.figuresStep t) := overrunCheck h.unchanged t

theorem obstacleCheck (h : QueueCacheKept s₀ s) (t : Nat) : QueueCacheKept s₀ (s.obstacleCheck t) := by
  unfold State.obstacleCheck
  split
  · exact h.haltWith t _
  · exact h

theorem raiseStall (h : QueueCacheKept s₀ s) (t : Nat) : QueueCacheKept s₀ (s.raiseStall t) := haltWith h.unchanged t _

theorem stallStep (h : QueueCacheKept s₀ s) (t : Nat) : QueueCacheKept s₀ (s.stallStep t) := by
  unfold State.stallStep
  split
  · split
    · split
      · exact h.raiseStall t
      · exact h.unchanged
    · exact h.unchanged
  · exact h

theorem emergencyComplete (h : QueueCacheKept s₀ s) (t : Nat) : QueueCacheKept s₀ (s.emergencyComplete t) := by
  simp only [State.emergencyComplete]
  split
  · exact h.unchanged
  · exact stopRelease h.unchanged t

theorem latchStep (h : QueueCacheKept s₀ s) (t : Nat) : QueueCacheKept s₀ (s.latchStep t) := by
  unfold State.latchStep
  split
  · exact h
  · split
    · split
      · exact h.emergencyComplete t
      · exact h.unchanged
    · exact h.unchanged
  · split
    · exact h
    · exact h.unchanged

/-! ## Service stops, reversal and arrival (R142, R148, R149, R163) -/

theorem cancelStopped (h : QueueCacheKept s₀ s) (t : Nat) : QueueCacheKept s₀ (s.cancelStopped t) := by
  unfold State.cancelStopped
  split
  · exact h
  split
  · exact h.cancelMarked t _
  · exact h

theorem serviceComplete (h : QueueCacheKept s₀ s) (t : Nat) : QueueCacheKept s₀ (s.serviceComplete t) := by
  simp only [State.serviceComplete]
  refine newAuthority ?_ t
  split
  · split
    · exact cancelStopped h.unchanged t
    · exact cancelStopped h.unchanged t
  · split
    · exact h.unchanged
    · exact h.unchanged

theorem serviceStep (h : QueueCacheKept s₀ s) (t : Nat) : QueueCacheKept s₀ (s.serviceStep t) := by
  unfold State.serviceStep
  split
  · split
    · split
      · exact h.serviceComplete t
      · exact h.unchanged
    · exact h.unchanged
  · exact h

theorem reversalStep (h : QueueCacheKept s₀ s) (t : Nat) : QueueCacheKept s₀ (s.reversalStep t) := by
  simp only [State.reversalStep]
  split
  · split
    · exact newAuthority h.unchanged t
    · exact h.unchanged
  · exact h

theorem endAction (h : QueueCacheKept s₀ s) (t : Nat) (o : Order) : QueueCacheKept s₀ (s.endAction t o) := by
  unfold State.endAction
  split
  · exact h.orderDone t o
  all_goals
    split
    · exact h.orderFailed t o _ _
    · exact beginLift h.unchanged t _ _

theorem arrivalStep (h : QueueCacheKept s₀ s) (t : Nat) (reversal : Bool) : QueueCacheKept s₀ (s.arrivalStep t reversal) := by
  unfold State.arrivalStep
  split
  · split
    · exact h
    · exact endAction h.unchanged t _
  · exact h

/-! ## Activation and the whole step (R124, R130, R156 to R159) -/

theorem activate (h : QueueCacheKept s₀ s) (t : Nat) (o : Order) (path : List Nat) :
    QueueCacheKept s₀ (s.activate t o path) := by
  refine h.step (fun hs => ?_)
  have hcache : (s.activate t o path).cache = s.cache.pinPath o.tag path := by simp [State.activate]
  rw [hcache]
  exact hs.pinPath o.tag path

theorem judgeActivation (h : QueueCacheKept s₀ s) (t fuel : Nat) : QueueCacheKept s₀ (s.judgeActivation t fuel) := by
  induction fuel generalizing s with
  | zero => exact h
  | succ fuel ih =>
    unfold State.judgeActivation
    split
    · split
      · split
        · exact h.activate t _ _
        · exact ih (h.orderFailed t _ _ _)
      · exact h
    · exact h

theorem motionStep (h : QueueCacheKept s₀ s) (t : Nat) : QueueCacheKept s₀ (s.motionStep t) := by
  have hreversed := (((h.latchStep t).figuresStep t).obstacleCheck t).reversalStep t
  have hclaimed {u : State} (hu : QueueCacheKept s₀ u) (mayForm : Bool) : QueueCacheKept s₀ (u.claimStep t mayForm) :=
    hu.unchanged
  have hdriven {u : State} (hu : QueueCacheKept s₀ u) (reversal : Bool) : QueueCacheKept s₀ (u.driveStep reversal) :=
    hu.unchanged
  exact hclaimed ((((hdriven hreversed _).stallStep t).serviceStep t).arrivalStep t _) _

theorem controlStep (h : QueueCacheKept s₀ s) : QueueCacheKept s₀ s.controlStep := by
  have hstepped := motionStep (unchanged (h.positionStep s.now s.pos.pulses)
    (t := (s.positionStep s.now s.pos.pulses).setMotion
      { (s.positionStep s.now s.pos.pulses).motion with measured := measuredSpeed s.params s.pos.pulses })) s.now
  simp only [State.controlStep, State.activationStep]
  split
  · split
    · exact hstepped.judgeActivation _ 9
    · exact hstepped
  · exact hstepped

end QueueCacheKept

end Sys2Proof.Machine
end

section
/-! PROOFS. The queue of commands and the soundness of the cache through the frames taken from the buffer (R43), the line, the
clocks and the host commands, and so through every command; the cache stays sound at every step (R115, R123 to R125). -/

-- One declaration at a time: side by side they need more threads than the check's memory holds.
set_option Elab.async false

namespace Sys2Proof.Machine

open Sys2Proof.Safety

namespace QueueCacheKept

variable {s₀ s : State}

/-! ## Operations that leave queue and cache as they are -/

theorem endClaim (h : QueueCacheKept s₀ s) (t : Nat) : QueueCacheKept s₀ (s.endClaim t) := h.unchanged

theorem toIdle (h : QueueCacheKept s₀ s) : QueueCacheKept s₀ s.toIdle := h.unchanged

theorem chooseExpected (h : QueueCacheKept s₀ s) : QueueCacheKept s₀ s.chooseExpected := h.unchanged

theorem enterBlocked (h : QueueCacheKept s₀ s) (seg holder : Nat) : QueueCacheKept s₀ (s.enterBlocked seg holder) :=
  h.unchanged

theorem offerBeacon (h : QueueCacheKept s₀ s) (t : Nat) : QueueCacheKept s₀ (s.offerBeacon t) := h.unchanged

theorem removalNotSent (h : QueueCacheKept s₀ s) : QueueCacheKept s₀ s.removalNotSent := h.unchanged rfl rfl

/-! ## Frames from the buffer (R43) -/

theorem editionMismatch (h : QueueCacheKept s₀ s) (t x edition : Nat) :
    QueueCacheKept s₀ (s.editionMismatch t x edition) := h.unchanged

theorem holdConflict (h : QueueCacheKept s₀ s) (t x seg : Nat) (detail : Option Nat) :
    QueueCacheKept s₀ (s.holdConflict t x seg detail) := by
  unfold State.holdConflict
  split
  · exact h
  · exact haltWith h.unchanged t _

theorem responderBeacon (h : QueueCacheKept s₀ s) (t x edition : Nat) (listed : List HeldEntry) :
    QueueCacheKept s₀ (s.responderBeacon t x edition listed) := by
  have hcheck (u : State) (e : HeldEntry) (hu : QueueCacheKept s₀ u) :
      QueueCacheKept s₀ (u.conflictCheck t x s.claim.held e) := by
    unfold State.conflictCheck
    split
    · exact hu
    · exact hu.holdConflict t x _ _
  have homission {u : State} (hu : QueueCacheKept s₀ u) : QueueCacheKept s₀ (u.omissionCheck x (heldSegs listed)) :=
    hu.unchanged
  have homitted : QueueCacheKept s₀ (s.conflictsSettled t x listed) := homission (h.foldl hcheck listed)
  rw [State.responderBeacon_eq]
  split
  · exact homitted
  · exact homitted.editionMismatch t x edition

theorem takeBeacon (h : QueueCacheKept s₀ s) (t x edition : Nat) (b : BeaconBody) :
    QueueCacheKept s₀ (s.takeBeacon t x edition b) := by
  have hclaimed {u : State} (hu : QueueCacheKept s₀ u) : QueueCacheKept s₀ (u.claimBeacon t x b) := hu.unchanged
  exact hclaimed ((h.responderBeacon t x edition b.held).cacheBeacon x b.held _)

theorem lateObjection (h : QueueCacheKept s₀ s) (t x edition seg : Nat) (why : Reason) :
    QueueCacheKept s₀ (s.lateObjection t x edition seg why) := by
  have hgiven (gone : List Nat) : QueueCacheKept s₀ (s.giveBack t gone) := h.unchanged
  have hother (m : Mark) : QueueCacheKept s₀ (s.lateOther x seg m) := by
    simp only [State.lateOther]
    split
    · exact (h.writeHolding seg x m .object []).enterBlocked seg x
    · exact h.writeHolding seg x m .object []
  unfold State.lateObjection
  split
  · split
    · exact ((((hgiven _).writeHolding seg x _ .object []).endClaim t).chooseExpected).newAuthority t
    · exact h.holdConflict t x seg none
    · exact hother _
  · split
    · exact h.editionMismatch t x edition
    · exact h

theorem objectHeld (h : QueueCacheKept s₀ s) (t x seg : Nat) (m : Mark) : QueueCacheKept s₀ (s.objectHeld t x seg m) := by
  have hwritten : QueueCacheKept s₀ ((s.endClaim t).writeHolding seg x m .object []) :=
    (h.endClaim t).writeHolding seg x m .object []
  simp only [State.objectHeld]
  split
  · exact hwritten.unchanged
  · exact hwritten

theorem takeObject (h : QueueCacheKept s₀ s) (t x edition number seg : Nat) (why : Reason) (r : PeerReport) :
    QueueCacheKept s₀ (s.takeObject t x edition number seg why r) := by
  have hfiled : QueueCacheKept s₀ (s.fileReport x r) := h.unchanged
  simp only [State.takeObject]
  split
  · split
    · exact hfiled.objectHeld t x seg _
    · exact hfiled.objectHeld t x seg _
    · exact hfiled.unchanged
    · exact hfiled.unchanged
  · exact hfiled.lateObjection t x edition seg why

theorem takeRelease (h : QueueCacheKept s₀ s) (x : Nat) (segs : List Nat) : QueueCacheKept s₀ (s.takeRelease x segs) := by
  have hclaimed {u : State} (hu : QueueCacheKept s₀ u) : QueueCacheKept s₀ (u.claimRelease x segs) := hu.unchanged
  exact hclaimed (h.cacheRelease x segs)

theorem process (h : QueueCacheKept s₀ s) (r : Received) : QueueCacheKept s₀ (s.process r) := by
  simp only [State.process]
  split
  · exact h.takeBeacon _ _ _ _
  · exact h.unchanged
  · exact h.takeObject _ _ _ _ _ _ _
  · exact h.unchanged
  · exact h.takeRelease _ _
  · exact h.unchanged
  · exact h.unchanged

theorem takeHead (h : QueueCacheKept s₀ s) : QueueCacheKept s₀ s.takeHead := by
  unfold State.takeHead
  split
  · exact h
  · exact process h.unchanged _

theorem takeKind (h : QueueCacheKept s₀ s) (kind : Nat) : QueueCacheKept s₀ (s.takeKind kind) := by
  unfold State.takeKind
  split
  · split
    · exact h.takeHead
    · exact h
  · exact h

theorem takeFrames (h : QueueCacheKept s₀ s) (n : Nat) : QueueCacheKept s₀ (State.takeFrames n s) := by
  induction n generalizing s with
  | zero => exact h
  | succ n ih => exact ih h.takeHead

/-! ## The line (R33, R37 to R51) -/

theorem closeFrame (h : QueueCacheKept s₀ s) (t : Nat) (c : Closing) : QueueCacheKept s₀ (s.closeFrame t c) := by
  have hgood (f : Frame) : QueueCacheKept s₀ (s.goodFrame t f) := by
    unfold State.goodFrame
    split
    · unfold State.duplicateFrame
      split
      · exact h
      · exact haltWith h.unchanged t _
    split
    · exact unchanged h rfl rfl
    split
    · unfold State.bufferFrame
      split
      · exact unchanged h rfl rfl
      · exact unchanged (s := s.countLine (fun k => { k with rxOverrun := inc16 k.rxOverrun })) (unchanged h rfl rfl)
    · exact h
  unfold State.closeFrame
  split
  · exact unchanged h rfl rfl
  · exact unchanged h rfl rfl
  · split
    · exact h
    · exact unchanged h rfl rfl
    · exact unchanged h rfl rfl
    · exact unchanged h rfl rfl
    · exact hgood _

theorem receive (h : QueueCacheKept s₀ s) (t : Nat) (bits : List Bool) : QueueCacheKept s₀ (s.receive t bits) := by
  simp only [State.receive]
  split
  · exact h
  · exact foldl h.unchanged (fun _ c hu => hu.closeFrame t c) _

theorem beginSending (h : QueueCacheKept s₀ s) : QueueCacheKept s₀ s.beginSending := by
  unfold State.beginSending
  split
  · split
    · exact h
    · exact h.unchanged
  · exact h

theorem completeSending (h : QueueCacheKept s₀ s) : QueueCacheKept s₀ s.completeSending := by
  have hsent : QueueCacheKept s₀ (s.setLine s.line.sent) := h.unchanged
  unfold State.completeSending
  split
  · simp only [State.sent]
    split
    · split
      · simp only [State.removalSent]
        split
        · exact hsent
        split
        · exact hsent.unchanged
        · exact hsent.unchanged
      · unfold State.roundSent
        split
        case h_1 => exact hsent.unchanged
        case h_2 => exact hsent.unchanged
        all_goals exact hsent
    · exact hsent
  · exact h

theorem collide (h : QueueCacheKept s₀ s) (bit : Nat) : QueueCacheKept s₀ (s.collide bit) := by
  have htold {u : State} (hu : QueueCacheKept s₀ u) (t : Nat) (e : TxEntry) : QueueCacheKept s₀ (u.tellOwner t e) := by
    unfold State.tellOwner
    split
    · exact hu.unchanged rfl rfl
    split
    · exact hu.unchanged
    split
    · exact hu.unchanged
    · exact hu
  have hdegraded {u : State} (hu : QueueCacheKept s₀ u) (t : Nat) : QueueCacheKept s₀ (u.degradeCheck t) := by
    unfold State.degradeCheck
    split
    · exact hu.unchanged
    · exact hu
  unfold State.collide
  split
  · split
    · simp only [State.afterCollision]
      split
      · exact hdegraded (htold h.unchanged _ _) _
      split
      · exact h.unchanged rfl rfl
      · exact h.unchanged
    · exact h
  · exact h

theorem endBackoff (h : QueueCacheKept s₀ s) : QueueCacheKept s₀ s.endBackoff := by
  unfold State.endBackoff
  split
  · exact h.unchanged
  all_goals exact h

/-! ## The clocks and the pins -/

theorem serviceStopDue (h : QueueCacheKept s₀ s) : QueueCacheKept s₀ s.serviceStopDue := by
  unfold State.serviceStopDue
  split
  · exact h.serviceComplete _
  · exact h

theorem emergencyStopDue (h : QueueCacheKept s₀ s) : QueueCacheKept s₀ s.emergencyStopDue := by
  unfold State.emergencyStopDue
  split
  · exact h.emergencyComplete _
  · exact h

theorem stallDue (h : QueueCacheKept s₀ s) : QueueCacheKept s₀ s.stallDue := by
  unfold State.stallDue
  split
  · exact h.raiseStall _
  · exact h

theorem waitDue (h : QueueCacheKept s₀ s) : QueueCacheKept s₀ s.waitDue := by
  unfold State.waitDue
  split
  · have hpassed : QueueCacheKept s₀ s.passWaitLimit := h.unchanged rfl rfl
    exact hpassed.unchanged
  · exact h

/-- The row of an aged entry touches HELD entries alone (R123). -/
theorem staleDue (h : QueueCacheKept s₀ s) (k : Nat) : QueueCacheKept s₀ (s.staleDue k) := by
  unfold State.staleDue
  split
  · exact h
  next e he =>
    split
    · exact h.step (fun hs => hs.rewrite (Table.mem_of_find he) rfl nofun .inl) rfl
    · exact h

theorem joinDue (h : QueueCacheKept s₀ s) : QueueCacheKept s₀ s.joinDue := by
  unfold State.joinDue
  split
  · exact h.unchanged (by simp [State.joined]) (by simp [State.joined])
  · exact h

theorem beaconDue (h : QueueCacheKept s₀ s) : QueueCacheKept s₀ s.beaconDue := by
  unfold State.beaconDue
  split
  · exact h
  · exact h.unchanged

theorem windowR1Due (h : QueueCacheKept s₀ s) : QueueCacheKept s₀ s.windowR1Due := by
  unfold State.windowR1Due
  split
  · exact h.unchanged (by simp [State.secondRound]) (by simp [State.secondRound])
  · exact h

theorem windowR2Due (h : QueueCacheKept s₀ s) : QueueCacheKept s₀ s.windowR2Due := by
  unfold State.windowR2Due
  split
  · have hgranted : QueueCacheKept s₀ (s.setClaim s.claim.granted) := h.unchanged
    exact (((hgranted.cacheJoin _).toIdle).chooseExpected).newAuthority _
  · exact h

theorem contestDue (h : QueueCacheKept s₀ s) : QueueCacheKept s₀ s.contestDue := by
  unfold State.contestDue
  split
  · exact h.unchanged
  · exact h

theorem holdoffDue (h : QueueCacheKept s₀ s) : QueueCacheKept s₀ s.holdoffDue := by
  unfold State.holdoffDue
  split
  · exact h.unchanged
  · exact h

theorem liftDue (h : QueueCacheKept s₀ s) : QueueCacheKept s₀ s.liftDue := by
  unfold State.liftDue
  split
  · exact h.liftTimeout _
  · exact h

theorem outsideSetup {f : State → State} (h : QueueCacheKept s₀ s)
    (hf : ∀ u, QueueCacheKept s₀ u → QueueCacheKept s₀ (f u)) : QueueCacheKept s₀ (s.outsideSetup f) := by
  unfold State.outsideSetup
  split
  · exact h
  · exact hf s h

theorem bringObst (h : QueueCacheKept s₀ s) (obst : Bool) : QueueCacheKept s₀ (s.bringObst obst) := by
  simp only [State.bringObst]
  split
  · exact h.unchanged
  · exact h.unchanged

/-! ## Host commands (R177 to R179) -/

theorem hostCommand {kind : Nat} {args : List Byte} {run : State → Answer} (h : QueueCacheKept s₀ s)
    (hrun : ∀ u, QueueCacheKept s₀ u → QueueCacheKept s₀ (run u).state) :
    QueueCacheKept s₀ (s.hostCommand kind args run) := by
  cases he : s.executing kind args with
  | none => rwa [State.hostCommand_of_other s kind args run he]
  | some u =>
    rw [State.hostCommand_of_executing s u kind args run he]
    refine unchanged (hrun u ?_)
    simp only [State.executing, State.hostReady, Option.map_eq_some_iff] at he
    obtain ⟨v, hv, rfl⟩ := he
    split at hv
    · split at hv <;> cases hv
      exact h.takeFrames _
    all_goals
      cases hv
      have htaken : QueueCacheKept s₀ (s.takeCommand kind args) := unchanged h rfl rfl
      exact htaken.takeFrames _

/-- A command whose own rule keeps queue and cache keeps them with its checks before it (R179). -/
theorem hostChecked {α : Type} {kind : Nat} {args : List Byte} {read : Option α} {taken : StationState → Bool}
    {run : State → α → Answer} (h : QueueCacheKept s₀ s)
    (hrun : ∀ u a, QueueCacheKept s₀ u → QueueCacheKept s₀ (run u a).state) :
    QueueCacheKept s₀ (s.hostCommand kind args (fun u => u.checked read taken run)) := by
  refine h.hostCommand (fun u hu => ?_)
  unfold State.checked
  split
  · exact hu
  split
  · exact hrun u _ hu
  · exact hu

/-! ## The commands' own rules -/

theorem submitOrder (h : QueueCacheKept s₀ s) (a : OrderArgs) : QueueCacheKept s₀ (s.submitOrder a).state := by
  have hlist {u : State} (hu : QueueCacheKept s₀ u) (l : List Order) : QueueCacheKept s₀ (u.setList l) :=
    hu.unchanged rfl rfl
  have hfront (t tag : Nat) : QueueCacheKept s₀ (((s.suspend tag .front).askStop .front).abandonClaim t) := h.unchanged
  have hplaced (t : Nat) (o : Order) : QueueCacheKept s₀ (s.placeOrder t o) := by
    unfold State.placeOrder
    split
    · unfold State.placeFront
      split
      · exact hlist h _
      next head _ _ =>
        split
        · exact hlist h _
        · exact hlist h _
        · dsimp only
          split
          · exact hlist (h.cancelMarked t head) _
          · exact hlist (hfront _ _) _
        · exact hlist h _
    · exact hlist h _
  simp only [State.submitOrder]
  split
  · exact h
  split
  · exact h
  split
  · exact h
  split
  · exact h
  · exact h
  split
  · exact h
  split
  · exact hplaced _ _
  · exact hplaced _ _

theorem cancelOrder (h : QueueCacheKept s₀ s) (tag : Nat) : QueueCacheKept s₀ (s.cancelOrder tag).state := by
  unfold State.cancelOrder
  split
  · exact h
  split
  · exact h.orderCancelled _ _
  · exact h.orderCancelled _ _
  · split
    · exact h
    · exact h.unchanged (by simp [State.cancelActive]) (by simp [State.cancelActive])
  · exact h

theorem resume (h : QueueCacheKept s₀ s) : QueueCacheKept s₀ s.resume.state := by
  unfold State.resume
  split
  · exact h
  split
  · exact h.unchanged (by simp [State.resumed]) (by simp [State.resumed])
  · exact h

/-- RESTART empties the cache (R31). -/
theorem restart (h : QueueCacheKept s₀ s) : QueueCacheKept s₀ s.restart.state := by
  unfold State.restart
  split
  · have hcache : s.restarted.cache = ⟨[], 0, 0⟩ := by simp [State.restarted]
    exact h.step (fun _ => by rw [hcache]; exact .nil) (by simp [State.restarted])
  · exact h

/-- The segments of the occupied run join the held list at START (R24, R122). -/
theorem start (h : QueueCacheKept s₀ s) (a : StartArgs) : QueueCacheKept s₀ (s.start a).state := by
  have hstarted (c : Centre) (run : List Nat) : QueueCacheKept s₀ (s.started c run) := by
    have hplaced : QueueCacheKept s₀ (((s.setPos (s.pos.begin c)).setMotion
        (Motion.still (emergencyRate s.orders.effective))).setClaim (s.claim.begin run)) := h.unchanged
    exact (hplaced.cacheJoin run).unchanged (by simp [State.started]) (by simp [State.started])
  unfold State.start
  split
  · exact h
  split
  · exact h
  split
  · split
    · exact h
    split
    · exact h
    · exact hstarted _ _
  · exact h

theorem lineReset (h : QueueCacheKept s₀ s) (t : Nat) : QueueCacheKept s₀ (s.lineReset t) := by
  have hlost (n : Nat) : QueueCacheKept s₀ ((s.setLine s.line.lineReset).relaysLost t n) := by
    unfold State.relaysLost
    split
    · exact h.unchanged
    · exact h.unchanged
  exact ((hlost _).removalNotSent.endClaim t).offerBeacon t

theorem clearLift (h : QueueCacheKept s₀ s) : QueueCacheKept s₀ s.clearLift.state := by
  unfold State.clearLift
  split
  · simp only [State.clearJam]
    split
    · exact h.unchanged
    · exact h.unchanged
    · exact h.unchanged
  · exact h

theorem forgetStation (h : QueueCacheKept s₀ s) (n : Nat) : QueueCacheKept s₀ (s.forgetStation n).state := by
  have hfreed : QueueCacheKept s₀ (s.forgetHoldings (waysOf s.cache.ways n (fun _ => true))) :=
    h.foldl (fun _ k hu => hu.freeWay none k) _
  unfold State.forgetStation
  split
  · simp only [State.forget, State.forgetWait]
    split
    · exact hfreed.unchanged
    · exact hfreed.unchanged
  · exact h

theorem sendRelay (h : QueueCacheKept s₀ s) (a : Nat × List Byte) : QueueCacheKept s₀ (s.sendRelay a).state := by
  unfold State.sendRelay
  split
  · exact h
  split
  · exact h
  · exact h.unchanged

theorem setStation (h : QueueCacheKept s₀ s) (a : StationArgs) : QueueCacheKept s₀ (s.setStation a).state := by
  unfold State.setStation
  split
  · exact h.unchanged
  · exact h

theorem setParameter (h : QueueCacheKept s₀ s) (a : Nat × Nat) : QueueCacheKept s₀ (s.setParameter a).state := by
  simp only [State.setParameter]
  split
  · exact h
  split
  · exact h.unchanged
  · exact h.unchanged

theorem loadSegment (h : QueueCacheKept s₀ s) (a : SegmentArgs) : QueueCacheKept s₀ (s.loadSegment a).state := by
  simp only [State.loadSegment]
  split
  · exact h
  split
  · exact h.unchanged
  · exact h.unchanged

theorem loadTagWindow (h : QueueCacheKept s₀ s) (a : Nat × TagWindow) : QueueCacheKept s₀ (s.loadTagWindow a).state := by
  unfold State.loadTagWindow
  split
  · split
    · exact h.unchanged
    · exact h
  · exact h

theorem readCacheEntry (h : QueueCacheKept s₀ s) (a : Nat × Nat) : QueueCacheKept s₀ (s.readCacheEntry a).state := by
  unfold State.readCacheEntry
  split
  · exact h
  · exact h

theorem invalidateEntry (h : QueueCacheKept s₀ s) (a : Nat × Nat) : QueueCacheKept s₀ (s.invalidateEntry a).state := by
  unfold State.invalidateEntry
  split
  · exact h.invalidateWay _
  · exact h

theorem invalidateSegment (h : QueueCacheKept s₀ s) (seg : Nat) : QueueCacheKept s₀ (s.invalidateSegment seg).state := by
  unfold State.invalidateSegment
  split
  · simp only [State.invalidated, State.invalidateFound]
    split
    · exact h
    · exact h.invalidateWay _
  · exact h

theorem invalidateSet (h : QueueCacheKept s₀ s) (set : Nat) : QueueCacheKept s₀ (s.invalidateSet set).state := by
  unfold State.invalidateSet
  split
  · exact h.foldl (fun _ w hu => hu.invalidateWay (4 * set + w)) _
  · exact h

theorem enableNotices (h : QueueCacheKept s₀ s) (codes : List Nat) : QueueCacheKept s₀ (s.enableNotices codes).state := by
  unfold State.enableNotices
  split
  · exact h
  · exact h.unchanged

theorem disableNotices (h : QueueCacheKept s₀ s) (codes : List Nat) : QueueCacheKept s₀ (s.disableNotices codes).state := by
  unfold State.disableNotices
  split
  · exact h
  · exact h.unchanged

theorem transaction (h : QueueCacheKept s₀ s) (hdi : List Bool) (began : Bool) :
    QueueCacheKept s₀ (s.transaction hdi began) := by
  have hjudged {u : State} (hu : QueueCacheKept s₀ u) (first : Byte) (rest : List Byte) :
      QueueCacheKept s₀ (u.judgeCommand first rest) := by
    unfold State.judgeCommand
    split
    · exact hu.unchanged
    all_goals
      split
      · exact hu.unchanged
      split
      · exact hu.unchanged
      · exact hu.unchanged rfl rfl
  unfold State.transaction
  split
  · exact h
  split
  · exact h.unchanged
  · exact hjudged h.unchanged _ _

/-- The cache is empty after power-on reset; the queue of commands stays (R21, log 10). -/
theorem powerOn (s : State) : QueueCacheKept s s.powerOn := ⟨rfl, fun _ => SoundEntries.nil⟩

/-! ## Every command -/

/-- Every command leaves the queue of commands as it is and the cache sound. -/
theorem exec {c : Instr} {t : State} (hexec : exec c s = .next t) : QueueCacheKept s t := by
  have h := refl s
  cases c with
  | powerOnReset => cases hexec; exact powerOn s
  | commandTransaction hdi began => cases hexec; exact h.transaction hdi began
  | readTransaction hdi began => cases hexec; exact h.transaction hdi began
  | setStation args => cases hexec; exact h.hostChecked (fun _ a hu => hu.setStation a)
  | setParameter args => cases hexec; exact h.hostChecked (fun _ a hu => hu.setParameter a)
  | loadSegment args => cases hexec; exact h.hostChecked (fun _ a hu => hu.loadSegment a)
  | loadTagWindow args => cases hexec; exact h.hostChecked (fun _ a hu => hu.loadTagWindow a)
  | setEdition args => cases hexec; exact h.hostChecked (fun _ _ hu => hu.unchanged rfl rfl)
  | start args => cases hexec; exact h.hostChecked (fun _ a hu => hu.start a)
  | submitOrder args => cases hexec; exact h.hostChecked (fun _ a hu => hu.submitOrder a)
  | cancelOrder args => cases hexec; exact h.hostChecked (fun _ a hu => hu.cancelOrder a)
  | stop args => cases hexec; exact h.hostChecked (fun _ _ hu => hu.halt _ _)
  | resume args => cases hexec; exact h.hostChecked (fun _ _ hu => hu.resume)
  | restart args => cases hexec; exact h.hostChecked (fun _ _ hu => hu.restart)
  | sendRelay args => cases hexec; exact h.hostChecked (fun _ a hu => hu.sendRelay a)
  | lineReset args => cases hexec; exact h.hostChecked (fun _ _ hu => hu.lineReset _)
  | clearLift args => cases hexec; exact h.hostChecked (fun _ _ hu => hu.clearLift)
  | forgetStation args => cases hexec; exact h.hostChecked (fun _ a hu => hu.forgetStation a)
  | queryStatus args | queryOrders args | queryCounters args | readFaultRecord args =>
    cases hexec; exact h.hostChecked (fun _ _ hu => hu)
  | readCacheEntry args => cases hexec; exact h.hostChecked (fun _ a hu => hu.readCacheEntry a)
  | invalidateCacheEntry args => cases hexec; exact h.hostChecked (fun _ a hu => hu.invalidateEntry a)
  | invalidateCacheSegment args => cases hexec; exact h.hostChecked (fun _ a hu => hu.invalidateSegment a)
  | invalidateCacheSet args => cases hexec; exact h.hostChecked (fun _ a hu => hu.invalidateSet a)
  | readNotices args | setAttention args | clearFaultRecord args =>
    cases hexec; exact h.hostChecked (fun _ _ hu => hu.unchanged rfl rfl)
  | enableNotices args => cases hexec; exact h.hostChecked (fun _ a hu => hu.enableNotices a)
  | disableNotices args => cases hexec; exact h.hostChecked (fun _ a hu => hu.disableNotices a)
  | unknownCommand kind args =>
    change execUnknownCommand kind args s = .next t at hexec
    unfold execUnknownCommand at hexec
    split at hexec <;> cases hexec
    · exact h
    · exact h.hostCommand (fun _ hu => hu)
  | encoderPulse => cases hexec; exact h.outsideSetup (fun _ hu => hu.unchanged rfl rfl)
  | tagRead code => cases hexec; exact h.outsideSetup (fun _ hu => hu.tagRead _ _)
  | obstDeasserted => cases hexec; exact h.bringObst false
  | controlStep obst loadc =>
    cases hexec
    have hbrought {u : State} (hu : QueueCacheKept s u) : QueueCacheKept s (u.bringLoad loadc) := unchanged hu rfl rfl
    exact (hbrought (h.bringObst obst)).outsideSetup (fun _ hu => hu.controlStep)
  | serviceStopComplete => cases hexec; exact h.serviceStopDue
  | emergencyStopComplete => cases hexec; exact h.emergencyStopDue
  | driveStall => cases hexec; exact h.stallDue
  | waitExpired => cases hexec; exact h.waitDue
  | joinTimerExpiry => cases hexec; exact h.joinDue
  | beaconTimerExpiry => cases hexec; exact h.beaconDue
  | windowR1Expiry => cases hexec; exact h.windowR1Due
  | grant => cases hexec; exact h.windowR2Due
  | contestTimerExpiry => cases hexec; exact h.contestDue
  | editionRetryExpiry => cases hexec; exact h.unchanged rfl rfl
  | holdoffTimerExpiry => cases hexec; exact h.holdoffDue
  | entryStale set way => cases hexec; exact h.staleDue _
  | liftSensorChange sup sdn loadc =>
    cases hexec
    have hbrought : QueueCacheKept s (s.bringSensors sup sdn loadc) := unchanged h rfl rfl
    exact hbrought.judgeSensors _
  | liftTimeout => cases hexec; exact h.liftDue
  | frameClosed bits => cases hexec; exact h.receive _ bits
  | beaconReceived | claimReceived | enquireReceived | objectReceived | releaseReceived | withdrawReceived | relayReceived =>
    cases hexec; exact h.takeKind _
  | transmissionStart => cases hexec; exact h.beginSending
  | transmissionComplete => cases hexec; exact h.completeSending
  | collision bit => cases hexec; exact h.collide bit
  | backoffEnd => cases hexec; exact h.endBackoff

end QueueCacheKept

/-- A ms ages the cache or leaves it (R123). -/
theorem State.idle_soundEntries {s : State} (h : SoundEntries s.cache.ways) : SoundEntries s.idle.cache.ways := by
  unfold State.idle State.tick State.outsideSetup
  split
  · exact h
  · exact h.tick _

end Sys2Proof.Machine

namespace Sys2Proof.Proofs

open Sys2Proof.Machine Sys2Proof.Safety

/-- Settles O11: each change of the cache's table keeps its parts, so every command and a ms of the clock do. -/
theorem cacheStaysSound : Obligations.CacheStaysSound := by
  intro s t hs hstep
  rw [← soundEntries_iff] at hs ⊢
  unfold step at hstep
  split at hstep
  · cases hstep
    exact State.idle_soundEntries hs
  · exact (QueueCacheKept.exec hstep).cache hs

end Sys2Proof.Proofs
end

section
/-! PROOFS. A step with nothing pending: one ms of the clock (R123, R130, R186; log 2). -/

-- One declaration at a time: side by side they need more threads than the check's memory holds.
set_option Elab.async false

namespace Sys2Proof.Machine

/-! ## An entry's ms (R123) -/

theorem CacheEntry.tick_of_none {e : CacheEntry} (limit : Nat) (h : e.status = .none) : e.tick limit = e := by
  unfold CacheEntry.tick
  rw [h]

theorem CacheEntry.tick_of_stale {e : CacheEntry} (limit : Nat) (h : e.status = .stale) :
    e.tick limit = { e with age := min 65535 (e.age + 1) } := by
  unfold CacheEntry.tick
  rw [h]
  rfl

theorem CacheEntry.tick_of_held {e : CacheEntry} {limit : Nat} (h : e.status = .held) (hage : min 65535 (e.age + 1) ≤ limit) :
    e.tick limit = { e with age := min 65535 (e.age + 1) } := by
  have hyoung : ¬limit < inc16 e.age := Nat.not_lt.2 hage
  unfold CacheEntry.tick
  rw [h]
  dsimp only
  rw [if_neg hyoung, ← h]
  rfl

theorem CacheEntry.tick_of_aged {e : CacheEntry} {limit : Nat} (h : e.status = .held) (hage : limit < min 65535 (e.age + 1)) :
    e.tick limit = { e with age := min 65535 (e.age + 1), status := .stale } := by
  have hold : limit < inc16 e.age := hage
  unfold CacheEntry.tick
  rw [h]
  dsimp only
  rw [if_pos hold]
  rfl

theorem PeerCache.find_tick (c : PeerCache) (limit k : Nat) :
    Table.find (c.tick limit).ways k = (Table.find c.ways k).map (CacheEntry.tick limit) :=
  Table.find_map c.ways (CacheEntry.tick limit) k

theorem PeerCache.find_tick_of_find {c : PeerCache} {k : Nat} {e : CacheEntry} (limit : Nat)
    (h : Table.find c.ways k = some e) : Table.find (c.tick limit).ways k = some (e.tick limit) := by
  rw [PeerCache.find_tick, h, Option.map_some]

/-! ## The station's ms -/

/-- In SETUP only the notice time stamp and the phase count. -/
theorem State.tick_of_setup {s : State} (h : s.control.state = .setup) :
    s.tick = (s.setNotice s.notice.tick).setPhase ((s.phase + 1) % 10) := if_pos h

/-- Outside it the station's clocks run as well. -/
theorem State.tick_of_running {s : State} (h : s.control.state ≠ .setup) :
    s.tick = ((s.setNotice s.notice.tick).setPhase ((s.phase + 1) % 10)).tickStation := if_neg h

/-- What a ms leaves alone whatever the station state. -/
theorem State.tick_frame (s : State) :
    s.tick.notice = s.notice.tick ∧ s.tick.phase = (s.phase + 1) % 10 ∧ s.tick.control.state = s.control.state
      ∧ s.tick.motion = s.motion ∧ s.tick.orders = s.orders ∧ s.tick.pos = s.pos ∧ s.tick.resp = s.resp
      ∧ s.tick.port = s.port ∧ s.tick.params = s.params ∧ s.tick.claim.held = s.claim.held := by
  by_cases h : s.control.state = .setup
  · rw [State.tick_of_setup h]
    exact ⟨rfl, rfl, rfl, rfl, rfl, rfl, rfl, rfl, rfl, rfl⟩
  · rw [State.tick_of_running h]
    exact ⟨rfl, rfl, rfl, rfl, rfl, rfl, rfl, rfl, rfl, rfl⟩

/-- The idle step is the ms with what is due then in the queue. -/
theorem step_of_nothing_pending {s : State} (h : s.pending = []) : step s = .next (s.tick.setPending s.tick.due) := by
  unfold step
  rw [h]
  rfl

end Sys2Proof.Machine

namespace Sys2Proof.Proofs

open Sys2Proof.Machine Sys2Proof.Safety

/-- Settles O2: the idle step is `State.tick` in each of its two cases, and no command changes the queue. -/
theorem onlyTheIdleStepFillsTheQueue : Obligations.OnlyTheIdleStepFillsTheQueue := by
  refine ⟨fun s hidle => ?_, fun c s t hexec => (QueueCacheKept.exec hexec).pending⟩
  obtain ⟨hnotice, hphase, hstate, hmotion, horders, hpos, hresp, hport, hparams, hheld⟩ := s.tick_frame
  refine ⟨_, step_of_nothing_pending hidle, congrArg NoticeUnit.now hnotice, hphase, rfl, hstate, hmotion, horders, hpos,
    hresp, hport, hparams, hheld, fun hsetup => ?_, fun hrunning => ?_⟩
  · rw [State.tick_of_setup hsetup]
    exact ⟨rfl, rfl, rfl, rfl, rfl⟩
  · rw [State.tick_of_running hrunning]
    refine ⟨rfl, rfl, rfl, rfl, rfl, rfl, fun k hk => ?_, fun k e he => ?_⟩
    · exact (PeerCache.find_tick s.cache s.params.staleness k).trans (by rw [hk]; rfl)
    · have hticked := PeerCache.find_tick_of_find s.params.staleness he
      refine ⟨fun hnone => ?_, fun hstale => ?_, fun hheld hage => ?_, fun hheld hage => ?_⟩
      · exact hticked.trans (congrArg some (CacheEntry.tick_of_none _ hnone))
      · exact hticked.trans (congrArg some (CacheEntry.tick_of_stale _ hstale))
      · exact hticked.trans (congrArg some (CacheEntry.tick_of_held hheld hage))
      · exact hticked.trans (congrArg some (CacheEntry.tick_of_aged hheld hage))

end Sys2Proof.Proofs
end

section
/-! PROOFS. The three invalidations (R118, R127). -/

-- One declaration at a time: side by side they need more threads than the check's memory holds.
set_option Elab.async false

namespace Sys2Proof.Machine

open Sys2Proof.Safety

/-! ## A way made invalid -/

theorem State.placeReply_slot (s : State) (r : Reply) : (s.placeReply r).port.slot = .full r := rfl

/-- The way is empty, whatever was in it, and the rest of the cache as it was. -/
theorem State.invalidateWay_cache (s : State) (k : Nat) :
    (s.invalidateWay k).cache = { s.cache with ways := Table.erase s.cache.ways k } := by
  unfold State.invalidateWay
  split
  next hnone => rw [Table.erase_of_find_none hnone]
  · simp [State.setWays]

theorem State.invalidateWay_of_none {s : State} {k : Nat} (h : Table.find s.cache.ways k = none) : s.invalidateWay k = s := by
  unfold State.invalidateWay
  rw [h]

/-- Where the way held an entry, a BLOCKED wait on its segment ends (R118). -/
theorem State.invalidateWay_claim_of_find {s : State} {k : Nat} {e : CacheEntry} (h : Table.find s.cache.ways k = some e) :
    (s.invalidateWay k).claim = if s.claim.record.blockedOn e.seg then s.claim.idle else s.claim := by
  unfold State.invalidateWay State.cacheReportAny
  rw [h]
  dsimp only
  rw [(State.setWays_frame _ _).2.2.2.2.2.2.2.1]
  split
  · rw [State.toIdle_idle, (State.setWays_frame _ _).2.2.2.2.2.2.2.1]
  · rfl

/-- Whatever the way held, the waited counter stays and an ended wait stays ended. -/
theorem State.invalidateWay_claim (s : State) (k : Nat) :
    (s.invalidateWay k).claim = s.claim ∨ (s.invalidateWay k).claim = s.claim.idle := by
  cases h : Table.find s.cache.ways k with
  | none => exact .inl (by rw [State.invalidateWay_of_none h])
  | some e =>
    rw [State.invalidateWay_claim_of_find h]
    split
    · exact .inr rfl
    · exact .inl rfl

theorem State.invalidateWay_waited (s : State) (k : Nat) : (s.invalidateWay k).claim.waited = s.claim.waited := by
  obtain h | h := s.invalidateWay_claim k <;> rw [h]
  rfl

theorem State.invalidateWay_idle {s : State} {k : Nat} {e : CacheEntry} (h : Table.find s.cache.ways k = some e)
    (hstate : s.claim.record.state = .blocked) (hseg : s.claim.record.waitSeg = some e.seg) :
    (s.invalidateWay k).claim.record.state = .idle := by
  rw [State.invalidateWay_claim_of_find h, if_pos (by simp [ClaimRecord.blockedOn, hstate, hseg])]
  rfl

theorem State.invalidateWay_find (s : State) (k j : Nat) :
    Table.find (s.invalidateWay k).cache.ways j = if j = k then none else Table.find s.cache.ways j := by
  rw [State.invalidateWay_cache]
  split
  next h => rw [h]; exact Table.find_erase_self _ _
  next h => exact Table.find_erase_ne _ h

/-- The number of entries made invalid by one way (log 18). -/
theorem State.invalidated_results_of_find {s : State} (hs : CacheSound s.cache) {k : Nat} {e : CacheEntry}
    (h : Table.find s.cache.ways k = some e) : (s.invalidated (s.invalidateWay k)).results = [1] := by
  rw [← soundEntries_iff] at hs
  rw [State.invalidated, State.invalidateWay_cache, Table.length_erase hs.sorted h, Nat.add_sub_cancel_left]
  rfl

theorem State.invalidated_results_self (s : State) : (s.invalidated s).results = [0] := by
  rw [State.invalidated, Nat.sub_self]
  rfl

/-! ## The three commands with arguments in range -/

theorem exec_invalidateCacheEntry {s u : State} {set way : Byte} (h : s.executing 36 [set, way] = some u)
    (hset : set.toNat < 16) (hway : way.toNat < 4) :
    exec (.invalidateCacheEntry [set, way]) s
      = .next ((u.invalidateWay (4 * set.toNat + way.toNat)).placeReply
          ⟨36, .done, (u.invalidated (u.invalidateWay (4 * set.toNat + way.toNat))).results⟩) := by
  refine congrArg _ ((State.hostCommand_inAny State.invalidateEntry h rfl).trans ?_)
  rw [State.invalidateEntry, if_pos ((wayOk_iff _).2 ⟨hset, hway⟩)]
  rfl

theorem exec_invalidateCacheSegment {s u : State} {seg : Byte} (h : s.executing 37 [seg] = some u) (hlow : 1 ≤ seg.toNat)
    (hhigh : seg.toNat ≤ 240) :
    exec (.invalidateCacheSegment [seg]) s
      = .next ((u.invalidateFound seg.toNat).placeReply
          ⟨37, .done, (u.invalidated (u.invalidateFound seg.toNat)).results⟩) := by
  refine congrArg _ ((State.hostCommand_inAny State.invalidateSegment h rfl).trans ?_)
  rw [State.invalidateSegment, if_pos ((segOk_iff _).2 ⟨hlow, hhigh⟩)]
  rfl

theorem exec_invalidateCacheSet {s u : State} {set : Byte} (h : s.executing 38 [set] = some u) (hset : set.toNat < 16) :
    exec (.invalidateCacheSet [set]) s
      = .next ((u.invalidateWays set.toNat).placeReply
          ⟨38, .done, (u.invalidated (u.invalidateWays set.toNat)).results⟩) := by
  refine congrArg _ ((State.hostCommand_inAny State.invalidateSet h rfl).trans ?_)
  rw [State.invalidateSet, if_pos hset]
  rfl

/-! ## A segment made invalid -/

/-- The entry of a segment that has one is removed. -/
theorem State.invalidateFound_of_mem {s : State} (hs : CacheSound s.cache) {w : Nat × CacheEntry} (hw : w ∈ s.cache.ways) :
    s.invalidateFound w.2.seg = s.invalidateWay w.1 := by
  rw [← soundEntries_iff] at hs
  unfold State.invalidateFound
  rw [hs.findEntry_of_mem hw]

theorem State.invalidateFound_of_none {s : State} (hs : CacheSound s.cache) {seg : Nat}
    (h : ∀ w ∈ s.cache.ways, w.2.seg ≠ seg) : s.invalidateFound seg = s := by
  unfold State.invalidateFound
  rw [(findEntry_eq_none (inOwnSets_of_cacheSound hs) seg).2 h]

theorem State.invalidateFound_find {s : State} (hs : CacheSound s.cache) (seg k : Nat) :
    Table.find (s.invalidateFound seg).cache.ways k = (Table.find s.cache.ways k).filter (fun e => e.seg != seg) := by
  have hsound := (soundEntries_iff _).2 hs
  by_cases hentry : HasEntry s.cache.ways seg
  · obtain ⟨w, hw, rfl⟩ := hentry
    rw [State.invalidateFound_of_mem hs hw, State.invalidateWay_find]
    split
    next hk =>
      rw [hk, Table.find_of_mem hsound.sorted hw]
      simp [Option.filter_some]
    next hk =>
      cases hfind : Table.find s.cache.ways k with
      | none => rfl
      | some e =>
        have hother : e.seg ≠ w.2.seg := fun hseg =>
          hk (congrArg Prod.fst (hsound.eq_of_seg (Table.mem_of_find hfind) hw hseg))
        simp [Option.filter_some, hother]
  · have hnone : ∀ w ∈ s.cache.ways, w.2.seg ≠ seg := fun w hw hseg => hentry ⟨w, hw, hseg⟩
    rw [State.invalidateFound_of_none hs hnone]
    cases hfind : Table.find s.cache.ways k with
    | none => rfl
    | some e => simp [Option.filter_some, hnone _ (Table.mem_of_find hfind)]

theorem State.invalidateFound_waited (s : State) (seg : Nat) : (s.invalidateFound seg).claim.waited = s.claim.waited := by
  unfold State.invalidateFound
  split
  · rfl
  · exact s.invalidateWay_waited _

/-! ## The four ways of a set made invalid -/

/-- The ways of a list, made invalid one after another. -/
def State.invalidateEach (s : State) (l : List Nat) : State := l.foldl State.invalidateWay s

theorem State.invalidateEach_cons (s : State) (k : Nat) (l : List Nat) :
    s.invalidateEach (k :: l) = (s.invalidateWay k).invalidateEach l := rfl

theorem State.invalidateWays_eq (s : State) (set : Nat) :
    s.invalidateWays set = s.invalidateEach ([0, 1, 2, 3].map (fun w => 4 * set + w)) := rfl

theorem mem_waysOfSet (set k : Nat) : k ∈ [0, 1, 2, 3].map (fun w => 4 * set + w) ↔ k / 4 = set := by
  simp only [List.map_cons, List.map_nil, List.mem_cons, List.not_mem_nil, or_false]
  omega

theorem State.invalidateEach_ways (s : State) (l : List Nat) :
    (s.invalidateEach l).cache.ways = s.cache.ways.filter (fun w => !l.contains w.1) := by
  induction l generalizing s with
  | nil => simp [State.invalidateEach]
  | cons k l ih =>
    rw [State.invalidateEach_cons, ih, State.invalidateWay_cache, Table.erase, List.filter_filter]
    refine List.filter_congr fun w _ => ?_
    rw [List.contains_cons, Bool.not_or, Bool.and_comm]
    rfl

theorem State.invalidateEach_find (s : State) (l : List Nat) (j : Nat) :
    Table.find (s.invalidateEach l).cache.ways j = if j ∈ l then none else Table.find s.cache.ways j := by
  induction l generalizing s with
  | nil => rfl
  | cons k l ih =>
    rw [State.invalidateEach_cons, ih, State.invalidateWay_find]
    by_cases hj : j = k <;> simp [hj]

theorem State.invalidateEach_waited (s : State) (l : List Nat) : (s.invalidateEach l).claim.waited = s.claim.waited := by
  induction l generalizing s with
  | nil => rfl
  | cons k l ih => rw [State.invalidateEach_cons, ih, State.invalidateWay_waited]

/-- A wait that has ended stays ended. -/
theorem State.invalidateEach_stays_idle {s : State} (h : s.claim.record.state = .idle) (l : List Nat) :
    (s.invalidateEach l).claim.record.state = .idle := by
  induction l generalizing s with
  | nil => exact h
  | cons k l ih =>
    refine ih ?_
    obtain hsame | hidle := s.invalidateWay_claim k
    · rw [hsame]; exact h
    · rw [hidle]; rfl

/-- A BLOCKED wait on the segment of one of the removed entries ends (R118). -/
theorem State.invalidateEach_idle {s : State} {l : List Nat} {k : Nat} {e : CacheEntry} (hk : k ∈ l)
    (hfind : Table.find s.cache.ways k = some e) (hstate : s.claim.record.state = .blocked)
    (hseg : s.claim.record.waitSeg = some e.seg) : (s.invalidateEach l).claim.record.state = .idle := by
  induction l generalizing s with
  | nil => cases hk
  | cons j l ih =>
    rw [State.invalidateEach_cons]
    by_cases hj : k = j
    · subst hj
      exact State.invalidateEach_stays_idle (State.invalidateWay_idle hfind hstate hseg) l
    · obtain hsame | hidle := s.invalidateWay_claim j
      · exact ih ((List.mem_cons.1 hk).resolve_left hj) (by rw [State.invalidateWay_find, if_neg hj, hfind])
          (by rw [hsame, hstate]) (by rw [hsame, hseg])
      · exact State.invalidateEach_stays_idle (by rw [hidle]; rfl) l

theorem State.invalidateEach_of_none {s : State} {l : List Nat} (h : ∀ k ∈ l, Table.find s.cache.ways k = none) :
    s.invalidateEach l = s := by
  induction l with
  | nil => rfl
  | cons k l ih =>
    obtain ⟨hk, hl⟩ := List.forall_mem_cons.1 h
    rw [State.invalidateEach_cons, State.invalidateWay_of_none hk, ih hl]

/-- The number of entries of the set (log 18). -/
theorem State.invalidateWays_count (s : State) (set : Nat) :
    s.cache.ways.length - (s.invalidateWays set).cache.ways.length
      = s.cache.ways.countP (fun w => decide (w.1 / 4 = set)) := by
  have hkept : (s.invalidateWays set).cache.ways.length = s.cache.ways.countP (fun w => !decide (w.1 / 4 = set)) := by
    rw [State.invalidateWays_eq, State.invalidateEach_ways, ← List.countP_eq_length_filter]
    refine List.countP_congr fun w _ => ?_
    rw [Bool.not_eq_true', Bool.not_eq_true', decide_eq_false_iff_not, ← mem_waysOfSet, ← List.contains_iff_mem,
      Bool.not_eq_true]
  have hall := List.length_eq_countP_add_countP (fun w : Nat × CacheEntry => decide (w.1 / 4 = set)) (l := s.cache.ways)
  simp only [Bool.not_eq_true, Bool.decide_eq_false] at hall
  omega

end Sys2Proof.Machine

namespace Sys2Proof.Proofs

open Sys2Proof.Machine Sys2Proof.Safety

/-! ## The three commands (R127) -/

theorem invalidate_entry {s u : State} (hs : CacheSound u.cache) {set way : Byte} (h : s.executing 36 [set, way] = some u)
    (hset : set.toNat < 16) (hway : way.toNat < 4) :
    ∃ t res, exec (.invalidateCacheEntry [set, way]) s = .next t ∧ t.port.slot = .full ⟨36, .done, res⟩
      ∧ (∀ k, Table.find t.cache.ways k =
          if k = 4 * set.toNat + way.toNat then none else Table.find u.cache.ways k)
      ∧ (∀ e, Table.find u.cache.ways (4 * set.toNat + way.toNat) = some e → res = [1]
          ∧ (u.claim.record.state = .blocked → u.claim.record.waitSeg = some e.seg → t.claim.record.state = .idle))
      ∧ (Table.find u.cache.ways (4 * set.toNat + way.toNat) = none → res = [0] ∧ t.claim = u.claim)
      ∧ t.cache.full = u.cache.full ∧ t.cache.refused = u.cache.refused ∧ t.claim.waited = u.claim.waited := by
  have hcache := u.invalidateWay_cache (4 * set.toNat + way.toNat)
  refine ⟨_, _, exec_invalidateCacheEntry h hset hway, State.placeReply_slot _ _, fun k => u.invalidateWay_find _ k,
    fun e he => ⟨State.invalidated_results_of_find hs he, fun hstate hseg => State.invalidateWay_idle he hstate hseg⟩,
    fun hnone => ?_, (congrArg PeerCache.full hcache :), (congrArg PeerCache.refused hcache :), u.invalidateWay_waited _⟩
  rw [State.invalidateWay_of_none hnone]
  exact ⟨u.invalidated_results_self, rfl⟩

theorem invalidate_segment {s u : State} (hs : CacheSound u.cache) {seg : Byte} (h : s.executing 37 [seg] = some u)
    (hlow : 1 ≤ seg.toNat) (hhigh : seg.toNat ≤ 240) :
    ∃ t res, exec (.invalidateCacheSegment [seg]) s = .next t ∧ t.port.slot = .full ⟨37, .done, res⟩
      ∧ (∀ k, Table.find t.cache.ways k = (Table.find u.cache.ways k).filter (fun e => e.seg != seg.toNat))
      ∧ ((∃ w ∈ u.cache.ways, w.2.seg = seg.toNat) → res = [1]
          ∧ (u.claim.record.state = .blocked → u.claim.record.waitSeg = some seg.toNat → t.claim.record.state = .idle))
      ∧ ((∀ w ∈ u.cache.ways, w.2.seg ≠ seg.toNat) → res = [0] ∧ t.claim = u.claim)
      ∧ t.claim.waited = u.claim.waited := by
  refine ⟨_, _, exec_invalidateCacheSegment h hlow hhigh, State.placeReply_slot _ _,
    fun k => State.invalidateFound_find hs seg.toNat k, fun ⟨w, hw, hseg⟩ => ?_, fun hnone => ?_,
    u.invalidateFound_waited seg.toNat⟩
  · have hfind := Table.find_of_mem ((soundEntries_iff _).2 hs).sorted hw
    rw [← hseg, State.invalidateFound_of_mem hs hw]
    exact ⟨State.invalidated_results_of_find hs hfind, fun hstate hwait => State.invalidateWay_idle hfind hstate hwait⟩
  · rw [State.invalidateFound_of_none hs hnone]
    exact ⟨u.invalidated_results_self, rfl⟩

theorem invalidate_set {s u : State} (hs : CacheSound u.cache) {set : Byte} (h : s.executing 38 [set] = some u)
    (hset : set.toNat < 16) :
    ∃ t, exec (.invalidateCacheSet [set]) s = .next t
      ∧ (∀ k, Table.find t.cache.ways k = if k / 4 = set.toNat then none else Table.find u.cache.ways k)
      ∧ t.port.slot = .full ⟨38, .done, byte (u.cache.ways.countP (fun w => decide (w.1 / 4 = set.toNat)))⟩
      ∧ (∀ w ∈ u.cache.ways, w.1 / 4 = set.toNat → u.claim.record.state = .blocked →
          u.claim.record.waitSeg = some w.2.seg → t.claim.record.state = .idle)
      ∧ ((∀ w ∈ u.cache.ways, w.1 / 4 ≠ set.toNat) → t.claim = u.claim)
      ∧ t.claim.waited = u.claim.waited := by
  refine ⟨_, exec_invalidateCacheSet h hset, fun k => ?_, ?_, fun w hw hin hstate hseg => ?_, fun hnone => ?_,
    u.invalidateEach_waited ([0, 1, 2, 3].map (fun w => 4 * set.toNat + w))⟩
  · simp only [State.placeReply_frame, State.invalidateWays_eq, State.invalidateEach_find, mem_waysOfSet]
  · rw [State.placeReply_slot, State.invalidated, State.invalidateWays_count]
  · have hfind := Table.find_of_mem ((soundEntries_iff _).2 hs).sorted hw
    exact State.invalidateEach_idle ((mem_waysOfSet _ _).2 hin) hfind hstate hseg
  · have hempty : u.invalidateWays set.toNat = u := State.invalidateEach_of_none fun k hk =>
      Option.eq_none_iff_forall_ne_some.2 fun e he => hnone _ (Table.mem_of_find he) ((mem_waysOfSet _ _).1 hk)
    rw [hempty]
    rfl

/-- Settles O33: each command by the ways it empties, and its refusal by the range of its arguments. -/
theorem invalidationsEmptyTheirWays : Obligations.InvalidationsEmptyTheirWays := by
  refine fun s u hs => ⟨fun set way h hset hway => invalidate_entry hs h hset hway,
    fun seg h hlow hhigh => invalidate_segment hs h hlow hhigh, fun set h hset => invalidate_set hs h hset,
    fun set way h hout => ?_, fun seg h hout => ?_, fun set h hout => ?_⟩
  · refine congrArg _ ((State.hostCommand_inAny State.invalidateEntry h rfl).trans ?_)
    rw [State.invalidateEntry, if_neg (by rw [wayOk_iff]; dsimp only; omega)]
    rfl
  · refine congrArg _ ((State.hostCommand_inAny State.invalidateSegment h rfl).trans ?_)
    rw [State.invalidateSegment, if_neg (by rw [segOk_iff]; omega)]
    rfl
  · refine congrArg _ ((State.hostCommand_inAny State.invalidateSet h rfl).trans ?_)
    rw [State.invalidateSet, if_neg (by omega)]
    rfl

end Sys2Proof.Proofs
end

section
/-! PROOFS. The victim of a set, and how a holding is recorded (R117, R118). -/

-- One declaration at a time: side by side they need more threads than the check's memory holds.
set_option Elab.async false

namespace Sys2Proof.Machine

open Sys2Proof.Safety

/-! ## The first empty way -/

/-- The first number of a rising list that passes a test. -/
theorem find?_eq_some_of_rising {l : List Nat} (hl : l.Pairwise (· < ·)) (p : Nat → Bool) (k : Nat) :
    l.find? p = some k ↔ k ∈ l ∧ p k = true ∧ ∀ j ∈ l, j < k → p j = false := by
  induction l with
  | nil => simp
  | cons n l ih =>
    obtain ⟨hn, hrest⟩ := List.pairwise_cons.1 hl
    cases hp : p n with
    | true =>
      rw [List.find?_cons_of_pos hp, Option.some_inj]
      constructor
      · rintro rfl
        refine ⟨List.mem_cons_self, hp, fun j hj hlt => ?_⟩
        obtain rfl | hj := List.mem_cons.1 hj
        · exact absurd hlt (Nat.lt_irrefl j)
        · exact absurd hlt (Nat.lt_asymm (hn j hj))
      · rintro ⟨hk, -, hfirst⟩
        obtain rfl | hk := List.mem_cons.1 hk
        · rfl
        · exact absurd (hfirst n List.mem_cons_self (hn k hk)) (by simp [hp])
    | false =>
      rw [List.find?_cons_of_neg (by simp [hp]), ih hrest]
      constructor
      · rintro ⟨hk, hpk, hfirst⟩
        exact ⟨List.mem_cons_of_mem _ hk, hpk, List.forall_mem_cons.2 ⟨fun _ => hp, hfirst⟩⟩
      · rintro ⟨hk, hpk, hfirst⟩
        obtain rfl | hk := List.mem_cons.1 hk
        · rw [hp] at hpk
          cases hpk
        · exact ⟨hk, hpk, fun j hj => hfirst j (List.mem_cons_of_mem _ hj)⟩

theorem firstInvalid_eq_some {ways : Table CacheEntry} {set k : Nat} :
    firstInvalid ways set = some k
      ↔ k / 4 = set ∧ Table.find ways k = none ∧ ∀ j, j < k → j / 4 = set → Table.find ways j ≠ none := by
  have hrising : ([0, 1, 2, 3].map (fun w => 4 * set + w)).Pairwise (· < ·) := by simp
  rw [firstInvalid, find?_eq_some_of_rising hrising, mem_waysOfSet, Option.isNone_iff_eq_none]
  refine and_congr_right fun _ => and_congr_right fun _ => forall_congr' fun j => ?_
  rw [mem_waysOfSet, ← Bool.not_eq_true, Option.isNone_iff_eq_none]
  exact forall_comm

theorem firstInvalid_eq_none {ways : Table CacheEntry} {set : Nat} :
    firstInvalid ways set = none ↔ ∀ j, j / 4 = set → Table.find ways j ≠ none := by
  rw [firstInvalid, List.find?_eq_none]
  refine forall_congr' fun j => ?_
  rw [mem_waysOfSet, Option.isNone_iff_eq_none]

/-! ## The oldest entry that may be replaced -/

/-- The entry of a set that a holding may replace: HELD, not pinned and not barred (R117 step 2, R119). -/
structure Replaceable (set : Nat) (barred : List Nat) (w : Nat × CacheEntry) : Prop where
  set : w.1 / 4 = set
  unpinned : w.2.pins = []
  held : w.2.status = .held
  free : w.2.seg ∉ barred

/-- `w` is older than `g`, or as old and in no higher way. -/
def NoYounger (w g : Nat × CacheEntry) : Prop := g.2.age < w.2.age ∨ (g.2.age = w.2.age ∧ w.1 ≤ g.1)

theorem NoYounger.antisymm {v w : Nat × CacheEntry} (h : NoYounger v w) (g : NoYounger w v) : v.1 = w.1 := by
  unfold NoYounger at h g
  omega

/-- The fold over the entries of rising ways ends at the oldest, the lowest of equal ages. -/
theorem foldl_older_noYounger {e : Nat × CacheEntry} {l : List (Nat × CacheEntry)}
    (hl : (e :: l).Pairwise (fun v w => v.1 < w.1)) : ∀ g ∈ e :: l, NoYounger (l.foldl older e) g := by
  induction l generalizing e with
  | nil =>
    intro g hg
    rw [List.mem_singleton.1 hg]
    exact .inr ⟨rfl, Nat.le_refl _⟩
  | cons x l ih =>
    obtain ⟨he, hrest⟩ := List.pairwise_cons.1 hl
    obtain ⟨hx, htail⟩ := List.pairwise_cons.1 hrest
    have hex := he x List.mem_cons_self
    rw [List.foldl_cons, older]
    split
    next hyounger =>
      have hall := ih hrest
      refine List.forall_mem_cons.2 ⟨?_, hall⟩
      have hfirst := hall x List.mem_cons_self
      unfold NoYounger at hfirst ⊢
      omega
    next hnotyounger =>
      have hall := ih (List.pairwise_cons.2 ⟨fun g hg => he g (List.mem_cons_of_mem _ hg), htail⟩)
      obtain ⟨hfirst, hothers⟩ := List.forall_mem_cons.1 hall
      refine List.forall_mem_cons.2 ⟨hfirst, List.forall_mem_cons.2 ⟨?_, hothers⟩⟩
      unfold NoYounger at hfirst ⊢
      omega

theorem oldestUnpinned_eq_some {ways : Table CacheEntry} (hw : Table.wf ways = true) {set k : Nat} {barred : List Nat} :
    oldestUnpinned ways set barred = some k
      ↔ ∃ w ∈ ways, w.1 = k ∧ Replaceable set barred w ∧ ∀ g ∈ ways, Replaceable set barred g → NoYounger w g := by
  have hmem (w : Nat × CacheEntry) : w ∈ ways.filter (fun e => e.1 / 4 == set && e.2.pins.isEmpty && e.2.status == .held
      && !barred.contains e.2.seg) ↔ w ∈ ways ∧ Replaceable set barred w := by
    rw [List.mem_filter]
    refine and_congr_right fun _ => ?_
    simp only [Bool.and_eq_true, beq_iff_eq, List.isEmpty_iff, Bool.not_eq_true', ← Bool.not_eq_true, List.contains_iff_mem]
    exact ⟨fun ⟨⟨⟨hset, hpins⟩, hheld⟩, hfree⟩ => ⟨hset, hpins, hheld, hfree⟩,
      fun ⟨hset, hpins, hheld, hfree⟩ => ⟨⟨⟨hset, hpins⟩, hheld⟩, hfree⟩⟩
  have hrising := ((Table.wf_iff ways).1 hw).filter (fun e => e.1 / 4 == set && e.2.pins.isEmpty && e.2.status == .held
      && !barred.contains e.2.seg)
  unfold oldestUnpinned
  split
  next hnil =>
    rw [hnil] at hmem
    constructor
    · nofun
    · rintro ⟨w, hw, -, hrep, -⟩
      exact absurd ((hmem w).2 ⟨hw, hrep⟩) List.not_mem_nil
  next e rest hcons =>
    rw [hcons] at hmem hrising
    have hoff := foldl_older_noYounger hrising
    obtain ⟨hin, hrep⟩ := (hmem _).1 (mem_of_foldl_older e rest)
    rw [Option.some_inj]
    constructor
    · rintro rfl
      exact ⟨_, hin, rfl, hrep, fun g hg hgrep => hoff g ((hmem g).2 ⟨hg, hgrep⟩)⟩
    · rintro ⟨w, hw, rfl, hwrep, hwoff⟩
      exact (hoff w ((hmem w).2 ⟨hw, hwrep⟩)).antisymm (hwoff _ hin hrep)

/-! ## The victim (R117 step 2) -/

/-- The victim of a set without an empty way, entry by entry. -/
theorem oldestUnpinned_iff_find {ways : Table CacheEntry} (hw : Table.wf ways = true) {set k : Nat} {barred : List Nat} :
    oldestUnpinned ways set barred = some k
      ↔ k / 4 = set ∧ ∃ e, Table.find ways k = some e ∧ e.pins = [] ∧ e.status = .held ∧ e.seg ∉ barred
          ∧ ∀ j f, j / 4 = set → Table.find ways j = some f → f.pins = [] → f.status = .held → f.seg ∉ barred →
              f.age < e.age ∨ (f.age = e.age ∧ k ≤ j) := by
  rw [oldestUnpinned_eq_some hw]
  constructor
  · rintro ⟨⟨k, e⟩, hmem, rfl, ⟨hset, hpins, hheld, hfree⟩, hoff⟩
    exact ⟨hset, e, Table.find_of_mem hw hmem, hpins, hheld, hfree, fun j f hj hf hfpins hfheld hffree =>
      hoff (j, f) (Table.mem_of_find hf) ⟨hj, hfpins, hfheld, hffree⟩⟩
  · rintro ⟨hset, e, hfind, hpins, hheld, hfree, hoff⟩
    exact ⟨(k, e), Table.mem_of_find hfind, rfl, ⟨hset, hpins, hheld, hfree⟩, fun ⟨j, f⟩ hmem ⟨hj, hfpins, hfheld, hffree⟩ =>
      hoff j f hj (Table.find_of_mem hw hmem) hfpins hfheld hffree⟩

theorem victim_iff {ways : Table CacheEntry} (hw : Table.wf ways = true) (set k : Nat) (barred : List Nat) :
    victim ways set barred = some k ↔ k / 4 = set ∧
      ((Table.find ways k = none ∧ ∀ j, j < k → j / 4 = set → Table.find ways j ≠ none)
      ∨ ((∀ j, j / 4 = set → Table.find ways j ≠ none)
        ∧ ∃ e, Table.find ways k = some e ∧ e.pins = [] ∧ e.status = .held ∧ e.seg ∉ barred
          ∧ ∀ j f, j / 4 = set → Table.find ways j = some f → f.pins = [] → f.status = .held → f.seg ∉ barred →
              f.age < e.age ∨ (f.age = e.age ∧ k ≤ j))) := by
  unfold victim
  split
  next n hfirst =>
    obtain ⟨hset, hempty, -⟩ := firstInvalid_eq_some.1 hfirst
    rw [← hfirst, firstInvalid_eq_some]
    refine and_congr_right fun _ => ⟨.inl, fun h => h.resolve_right fun ⟨hfull, _⟩ => hfull n hset hempty⟩
  next hnone =>
    have hfull := firstInvalid_eq_none.1 hnone
    rw [oldestUnpinned_iff_find hw]
    refine and_congr_right fun hset => ⟨fun h => .inr ⟨hfull, h⟩, fun h => ?_⟩
    exact (h.resolve_left fun ⟨hempty, _⟩ => hfull k hset hempty).2

/-- What a victim way held before is an unpinned HELD entry. -/
theorem unpinned_of_victim {ways : Table CacheEntry} (hw : Table.wf ways = true) {set k : Nat} {barred : List Nat}
    (h : victim ways set barred = some k) {e : CacheEntry} (he : Table.find ways k = some e) :
    e.pins = [] ∧ e.status = .held := by
  obtain ⟨-, ⟨hempty, -⟩ | ⟨-, f, hf, hpins, hheld, -, -⟩⟩ := (victim_iff hw set k barred).1 h
  · rw [hempty] at he
    cases he
  · rw [hf] at he
    cases he
    exact ⟨hpins, hheld⟩

/-! ## A holding written (R117, R118) -/

theorem SoundEntries.findEntry_of_find {ways : Table CacheEntry} (h : SoundEntries ways) {k seg : Nat} {e : CacheEntry}
    (he : Table.find ways k = some e) (hseg : e.seg = seg) : findEntry ways seg = some (k, e) :=
  hseg ▸ h.findEntry_of_mem (Table.mem_of_find he)

/-- The entry of a segment as a holding leaves it; its pins stay. -/
def CacheEntry.heldBy (e : CacheEntry) (x : Nat) (mark : Mark) (source : Source) : CacheEntry :=
  { e with holder := x, mark := some mark, status := .held, age := 0, source := some source }

/-- A segment with an entry has it refreshed, and a replaced holder is reported. -/
theorem State.writeHolding_of_entry {s : State} {seg k : Nat} {e : CacheEntry} (h : findEntry s.cache.ways seg = some (k, e))
    (x : Nat) (mark : Mark) (source : Source) (barred : List Nat) :
    s.writeHolding seg x mark source barred
      = if e.holder ≠ 0 ∧ e.holder ≠ x then
          (s.setWays (Table.insert s.cache.ways k (e.heldBy x mark source))).cacheReport seg e.holder
        else s.setWays (Table.insert s.cache.ways k (e.heldBy x mark source)) := by
  unfold State.writeHolding
  rw [h]
  rfl

theorem State.writeHolding_of_victim {s : State} {seg k : Nat} {barred : List Nat} (h : findEntry s.cache.ways seg = none)
    (hvictim : victim s.cache.ways (cacheSet seg) barred = some k) (x : Nat) (mark : Mark) (source : Source) :
    s.writeHolding seg x mark source barred
      = s.setWays (Table.insert s.cache.ways k ⟨seg, x, some mark, .held, 0, [], some source⟩) := by
  unfold State.writeHolding
  rw [h]
  dsimp only
  rw [hvictim]

theorem State.writeHolding_of_full {s : State} {seg : Nat} {barred : List Nat} (h : findEntry s.cache.ways seg = none)
    (hvictim : victim s.cache.ways (cacheSet seg) barred = none) (x : Nat) (mark : Mark) (source : Source) :
    s.writeHolding seg x mark source barred = s.setCache { s.cache with full := inc16 s.cache.full } := by
  unfold State.writeHolding
  rw [h]
  dsimp only
  rw [hvictim]

/-- The cache after a refreshed entry: the one way rewritten. -/
theorem State.writeHolding_cache_of_entry {s : State} {seg k : Nat} {e : CacheEntry}
    (h : findEntry s.cache.ways seg = some (k, e)) (x : Nat) (mark : Mark) (source : Source) (barred : List Nat) :
    (s.writeHolding seg x mark source barred).cache
      = { s.cache with ways := Table.insert s.cache.ways k (e.heldBy x mark source) } := by
  rw [State.writeHolding_of_entry h]
  split
  · exact (State.cacheReport_frame _ _ _).2.2.2.2.2.2.2.2.1
  · rfl

/-- A BLOCKED wait on the replaced holder ends (R118). -/
theorem State.writeHolding_ends_wait {s : State} {seg k : Nat} {e : CacheEntry} (h : findEntry s.cache.ways seg = some (k, e))
    {x : Nat} (hholder : e.holder ≠ 0 ∧ e.holder ≠ x) (hstate : s.claim.record.state = .blocked)
    (hseg : s.claim.record.waitSeg = some seg) (hwait : s.claim.record.holder = some e.holder) (mark : Mark) (source : Source)
    (barred : List Nat) : (s.writeHolding seg x mark source barred).claim.record.state = .idle := by
  rw [State.writeHolding_of_entry h, if_pos hholder, State.cacheReport,
    if_pos (by simp [ClaimRecord.blockedOn, hstate, hseg, hwait]), State.toIdle_idle]
  rfl

/-- A holding leaves a pinned, a STALE and a placeholder entry of any other segment. -/
theorem State.writeHolding_keeps {s : State} (hs : WaysSound s.cache.ways) {w : Nat × CacheEntry} (hw : w ∈ s.cache.ways)
    (hkept : w.2.pins ≠ [] ∨ w.2.status ≠ .held) {seg : Nat} (hother : w.2.seg ≠ seg) (x : Nat) (mark : Mark)
    (source : Source) (barred : List Nat) : w ∈ (s.writeHolding seg x mark source barred).cache.ways := by
  have hfind := Table.find_of_mem hs.wf hw
  cases hfound : findEntry s.cache.ways seg with
  | some v =>
    obtain ⟨hv, hseg, -⟩ := mem_of_findEntry hfound
    rw [State.writeHolding_cache_of_entry hfound]
    refine Table.mem_insert_of_ne hs.wf hw (fun hkey => hother ?_) _
    rw [hkey, Table.find_of_mem hs.wf hv] at hfind
    rw [← Option.some.inj hfind, hseg]
  | none =>
    cases hvictim : victim s.cache.ways (cacheSet seg) barred with
    | some k =>
      rw [State.writeHolding_of_victim hfound hvictim]
      refine Table.mem_insert_of_ne hs.wf hw (fun hkey => ?_) _
      obtain ⟨hpins, hheld⟩ := unpinned_of_victim hs.wf hvictim (hkey ▸ hfind)
      exact hkept.elim (absurd hpins) (absurd hheld)
    | none =>
      rw [State.writeHolding_of_full hfound hvictim]
      exact hw

end Sys2Proof.Machine
end

section
/-! PROOFS. What a BEACON does to the cache (R119), the table of pins (R124) and the removal of a tag's pins (R125). -/

-- One declaration at a time: side by side they need more threads than the check's memory holds.
set_option Elab.async false

namespace Sys2Proof.Machine

open Sys2Proof.Safety

/-! ## A BEACON at the cache (R119) -/

/-- The listed entries that a BEACON writes. -/
def writtenOf (listed : List HeldEntry) (skip : List Nat) : List HeldEntry := listed.filter (fun e => !skip.contains e.seg)

theorem mem_writtenOf {listed : List HeldEntry} {skip : List Nat} {e : HeldEntry} :
    e ∈ writtenOf listed skip ↔ e ∈ listed ∧ e.seg ∉ skip := by
  simp [writtenOf]

theorem listed_of_written {listed : List HeldEntry} {skip : List Nat} {n : Nat} (h : n ∈ heldSegs (writtenOf listed skip)) :
    n ∈ heldSegs listed ∧ n ∉ skip := by
  obtain ⟨e, he, rfl⟩ := List.mem_map.1 h
  obtain ⟨hlisted, hskip⟩ := mem_writtenOf.1 he
  exact ⟨List.mem_map_of_mem hlisted, hskip⟩

theorem State.cacheBeacon_steps (s : State) (x : Nat) (listed : List HeldEntry) (skip : List Nat) :
    s.cacheBeacon x listed skip
      = ((s.sweep x (heldSegs listed)).refreshAll x (writtenOf listed skip)).fillAll x (heldSegs (writtenOf listed skip))
          (writtenOf listed skip) := rfl

theorem State.cacheBeacon_wf {s : State} (hs : WaysSound s.cache.ways) (x : Nat) (listed : List HeldEntry) (skip : List Nat) :
    Table.wf (s.cacheBeacon x listed skip).cache.ways = true := by
  obtain ⟨hrefreshed, -⟩ := State.refreshAll_spec (State.sweep_sound hs x (heldSegs listed)) x (writtenOf listed skip)
  obtain ⟨hfilled, -⟩ := State.fillAll_spec hrefreshed x (heldSegs (writtenOf listed skip)) (writtenOf listed skip)
  exact hfilled.wf

/-- Each listed segment that is not skipped is recorded, or had no entry and found no victim. -/
theorem State.cacheBeacon_recorded_of_written {s : State} (hs : WaysSound s.cache.ways) (x : Nat) {listed : List HeldEntry}
    (hnodup : (heldSegs listed).Nodup) {skip : List Nat} {e : HeldEntry} (he : e ∈ writtenOf listed skip) :
    Recorded (s.cacheBeacon x listed skip).cache.ways e.seg x e.mark .beacon
      ∨ (¬HasEntry s.cache.ways e.seg ∧ Grown s.cache.full (s.cacheBeacon x listed skip).cache.full) := by
  rw [State.cacheBeacon_steps]
  have hin : e.seg ∈ heldSegs (writtenOf listed skip) := List.mem_map_of_mem he
  have hwritten : (heldSegs (writtenOf listed skip)).Nodup := hnodup.sublist (List.filter_sublist.map _)
  have hswept := State.sweep_sound hs x (heldSegs listed)
  obtain ⟨hsound, -, -, hentries, hfull⟩ := State.refreshAll_spec hswept x (writtenOf listed skip)
  obtain ⟨-, -, hstays, -⟩ := State.fillAll_spec hsound x (heldSegs (writtenOf listed skip)) (writtenOf listed skip)
  by_cases hentry : HasEntry (s.sweep x (heldSegs listed)).cache.ways e.seg
  · exact .inl ((State.refreshAll_recorded hswept x hwritten he hentry).of_mem
      fun w hw hseg => hstays w hw (by rw [hseg]; exact hin))
  · have hnone : ¬HasEntry s.cache.ways e.seg := fun ⟨w, hw, hseg⟩ =>
      hentry ⟨w, State.mem_sweep_of_listed hs.wf x hw (by rw [hseg]; exact (listed_of_written hin).1), hseg⟩
    exact (State.fillAll_recorded hsound x s.cache.full (.inl (hfull.trans (s.sweep_full x _))) he hin hwritten
      (.inr fun h => hentry ((hentries _).1 h))).imp_right fun hgrown => ⟨hnone, hgrown⟩

/-- Filling leaves the pinned, STALE and placeholder entries of segments that are not filled. -/
theorem State.fillAll_keeps {s : State} (hs : WaysSound s.cache.ways) {w : Nat × CacheEntry} (hw : w ∈ s.cache.ways)
    (hkept : w.2.pins ≠ [] ∨ w.2.status ≠ .held) (x : Nat) (barred : List Nat) {l : List HeldEntry}
    (hout : w.2.seg ∉ heldSegs l) : w ∈ (s.fillAll x barred l).cache.ways := by
  induction l generalizing s with
  | nil => exact hw
  | cons e l ih =>
    simp only [heldSegs, List.map_cons, List.mem_cons, not_or] at hout
    obtain ⟨hother, hout⟩ := hout
    rw [State.fillAll_cons]
    refine ih (State.fill_others hs x barred e).1 ?_ hout
    unfold State.fill
    split
    · exact State.writeHolding_keeps hs hw hkept hother x _ _ _
    · exact hw

/-- What the sweep left pinned, STALE or as a placeholder stays, where its segment is not written. -/
theorem State.cacheBeacon_find_of_sweep {s : State} (hs : WaysSound s.cache.ways) {x : Nat} {listed : List HeldEntry}
    {skip : List Nat} {k : Nat} {e : CacheEntry} (hfind : Table.find (s.sweep x (heldSegs listed)).cache.ways k = some e)
    (hkept : e.pins ≠ [] ∨ e.status ≠ .held) (hout : e.seg ∉ heldSegs (writtenOf listed skip)) :
    Table.find (s.cacheBeacon x listed skip).cache.ways k = some e := by
  obtain ⟨hsound, -, hstays, -⟩ :=
    State.refreshAll_spec (State.sweep_sound hs x (heldSegs listed)) x (writtenOf listed skip)
  refine Table.find_of_mem (State.cacheBeacon_wf hs x listed skip) ?_
  exact State.fillAll_keeps hsound (hstays _ (Table.mem_of_find hfind) hout) hkept x _ hout

/-- The sweep frees the entries of the source that are not listed, and no others (R119 step 1). -/
theorem State.find_sweep {s : State} (hs : WaysSound s.cache.ways) (x : Nat) (listed : List Nat) {k : Nat} {e : CacheEntry}
    (h : Table.find s.cache.ways k = some e) :
    Table.find (s.sweep x listed).cache.ways k
      = if e.holder = x ∧ e.seg ∉ listed then freedEntry (some .beacon) e else some e := by
  refine (find_freed_waysOf hs.wf _ _ _ h).trans (if_congr (and_congr_right fun _ => ?_) rfl rfl)
  simp

theorem freedEntry_of_pinned (source : Option Source) {e : CacheEntry} (h : e.pins ≠ []) :
    freedEntry source e = some (e.placeholder source) := by
  rw [freedEntry, if_neg (by simpa using h)]

/-! ## The table of pins (R124) -/

theorem PeerCache.pin_of_tagged {c : PeerCache} {tag seg k : Nat} {e : CacheEntry} (h : findEntry c.ways seg = some (k, e))
    (htag : tag ∈ e.pins) : c.pin tag seg = c := by
  unfold PeerCache.pin
  rw [h]
  exact if_pos (List.contains_iff_mem.2 htag)

theorem PeerCache.pin_of_room {c : PeerCache} {tag seg k : Nat} {e : CacheEntry} (h : findEntry c.ways seg = some (k, e))
    (htag : tag ∉ e.pins) (hroom : e.pins ≠ [] ∨ pinnedIn c.ways (cacheSet seg) < 3) :
    c.pin tag seg = { c with ways := Table.insert c.ways k { e with pins := e.pins ++ [tag] } } := by
  have hplace : ¬(e.pins.isEmpty = true ∧ 3 ≤ pinnedIn c.ways (cacheSet seg)) := fun ⟨hempty, hfull⟩ =>
    hroom.elim (absurd (List.isEmpty_iff.1 hempty)) (fun hlt => absurd hfull (Nat.not_le.2 hlt))
  unfold PeerCache.pin
  rw [h]
  exact (if_neg (by simpa using htag)).trans (if_neg hplace)

/-- A fourth pinned entry of a set is refused. -/
theorem PeerCache.pin_of_full_set {c : PeerCache} {tag seg k : Nat} {e : CacheEntry} (h : findEntry c.ways seg = some (k, e))
    (hpins : e.pins = []) (hfull : 3 ≤ pinnedIn c.ways (cacheSet seg)) : c.pin tag seg = c.refusePin := by
  unfold PeerCache.pin
  rw [h]
  exact (if_neg (by simp [hpins])).trans (if_pos ⟨by simp [hpins], hfull⟩)

/-- A segment without an entry gets a placeholder in the victim way. -/
theorem PeerCache.pin_of_victim {c : PeerCache} {tag seg k : Nat} (h : findEntry c.ways seg = none)
    (hroom : pinnedIn c.ways (cacheSet seg) < 3) (hvictim : victim c.ways (cacheSet seg) [] = some k) :
    c.pin tag seg = { c with ways := Table.insert c.ways k ⟨seg, 0, none, .none, 0, [tag], none⟩ } := by
  unfold PeerCache.pin
  rw [h]
  dsimp only
  rw [if_neg (Nat.not_le.2 hroom), hvictim]

/-- Without a place a placeholder counts as a refused pin alone (log 29). -/
theorem PeerCache.pin_without_place {c : PeerCache} {tag seg : Nat} (h : findEntry c.ways seg = none)
    (hplace : 3 ≤ pinnedIn c.ways (cacheSet seg) ∨ victim c.ways (cacheSet seg) [] = none) : c.pin tag seg = c.refusePin := by
  unfold PeerCache.pin
  rw [h]
  dsimp only
  split
  · rfl
  next hroom => rw [hplace.resolve_left hroom]

end Sys2Proof.Machine

namespace Sys2Proof.Proofs

open Sys2Proof.Machine Sys2Proof.Safety

/-! ## The parts of the statement -/

/-- R117, R118: a holding refreshes the entry of its segment, or fills the victim way, or is counted. -/
theorem holding_is_recorded (s : State) (seg x : Nat) (mark : Mark) (source : Source) (barred : List Nat)
    (hs : CacheSound s.cache) :
    (∀ k e, Table.find s.cache.ways k = some e → e.seg = seg →
      ∃ t, s.writeHolding seg x mark source barred = t
        ∧ Table.find t.cache.ways k
          = some { e with holder := x, mark := some mark, status := .held, age := 0, source := some source }
        ∧ (∀ j, j ≠ k → Table.find t.cache.ways j = Table.find s.cache.ways j)
        ∧ t.cache.full = s.cache.full ∧ t.cache.refused = s.cache.refused
        ∧ (e.holder ≠ 0 → e.holder ≠ x → s.claim.record.state = .blocked → s.claim.record.waitSeg = some seg →
            s.claim.record.holder = some e.holder → t.claim.record.state = .idle)
        ∧ (e.holder = 0 ∨ e.holder = x → t.claim = s.claim))
    ∧ ((∀ w ∈ s.cache.ways, w.2.seg ≠ seg) →
      (∀ k, victim s.cache.ways (seg % 16) barred = some k →
        ∃ ways, s.writeHolding seg x mark source barred = s.setCache { s.cache with ways := ways }
          ∧ Table.find ways k = some ⟨seg, x, some mark, .held, 0, [], some source⟩
          ∧ ∀ j, j ≠ k → Table.find ways j = Table.find s.cache.ways j)
      ∧ (victim s.cache.ways (seg % 16) barred = none →
        s.writeHolding seg x mark source barred
          = s.setCache { s.cache with full := min 65535 (s.cache.full + 1) })) := by
  refine ⟨fun k e hfind hseg => ⟨_, rfl, ?_⟩, fun hnone => ⟨fun k hvictim => ?_, fun hvictim => ?_⟩⟩
  · have hfound := ((soundEntries_iff _).2 hs).findEntry_of_find hfind hseg
    have hcache := State.writeHolding_cache_of_entry hfound x mark source barred
    refine ⟨?_, fun j hj => ?_, ?_, ?_, fun hheld hother hstate hwaits hholder => ?_, fun hsame => ?_⟩
    · rw [hcache]
      exact Table.find_insert_self _ _ _
    · rw [hcache]
      exact Table.find_insert_ne _ _ _ _ hj
    · rw [hcache]
    · rw [hcache]
    · exact State.writeHolding_ends_wait hfound ⟨hheld, hother⟩ hstate hwaits hholder mark source barred
    · rw [State.writeHolding_of_entry hfound, if_neg (fun ⟨hheld, hother⟩ => hsame.elim hheld hother)]
      rfl
  · have hmissing := (findEntry_eq_none (inOwnSets_of_cacheSound hs) seg).2 hnone
    exact ⟨_, State.writeHolding_of_victim hmissing hvictim x mark source, Table.find_insert_self _ _ _,
      fun j hj => Table.find_insert_ne _ _ _ _ hj⟩
  · have hmissing := (findEntry_eq_none (inOwnSets_of_cacheSound hs) seg).2 hnone
    exact State.writeHolding_of_full hmissing hvictim x mark source

/-- R119: the sweep, the recording of the listed segments, and what of the other entries stays. -/
theorem beacon_at_cache (s : State) (x : Nat) (listed : List HeldEntry) (skip : List Nat) (hsound : CacheSound s.cache)
    (hx : x ≠ 0) (hnodup : (heldSegs listed).Nodup) :
    ∃ t, s.cacheBeacon x listed skip = t
      ∧ (∀ w ∈ t.cache.ways, w.2.holder = x → w.2.seg ∈ heldSegs listed)
      ∧ (∀ e ∈ listed, e.seg ∉ skip →
          (∃ w ∈ t.cache.ways, w.2.seg = e.seg ∧ w.2.holder = x ∧ w.2.mark = some e.mark ∧ w.2.status = .held
            ∧ w.2.age = 0 ∧ w.2.source = some .beacon)
          ∨ ((∀ w ∈ s.cache.ways, w.2.seg ≠ e.seg) ∧ (s.cache.full < t.cache.full ∨ t.cache.full = 65535)))
      ∧ (∀ k e, Table.find s.cache.ways k = some e → e.pins ≠ [] → e.holder = x → e.seg ∉ heldSegs listed →
          Table.find t.cache.ways k
            = some { e with holder := 0, mark := none, status := .none, age := 0, source := some .beacon })
      ∧ (∀ k e, Table.find s.cache.ways k = some e → e.pins ≠ [] → e.seg ∈ heldSegs listed → e.seg ∈ skip →
          Table.find t.cache.ways k = some e)
      ∧ (∀ k e, Table.find s.cache.ways k = some e → e.pins ≠ [] ∨ e.status = .stale → e.holder ≠ x →
          e.seg ∉ heldSegs listed → Table.find t.cache.ways k = some e) := by
  have hs := waysSound_of_cacheSound hsound
  refine ⟨_, rfl, fun w hw hholder => State.cacheBeacon_named hs hx listed skip hw hholder, fun e he hskip => ?_,
    fun k e hfind hpins hholder hout => ?_, fun k e hfind hpins hin hskip => ?_, fun k e hfind hkept hother hout => ?_⟩
  · refine (State.cacheBeacon_recorded_of_written hs x hnodup (mem_writtenOf.2 ⟨he, hskip⟩)).imp ?_ ?_
    · rintro ⟨w, hw, hseg, hholder, hstatus, hage, hmark, hsource⟩
      exact ⟨w, hw, hseg, hholder, hmark, hstatus, hage, hsource⟩
    · rintro ⟨hnone, hgrown⟩
      exact ⟨fun w hw hseg => hnone ⟨w, hw, hseg⟩, hgrown⟩
  · have hswept := State.find_sweep hs x (heldSegs listed) hfind
    rw [if_pos ⟨hholder, hout⟩, freedEntry_of_pinned _ hpins] at hswept
    exact State.cacheBeacon_find_of_sweep hs hswept (.inl hpins) fun hwritten => hout (listed_of_written hwritten).1
  · have hswept := State.find_sweep hs x (heldSegs listed) hfind
    rw [if_neg (fun h => h.2 hin)] at hswept
    exact State.cacheBeacon_find_of_sweep hs hswept (.inl hpins) fun hwritten => (listed_of_written hwritten).2 hskip
  · have hswept := State.find_sweep hs x (heldSegs listed) hfind
    rw [if_neg (fun h => hother h.1)] at hswept
    refine State.cacheBeacon_find_of_sweep hs hswept (hkept.imp_right fun hstale => ?_)
      fun hwritten => hout (listed_of_written hwritten).1
    rw [hstale]
    decide

/-- R124: the table of pins, row by row. -/
theorem pin_table (c : PeerCache) (tag seg : Nat) (hs : CacheSound c) :
    (∀ k e, Table.find c.ways k = some e → e.seg = seg →
      (tag ∈ e.pins → c.pin tag seg = c)
      ∧ (tag ∉ e.pins → e.pins ≠ [] ∨ pinnedIn c.ways (seg % 16) < 3 →
          Table.find (c.pin tag seg).ways k = some { e with pins := e.pins ++ [tag] }
          ∧ (∀ j, j ≠ k → Table.find (c.pin tag seg).ways j = Table.find c.ways j)
          ∧ (c.pin tag seg).refused = c.refused)
      ∧ (e.pins = [] → 3 ≤ pinnedIn c.ways (seg % 16) →
          c.pin tag seg = { c with refused := min 65535 (c.refused + 1) }))
    ∧ ((∀ w ∈ c.ways, w.2.seg ≠ seg) →
      (∀ k, pinnedIn c.ways (seg % 16) < 3 → victim c.ways (seg % 16) [] = some k →
        Table.find (c.pin tag seg).ways k = some ⟨seg, 0, none, .none, 0, [tag], none⟩
        ∧ (∀ j, j ≠ k → Table.find (c.pin tag seg).ways j = Table.find c.ways j)
        ∧ (c.pin tag seg).full = c.full ∧ (c.pin tag seg).refused = c.refused)
      ∧ (3 ≤ pinnedIn c.ways (seg % 16) ∨ victim c.ways (seg % 16) [] = none →
        c.pin tag seg = { c with refused := min 65535 (c.refused + 1) })) := by
  refine ⟨fun k e hfind hseg => ?_, fun hnone => ?_⟩
  · have hfound := ((soundEntries_iff _).2 hs).findEntry_of_find hfind hseg
    refine ⟨PeerCache.pin_of_tagged hfound, fun htag hroom => ?_, PeerCache.pin_of_full_set hfound⟩
    rw [PeerCache.pin_of_room hfound htag hroom]
    exact ⟨Table.find_insert_self _ _ _, fun j hj => Table.find_insert_ne _ _ _ _ hj, rfl⟩
  · have hmissing := (findEntry_eq_none (inOwnSets_of_cacheSound hs) seg).2 hnone
    refine ⟨fun k hroom hvictim => ?_, PeerCache.pin_without_place hmissing⟩
    rw [PeerCache.pin_of_victim hmissing hroom hvictim]
    exact ⟨Table.find_insert_self _ _ _, fun j hj => Table.find_insert_ne _ _ _ _ hj, rfl, rfl⟩

/-- R125: a removed tag leaves the pins, and a placeholder without pins leaves the cache. -/
theorem unpin_by_way (c : PeerCache) (tag k : Nat) (p : Nat → Bool) (hw : Table.wf c.ways = true) :
    Table.find (c.unpin tag p).ways k
      = (Table.find c.ways k).bind (fun e =>
          if tag ∈ e.pins ∧ p e.seg = true then
            (if e.pins.filter (fun x => x != tag) = [] ∧ e.status = .none then none
             else some { e with pins := e.pins.filter (fun x => x != tag) })
          else some e) := by
  have hkeys (w v : Nat × CacheEntry) (h : unpinEntry tag p w = some v) : v.1 = w.1 := by
    simp only [unpinEntry] at h
    split at h
    · split at h <;> cases h
      rfl
    · cases h; rfl
  refine (Table.find_filterMap hw hkeys k).trans (Option.bind_congr fun e _ => ?_)
  simp only [unpinEntry, Bool.and_eq_true, List.contains_iff_mem, List.isEmpty_iff, beq_iff_eq]
  split
  · split <;> rfl
  · rfl

/-- Settles O55: the victim, the holdings, a BEACON, the pins set and the pins removed, each by its own rule. -/
theorem cacheTakesBeaconsAndPins : Obligations.CacheTakesBeaconsAndPins :=
  ⟨fun _ set k barred hw => victim_iff hw set k barred,
    fun s seg x mark source barred hs => holding_is_recorded s seg x mark source barred hs,
    fun s x listed skip hs hx hnodup => beacon_at_cache s x listed skip hs hx hnodup,
    fun c tag seg hs => pin_table c tag seg hs, fun c tag k p hw => unpin_by_way c tag k p hw⟩

end Sys2Proof.Proofs
end
